-- ==== Sys2Proof/Word.lean ====
section
/-!
DEFINITION. The word types of the Dezbor CSC-24: bytes of a frame (R151), words of the setting memory (chapter 12),
and the running time of a timer.
-/

namespace Sys2Proof

/-- One byte of a frame on the crushing line (R151). -/
abbrev Byte := BitVec 8

/-- One 16-bit word of the setting memory, or one 16-bit field of a frame (sections 12.5 and 12.6). -/
abbrev Word := BitVec 16

/-- A timer: `none` while it is stopped, otherwise the milliseconds it has left. A timer that is *held* (R93, R101)
keeps its value; what holds it stands with the activity that owns it. -/
abbrev Timer := Option Nat

end Sys2Proof
end

