-- ==== Sys2Proof/Config.lean ====
section
/-!
DEFINITION. What one station's setting memory fixes for a whole run (section 12.5), and the model's free values.
-/

namespace Sys2Proof

/-- Station kind (section 12.5, word 0 high; section 12.6, STATUS byte 0). `none` is the kind of a station whose
word 0 names neither stage, and the kind an UNCONFIGURED station reports (R156). -/
inductive StationKind where
  | none
  | primary
  | secondary
  deriving DecidableEq, Repr

/-- Flush mode (R68): what becomes of a share below the minimum feeder rate. -/
inductive FlushMode where
  | stop
  | hold
  deriving DecidableEq, Repr

/-- The configured settings, one field per setting of the table of section 12.5, in that table's order and units. -/
structure Settings where
  kind              : StationKind
  flushMode         : FlushMode
  pileInput         : Bool
  groupCode         : Byte
  beltMask          : Byte
  powerMask         : Byte
  pulseWeight       : Nat
  reportPeriod      : Nat
  sharePeriod       : Nat
  sampleWindow      : Nat
  forgetTime        : Nat
  feederCapacity    : Nat
  rMin              : Nat
  rampUp            : Nat
  rampDown          : Nat
  capacityCoeff     : Nat
  capacityCeiling   : Nat
  beltLimit         : Nat
  powerBudget       : Nat
  trimBand          : Nat
  trimStep          : Nat
  trimFloor         : Nat
  ratedPower        : Nat
  powerSpan         : Nat
  overPower         : Nat
  underPower        : Nat
  pressureSpan      : Nat
  pressureOver      : Nat
  trampMark         : Nat
  settleMark        : Nat
  contactMark       : Nat
  cavityEmpty       : Nat
  cavityHigh        : Nat
  cavityFull        : Nat
  hwLo              : Nat
  hwHi              : Nat
  lwLo              : Nat
  lwHi              : Nat
  blindFactor       : Nat
  gapMin            : Nat
  gapMax            : Nat
  startGap          : Nat
  stroke            : Nat
  holdBand          : Nat
  stepSize          : Nat
  closeCount        : Nat
  openCount         : Nat
  provisionalMargin : Nat
  moveTimeout       : Nat
  trampJump         : Nat
  settleTime        : Nat
  trampWindow       : Nat
  clearTime         : Nat
  pulseOn           : Nat
  pulseOff          : Nat
  seekLimit         : Nat
  wearRate          : Nat
  linerWearLimit    : Nat
  primingTimeout    : Nat
  deriving DecidableEq, Repr

/-- What the settings field of the state holds between reset and the end of the start sequence: nothing has been read
yet and the station has no defaults (R162), so every number is 0 (log entry 6, DESIGN CHOICE). No active block reads
it. -/
def Settings.unread : Settings where
  kind := .none
  flushMode := .stop
  pileInput := false
  groupCode := 0
  beltMask := 0
  powerMask := 0
  pulseWeight := 0
  reportPeriod := 0
  sharePeriod := 0
  sampleWindow := 0
  forgetTime := 0
  feederCapacity := 0
  rMin := 0
  rampUp := 0
  rampDown := 0
  capacityCoeff := 0
  capacityCeiling := 0
  beltLimit := 0
  powerBudget := 0
  trimBand := 0
  trimStep := 0
  trimFloor := 0
  ratedPower := 0
  powerSpan := 0
  overPower := 0
  underPower := 0
  pressureSpan := 0
  pressureOver := 0
  trampMark := 0
  settleMark := 0
  contactMark := 0
  cavityEmpty := 0
  cavityHigh := 0
  cavityFull := 0
  hwLo := 0
  hwHi := 0
  lwLo := 0
  lwHi := 0
  blindFactor := 0
  gapMin := 0
  gapMax := 0
  startGap := 0
  stroke := 0
  holdBand := 0
  stepSize := 0
  closeCount := 0
  openCount := 0
  provisionalMargin := 0
  moveTimeout := 0
  trampJump := 0
  settleTime := 0
  trampWindow := 0
  clearTime := 0
  pulseOn := 0
  pulseOff := 0
  seekLimit := 0
  wearRate := 0
  linerWearLimit := 0
  primingTimeout := 0

/-- FREE VALUE (log entry 9). The average that a window close forms from a sum to which no reading was added. The spec
says that no such window exists (R8, R10: "no division is by zero"), so it gives no value; a command queue can still
close a window before any READING_EVENT. Applied to the state's `freeCount`, it is a fresh unknown at each use. -/
opaque Config.emptyMean : Nat → Nat

/-- FREE VALUE (log entry 35). What a field of a STATUS carries while its presence flag says that the value is absent: the
layout gives the flag and no coding of the absence (section 12.6). Applied to the state's `freeCount`, it is a fresh unknown at
each use. -/
opaque Config.absentField : Nat → Word

/-- FREE VALUE (log entries 41 and 42). What a word of the wear record holds where a campaign was given up in it: R164 says only that
the words do not sum to 0. Applied to the state's `freeCount`, it is a fresh unknown at each use. -/
opaque Config.unfinishedWord : Nat → Word

/-- FREE VALUE (log entry 35). The bytes of kind, seconds and run state in FAULT data whose record-present byte is 0: the layout
gives them no value. -/
opaque Config.emptyRecordByte : Nat → Byte

end Sys2Proof
end

