-- ==== Sys2Proof/Syntax.lean ====
section
/-!
DEFINITION. The commands of the CSC-24: one constructor of `Instr` for each row of spec/opcode_table.json, with the
operands its rule gives it (readings of the field terminals, the fields of a received frame, what the setting memory
answers). The order is the table's.
-/

namespace Sys2Proof

/-- What the five field inputs of one reading event show (R1 to R3): loop currents in microamperes, the absolute code
of the cylinder position input, and its validity indication. -/
structure Readings where
  power          : Nat
  pressure       : Nat
  cavity         : Nat
  pile           : Nat
  position       : Nat
  positionMarked : Bool
  deriving DecidableEq, Repr

/-- Source and destination bytes of a received frame's header (section 12.6). -/
structure Address where
  source      : Byte
  destination : Byte
  deriving DecidableEq, Repr

/-- The 21 payload bytes of a STATUS frame as its fields carry them (section 12.6), undefined codes included. -/
structure StatusPayload where
  kind         : Byte
  groupCode    : Byte
  runState     : Byte
  gapState     : Byte
  fault        : Byte
  flags        : Byte
  reportPeriod : Byte
  capacity     : Word
  throughput   : Word
  power        : Word
  output       : Word
  gap          : Word
  pile         : Word
  sequence     : Byte
  command      : Byte
  deriving DecidableEq, Repr

/-- The 11 payload bytes of a DEMAND frame as its fields carry them (section 12.6). -/
structure DemandPayload where
  stage       : Byte
  groupCode   : Byte
  groupMask   : Byte
  sequence    : Byte
  presence    : Byte
  command     : Byte
  stageTarget : Word
  gapTarget   : Word
  span        : Byte
  deriving DecidableEq, Repr

/-- What answers the READs of the start sequence (R161). `kept`: the setting memory as the station left it. `fitted`:
a memory whose contents were written from outside the station since, word by word; words not listed read 0 (log
entry 3). -/
inductive StartMemory where
  | kept
  | fitted (image : List (BitVec 8 × Word))
  deriving DecidableEq, Repr

/-- The commands, one per row of spec/opcode_table.json. A constructor for a received frame stands for a *complete*
frame of R152 that reaches this station's receiver. -/
inductive Instr where
  /-- RESET, R167. -/
  | reset
  /-- START_SEQUENCE_END, R161: the straps as read, and what answers the READs. -/
  | startSequenceEnd (straps : BitVec 5) (memory : StartMemory)
  /-- READING_EVENT, R1. -/
  | readingEvent (r : Readings)
  /-- BELT_SCALE_PULSE, R4. -/
  | beltScalePulse
  /-- WINDOW_CLOSE, R10. -/
  | windowClose
  /-- AGEING_EVENT, R24. -/
  | ageingEvent
  /-- STATUS_ARRIVAL, R20. `own`: this station itself drove the frame from its first bit to its last (R152). -/
  | statusArrival (header : Address) (own : Bool) (p : StatusPayload)
  /-- DEMAND, R36: a DEMAND frame taken whole. -/
  | demand (header : Address) (p : DemandPayload)
  /-- RUN, R40: a DEMAND frame whose command is RUN. -/
  | run (header : Address) (p : DemandPayload)
  /-- STOP, R45: a DEMAND frame whose command is STOP. -/
  | stop (header : Address) (p : DemandPayload)
  /-- SET_GAP, R143. -/
  | setGap (header : Address) (tag : BitVec 3) (noRetry : Bool) (argument : Word)
  /-- CALIBRATE, R143. -/
  | calibrate (header : Address) (tag : BitVec 3) (noRetry : Bool)
  /-- LINER_CHANGE, R143. -/
  | linerChange (header : Address) (tag : BitVec 3) (noRetry : Bool)
  /-- CANCEL, R146: `argument` carries the tag to be cancelled. -/
  | cancel (header : Address) (tag : BitVec 3) (argument : Word)
  /-- HOLD_FEED, R47. -/
  | holdFeed (header : Address) (tag : BitVec 3)
  /-- RELEASE_FEED, R47. -/
  | releaseFeed (header : Address) (tag : BitVec 3)
  /-- CLEAR_FAULT, R148. -/
  | clearFault (header : Address) (tag : BitVec 3)
  /-- QUERY_FAULT, R149. -/
  | queryFault (header : Address) (tag : BitVec 3)
  /-- QUERY_WEAR, R149. -/
  | queryWear (header : Address) (tag : BitVec 3)
  /-- QUERY_SHARE, R149. -/
  | queryShare (header : Address) (tag : BitVec 3)
  /-- QUERY_QUEUE, R149. -/
  | queryQueue (header : Address) (tag : BitVec 3)
  /-- BAD_KIND, R143: `code` is the kind byte, `argument` the argument word (a QUERY's item). -/
  | badKind (header : Address) (tag : BitVec 3) (code : Byte) (argument : Word)
  /-- ANSWER_FRAME_RECEIVED, R152. -/
  | answerFrameReceived
  /-- FRAME_DISCARDED, R152. -/
  | frameDiscarded
  /-- SHARE_PERIOD_EXPIRY, R54. -/
  | sharePeriodExpiry
  /-- RAMP_INTERVAL, R85. -/
  | rampInterval
  /-- MOTOR_RUNNING_FALL, R48. -/
  | motorRunningFall
  /-- MOTOR_RUNNING_RISE, R120. -/
  | motorRunningRise
  /-- PRIMING_TIMER_EXPIRY, R43. -/
  | primingTimerExpiry
  /-- CLEAR_TIMER_EXPIRY, R46. -/
  | clearTimerExpiry
  /-- STALL_TIMER_EXPIRY, R102. -/
  | stallTimerExpiry
  /-- SEEK_LIMIT_EXPIRY, R124. -/
  | seekLimitExpiry
  /-- SEEK_PULSE_ON_END, R122. -/
  | seekPulseOnEnd
  /-- SEEK_PULSE_OFF_END, R122. -/
  | seekPulseOffEnd
  /-- SETTLE_TIMER_EXPIRY, R138. -/
  | settleTimerExpiry
  /-- READY_TIMER_EXPIRY, R164. -/
  | readyTimerExpiry
  /-- WORD_READY, R164. -/
  | wordReady
  /-- SUPPLY_LOW_RISE, R165. -/
  | supplyLowRise
  /-- SUPPLY_LOW_FALL, R165. -/
  | supplyLowFall
  /-- REPORT_TIMER_EXPIRY, R156. -/
  | reportTimerExpiry
  /-- TRANSMIT_ATTEMPT, R154. -/
  | transmitAttempt
  /-- FRAME_SENT, R154. -/
  | frameSent
  /-- COLLISION, R155: `draw` is the station's random draw, from which the backoff is taken (log entry 10). -/
  | collision (draw : BitVec 4)
  /-- LINE_IDLE, R152. -/
  | lineIdle
  deriving DecidableEq, Repr

end Sys2Proof
end

