-- ==== Sys2Proof/Decode.lean ====
section
/-!
DEFINITION. The command a word of the opcode table spells. The table of this block gives no row any bits: its commands
are events, not words, so no word spells one.
-/

namespace Sys2Proof

/-- The command that `nbits` bits of value `w` spell by the opcode table: none, since no row has bits. -/
def decodeTableWord (_nbits _w : Nat) : Option Instr := none

end Sys2Proof
end

