-- ==== Sys2Proof/Machine/State.lean ====
section
/-!
DEFINITION. The state of one CSC-24 as plain data: every block of section "The blocks and how they work together" with
the state its chapter gives it, the field pins that are levels, the external setting memory, and the queue of waiting
commands. Views that the spec fixes from other state (gap state, G, drive mode, valve outputs, terminals, feeding
permitted, the standing request, LINER_WORN, the present pressure) are computed in Ops.lean and stored once.
-/

namespace Sys2Proof.Machine

/-- Run states (section 3.2). -/
inductive RunState where
  | starting
  | unconfigured
  | idle
  | priming
  | running
  | held
  | stopping
  | tripped
  deriving DecidableEq, Repr

/-- Gap states (section 7.3). -/
inductive GapState where
  | holding
  | moving
  | stuck
  | calibrating
  | relieved
  | recovering
  deriving DecidableEq, Repr

/-- Drive modes of the Feeder Drive (R84). -/
inductive DriveMode where
  | feeding
  | frozen
  | rundown
  | zeroed
  deriving DecidableEq, Repr

/-- Load classes (R11). -/
inductive LoadClass where
  | over
  | normal
  | under
  deriving DecidableEq, Repr

/-- The commands a DEMAND may carry (R36). -/
inductive Command where
  | run
  | stop
  deriving DecidableEq, Repr

/-- What the setting valve is driven to do (R93): at most one output is on. -/
inductive Valve where
  | off
  | opening
  | closing
  deriving DecidableEq, Repr

/-- The direction of a move (R99). -/
inductive Direction where
  | opening
  | closing
  deriving DecidableEq, Repr

/-- The fault kinds of R166, in the order of their codes 1 to 14. -/
inductive FaultKind where
  | settingInvalid
  | duplicateNumber
  | motorStopped
  | trampRepeat
  | pressureLoop
  | positionLoop
  | calBlocked
  | supplyLow
  | calNoContact
  | gapStall
  | powerLoop
  | cavityLoop
  | pileLoop
  | memoryTimeout
  deriving DecidableEq, Repr

/-- Validity state of an input (section 1.2). -/
inductive Validity where
  | valid
  | broken
  deriving DecidableEq, Repr

/-- One value for each of the five inputs the Field Monitor reads. -/
structure Inputs (α : Type) where
  power    : α
  pressure : α
  cavity   : α
  pile     : α
  position : α
  deriving DecidableEq, Repr

/-- A window sum with its count of added readings (R8). -/
structure Accumulator where
  sum   : Nat
  count : Nat
  deriving DecidableEq, Repr

/-- The load sample (R10). -/
structure LoadSample where
  power       : Nat
  pressure    : Option Nat
  peak        : Option Nat
  cavity      : Nat
  pile        : Option Nat
  throughput  : Nat
  loadClass   : LoadClass
  nofeed      : Bool
  validity    : Inputs Validity
  deriving DecidableEq, Repr

/-- The Field Monitor (R16). `position` is the last valid position reading since reset and `positionValid` the mark of
the present reading (R3); `latestPressure` is the latest in-range pressure reading (R15). -/
structure Monitor where
  window         : Timer
  power          : Accumulator
  pressure       : Accumulator
  cavity         : Accumulator
  pile           : Accumulator
  output         : Accumulator
  peak           : Option Nat
  pulseCount     : Nat
  inRange        : Inputs Bool
  nofeed         : Bool
  sample         : Option LoadSample
  latestPressure : Option Nat
  position       : Option Nat
  positionValid  : Bool
  validity       : Inputs Validity
  calibrationKg  : Nat
  linerKg        : Nat
  remainder      : Nat
  deriving DecidableEq, Repr

/-- Entry state of a peer (R18). -/
inductive EntryState where
  | live
  | silent
  deriving DecidableEq, Repr

/-- One peer entry (R18). -/
structure PeerEntry where
  number       : Nat
  kind         : StationKind
  groupCode    : Byte
  runState     : RunState
  reportPeriod : Nat
  capacity     : Nat
  throughput   : Nat
  power        : Nat
  pile         : Option Nat
  silence      : Nat
  entryState   : EntryState
  belt         : Bool
  powerMember  : Bool
  deriving DecidableEq, Repr

/-- Where the selected pile level came from (R31). -/
inductive LevelSource where
  | none
  | own
  | peer (number : Nat)
  deriving DecidableEq, Repr

/-- The Peer Table (R33). `selected` and `source` are the latest selection of R31. -/
structure PeerTable where
  entries       : List PeerEntry
  ageing        : Timer
  lastDuplicate : Option Nat
  selected      : Option Nat
  source        : LevelSource
  deriving DecidableEq, Repr

/-- Run Control (R51). -/
structure RunControl where
  state        : RunState
  lastSequence : Option Byte
  target       : Nat
  lastCommand  : Option Command
  primingTimer : Timer
  clearTimer   : Timer
  deriving DecidableEq, Repr

/-- The share record (R70). -/
structure ShareRecord where
  target       : Nat
  beltLimit    : Nat
  level        : Option Nat
  source       : LevelSource
  factor       : Nat
  demand       : Nat
  committed    : Nat
  available    : Nat
  capacity     : Nat
  capacitySum  : Nat
  share        : Nat
  trim         : Nat
  capped       : Nat
  rate         : Nat
  flushed      : Bool
  cavityFull   : Bool
  levelUnknown : Bool
  liveMembers  : Nat
  silentMembers : Nat
  deriving DecidableEq, Repr

/-- The Share Unit with its Power Trim (R72, R81). The setpoint it writes is held by the Feeder Drive (R83). -/
structure ShareUnit where
  timer     : Timer
  pileFull  : Bool
  pileEmpty : Bool
  record    : Option ShareRecord
  capacity  : Nat
  trim      : Nat
  deriving DecidableEq, Repr

/-- The Feeder Drive (R91): setpoint r, output a, ramp interval timer. -/
structure FeederDrive where
  setpoint : Nat
  output   : Nat
  timer    : Timer
  deriving DecidableEq, Repr

/-- The reference state with its contact position (R115): a contact is present exactly when referenced. -/
inductive Reference where
  | unreferenced
  | provisional (contact : Nat)
  | referenced (contact : Nat)
  deriving DecidableEq, Repr

/-- The active move (R99 to R103). `stall` is what its stall timer has left; `reversal` is the goal of a running
reversal; `paused` is the pressure pause of R101. -/
structure Move where
  direction  : Direction
  noRetry    : Bool
  stallCount : Nat
  mark       : Nat
  stall      : Nat
  reversal   : Option Nat
  paused     : Bool
  deriving DecidableEq, Repr

/-- Who started a calibration (section 8.3). -/
inductive CalKind where
  | internal
  | requested
  deriving DecidableEq, Repr

/-- One seek pulse (R122): its part, what the pulse timer has left, the still count and the pulse start position. -/
structure SeekPulse where
  on    : Bool
  left  : Nat
  still : Nat
  start : Nat
  deriving DecidableEq, Repr

/-- Calibration phases with the state each needs (R120). -/
inductive CalPhase where
  | opening (start : Nat)
  | seeking (pulse : SeekPulse)
  | backing (mark stall : Nat)
  deriving DecidableEq, Repr

/-- The calibration in progress (R120). -/
structure Calibration where
  kind      : CalKind
  seekLimit : Timer
  phase     : CalPhase
  deriving DecidableEq, Repr

/-- The re-closing of tramp recovery (R139). -/
structure Reclosing where
  mark   : Nat
  stall  : Nat
  paused : Bool
  deriving DecidableEq, Repr

/-- The gap state together with what the activity it names holds. -/
inductive Activity where
  | holding
  | moving (m : Move)
  | stuck
  | calibrating (c : Calibration)
  | relieved (settle : Timer)
  | recovering (r : Reclosing)
  deriving DecidableEq, Repr

/-- The Gap Controller (R114, R130, R141): target G_t, span A, working setpoint W. The jump window pairs the reading
clock's time with a gap estimate (R133). -/
structure GapController where
  reference     : Reference
  wearAcc       : Nat
  linerTonnes   : Nat
  linerWear     : Nat
  calCount      : Nat
  wearUnknown   : Bool
  lastShift     : Option Int
  target        : Nat
  span          : Nat
  setpoint      : Nat
  approach      : Bool
  activity      : Activity
  history       : List LoadClass
  armed         : Bool
  jumpWindow    : List (Nat × Nat)
  lastDetection : Option Nat
  readingClock  : Option Nat
  trampList     : List Nat
  deriving DecidableEq, Repr

/-- The queued kinds (R142). -/
inductive QueuedKind where
  | setGap
  | calibrate
  | linerChange
  deriving DecidableEq, Repr

/-- One entry of the Request Queue (R142); `active` is the entry state ACTIVE. -/
structure Entry where
  requester : Byte
  tag       : BitVec 3
  kind      : QueuedKind
  argument  : Option Nat
  noRetry   : Bool
  active    : Bool
  deriving DecidableEq, Repr

/-- The request kinds, in the order of their codes 1 to 8 (section 12.6). -/
inductive RequestKind where
  | setGap
  | calibrate
  | linerChange
  | cancel
  | holdFeed
  | releaseFeed
  | clearFault
  | query
  deriving DecidableEq, Repr

/-- Stop reasons (R145), in the order of their codes 1 to 8. -/
inductive StopReason where
  | stall
  | cancelled
  | tramp
  | superseded
  | tripped
  | noContact
  | blocked
  | memory
  deriving DecidableEq, Repr

/-- Refusal codes (R143, R146 to R148), in the order of their codes 1 to 10. -/
inductive RefuseCode where
  | noReference
  | tripped
  | notIdle
  | duplicateTag
  | queueFull
  | badKind
  | noSuchTag
  | notRunning
  | notHeld
  | conditionPresent
  deriving DecidableEq, Repr

/-- Outcomes an answer carries (R143). -/
inductive AnswerOutcome where
  | queued
  | done
  | doneClamped
  | cancelled
  | stopped (reason : StopReason)
  | refused (code : RefuseCode)
  deriving DecidableEq, Repr

/-- The first-fault record (R166). -/
structure FirstFault where
  kind     : FaultKind
  seconds  : Nat
  runState : RunState
  gap      : Option Nat
  pressure : Option Nat
  deriving DecidableEq, Repr

/-- The Fault Record (R166). The seen set is a list without repeats, in the order the kinds were first reported. -/
structure FaultRecord where
  first   : Option FirstFault
  seen    : List FaultKind
  further : Bool
  deriving DecidableEq, Repr

/-- The wear report (R119). -/
structure WearReport where
  reference     : Reference
  lastShift     : Option Int
  wearAcc       : Nat
  calibrationKg : Nat
  linerTonnes   : Nat
  linerWear     : Nat
  calCount      : Nat
  linerWorn     : Bool
  wearUnknown   : Bool
  deriving DecidableEq, Repr

/-- The record a QUERY returns (R149). -/
inductive QueryData where
  | fault (record : FaultRecord) (validity : Inputs Validity)
  | wear (report : WearReport)
  | share (record : Option ShareRecord)
  | queue (entries : List Entry)
  deriving DecidableEq, Repr

/-- One answer record (R143). `kind` is `none` for a BAD_KIND refusal of a kind code outside 1..8. -/
structure Answer where
  requester : Byte
  tag       : BitVec 3
  kind      : Option RequestKind
  outcome   : AnswerOutcome
  remaining : Option Nat
  reached   : Option Nat
  data      : Option QueryData
  deriving DecidableEq, Repr

/-- A STATUS held in the slot or in flight, with its late-loss mark (R158). -/
structure HeldStatus where
  payload  : StatusPayload
  lateLoss : Bool
  deriving DecidableEq, Repr

/-- A frame this station sends. -/
inductive OutFrame where
  | status (f : HeldStatus)
  | answer (a : Answer)
  deriving DecidableEq, Repr

/-- The frame in flight (R153 to R155); `driving` from the start of an attempt to its end. -/
structure InFlight where
  frame   : OutFrame
  driving : Bool
  deriving DecidableEq, Repr

/-- The receiver (R152, R159): waiting for the line to be idle, ready to start a frame at the next dominant bit, or
reading a frame. -/
inductive Receiver where
  | waitingIdle
  | ready
  | reading
  deriving DecidableEq, Repr

/-- The Line Port (R159). Collision count and backoff are those of the frame in flight; each frame taken starts with both
at 0 (R153, R154). -/
structure LinePort where
  receiver    : Receiver
  inFlight    : Option InFlight
  collisions  : Nat
  backoff     : Nat
  slot        : Option HeldStatus
  answers     : List Answer
  reportTimer : Timer
  congested   : Bool
  deriving DecidableEq, Repr

/-- The fields of a wear record (R129); `contact` is absent while UNREFERENCED. -/
structure WearRecord where
  contact     : Option Nat
  linerTonnes : Nat
  linerWear   : Nat
  wearAcc     : Nat
  calCount    : Nat
  deriving DecidableEq, Repr

/-- A running campaign (R164): its record, the word in progress (64..71), the ready timer, the cut-off of R165.
`forLiner` is the model's own mark: the record was requested at or after the start of the ACTIVE LINER_CHANGE, if there
is one (R128, log entry 27). -/
structure Campaign where
  record   : WearRecord
  word     : Nat
  ready    : Nat
  cutOff   : Bool
  forLiner : Bool
  deriving DecidableEq, Repr

/-- The Setting Memory Interface (R164, R167): campaign state WRITING is `campaign ≠ none`. The supply-low state is
the pin `supplyLow` of `State`. -/
structure SettingInterface where
  campaign : Option Campaign
  pending  : Option WearRecord
  deriving DecidableEq, Repr

/-- The external setting memory (R160): 256 words, listed by rising address, none equal to 0, which is what an
unlisted address reads as (log entry 3); its write-enable state; and the self-timed word it is programming. -/
structure Memory where
  cells       : List (Nat × Word)
  enabled     : Bool
  programming : Option (Nat × Word)
  deriving DecidableEq, Repr

/-- The state of the station, its level pins, its setting memory and the queue of waiting commands. -/
structure State where
  /-- the commands that are waiting, first in first out -/
  pending       : List Instr
  /-- the time count, in whole seconds since reset -/
  seconds       : Nat
  /-- milliseconds into the present second: the model's own (log entry 2) -/
  millis        : Nat
  /-- the model's own: how many free values have been used (log entries 9, 24, 35, 41) -/
  freeCount     : Nat
  /-- the station number as read from the straps (R161) -/
  stationNumber : Nat
  /-- the configuration as read at start (R161, R162) -/
  settings      : Settings
  /-- the motor-running input -/
  motorRunning  : Bool
  /-- the supply monitor input, which the supply-low state follows (R165) -/
  supplyLow     : Bool
  monitor       : Monitor
  peers         : PeerTable
  run           : RunControl
  share         : ShareUnit
  drive         : FeederDrive
  gap           : GapController
  queue         : List Entry
  line          : LinePort
  interface     : SettingInterface
  faults        : FaultRecord
  memory        : Memory
  deriving DecidableEq, Repr

/-- Why a command stops the machine. No command of this model does: the spec gives every command of the table an effect
or says that it changes nothing. -/
inductive Fault where
  deriving DecidableEq, Repr

/-- Why a command has no meaning. -/
inductive Refusal where
  /-- raised by an arm of `exec` whose command has no meaning yet; safe (nothing can be proved of its next state). No
  arm of this model raises it. -/
  | notModelled (mnemonic : String)
  deriving DecidableEq, Repr

/-- The Field Monitor after reset (R16). -/
def Monitor.reset : Monitor where
  window := none
  power := ⟨0, 0⟩
  pressure := ⟨0, 0⟩
  cavity := ⟨0, 0⟩
  pile := ⟨0, 0⟩
  output := ⟨0, 0⟩
  peak := none
  pulseCount := 0
  inRange := ⟨true, true, true, true, true⟩
  nofeed := false
  sample := none
  latestPressure := none
  position := none
  positionValid := false
  validity := ⟨.valid, .valid, .valid, .valid, .valid⟩
  calibrationKg := 0
  linerKg := 0
  remainder := 0

/-- The Gap Controller after reset (R114, R130, R141). The gap target and the working setpoint come from the start gap,
which is not read yet; 0 stands in until then (log entry 6). -/
def GapController.reset : GapController where
  reference := .unreferenced
  wearAcc := 0
  linerTonnes := 0
  linerWear := 0
  calCount := 0
  wearUnknown := false
  lastShift := none
  target := 0
  span := 0
  setpoint := 0
  approach := false
  activity := .holding
  history := []
  armed := true
  jumpWindow := []
  lastDetection := none
  readingClock := none
  trampList := []

/-- The machine right after reset (R167 and the "values after reset" of every chapter), its setting memory blank, its
motor stopped and its supply good (log entries 3 and 5), and no command waiting. -/
def State.reset : State where
  pending := []
  seconds := 0
  millis := 0
  freeCount := 0
  stationNumber := 0
  settings := .unread
  motorRunning := false
  supplyLow := false
  monitor := .reset
  peers := { entries := [], ageing := none, lastDuplicate := none, selected := none, source := .none }
  run := { state := .starting, lastSequence := none, target := 0, lastCommand := none, primingTimer := none,
           clearTimer := none }
  share := { timer := none, pileFull := false, pileEmpty := false, record := none, capacity := 0, trim := 1000 }
  drive := { setpoint := 0, output := 0, timer := none }
  gap := .reset
  queue := []
  line := { receiver := .waitingIdle, inFlight := none, collisions := 0, backoff := 0, slot := none, answers := []
            reportTimer := none, congested := false }
  interface := { campaign := none, pending := none }
  faults := { first := none, seen := [], further := false }
  memory := { cells := [], enabled := false, programming := none }

end Sys2Proof.Machine
end

