-- ==== Sys2Proof/Machine/Operands.lean ====
section
/-!
DEFINITION. How the operands of the commands and the contents of the setting memory are coded: code tables of section
12.6, payload fields of STATUS and DEMAND, payloads of ANSWER, CRC and line levels (R151), and the setting memory's word
map with its checks (sections 12.1 and 12.5).
-/

namespace Sys2Proof.Machine

/-! ### Bytes and words -/

/-- High byte of a word. -/
def hiByte (w : Word) : Byte := w.extractLsb' 8 8

/-- Low byte of a word. -/
def loByte (w : Word) : Byte := w.extractLsb' 0 8

/-- A 16-bit field from its high byte and its low byte (section 12.6: high byte first). -/
def joinBytes (hi lo : Byte) : Word := hi ++ lo

/-- An optional 16-bit field coded with FFFFh for absent (section 12.6). -/
def absentWord : Option Nat → Word
  | none => 0xFFFF
  | some n => BitVec.ofNat 16 n

/-- The bytes of `n` in `k` bytes, high byte first. -/
def natBytes : Nat → Nat → List Byte
  | 0, _ => []
  | k + 1, n => BitVec.ofNat 8 (n / 256 ^ k) :: natBytes k n

/-! ### Code tables (section 12.6, R166) -/

/-- STATUS byte 0. -/
def stationKindCode : StationKind → Nat
  | .none => 0
  | .primary => 1
  | .secondary => 2

/-- The stage or station kind of a code: only PRIMARY and SECONDARY are stages. -/
def stageOf (b : Byte) : StationKind :=
  if b = 1 then .primary else if b = 2 then .secondary else .none

/-- STATUS byte 2. -/
def RunState.code : RunState → Nat
  | .starting => 1
  | .unconfigured => 2
  | .idle => 3
  | .priming => 4
  | .running => 5
  | .held => 6
  | .stopping => 7
  | .tripped => 8

/-- The run state of a code, if its table defines one. -/
def runStateOf (b : Byte) : Option RunState :=
  [RunState.starting, .unconfigured, .idle, .priming, .running, .held, .stopping, .tripped].find?
    (fun r => r.code = b.toNat)

/-- STATUS byte 3. -/
def GapState.code : GapState → Nat
  | .holding => 1
  | .moving => 2
  | .stuck => 3
  | .calibrating => 4
  | .relieved => 5
  | .recovering => 6

/-- Fault kind codes (R166). -/
def FaultKind.code : FaultKind → Nat
  | .settingInvalid => 1
  | .duplicateNumber => 2
  | .motorStopped => 3
  | .trampRepeat => 4
  | .pressureLoop => 5
  | .positionLoop => 6
  | .calBlocked => 7
  | .supplyLow => 8
  | .calNoContact => 9
  | .gapStall => 10
  | .powerLoop => 11
  | .cavityLoop => 12
  | .pileLoop => 13
  | .memoryTimeout => 14

/-- STATUS byte 20. -/
def commandCode : Option Command → Nat
  | none => 0
  | some .run => 1
  | some .stop => 2

/-- REQUEST kind codes; 0 for a BAD_KIND refusal of a kind code outside 1..8 (R143). -/
def requestCode : Option RequestKind → Nat
  | none => 0
  | some .setGap => 1
  | some .calibrate => 2
  | some .linerChange => 3
  | some .cancel => 4
  | some .holdFeed => 5
  | some .releaseFeed => 6
  | some .clearFault => 7
  | some .query => 8

/-- The request kind of a kind byte, if one of the eight. -/
def requestKindOf (b : Byte) : Option RequestKind :=
  [RequestKind.setGap, .calibrate, .linerChange, .cancel, .holdFeed, .releaseFeed, .clearFault, .query].find?
    (fun k => requestCode (some k) = b.toNat)

/-- ANSWER byte 1, bits 4..0: stop reasons. -/
def StopReason.code : StopReason → Nat
  | .stall => 1
  | .cancelled => 2
  | .tramp => 3
  | .superseded => 4
  | .tripped => 5
  | .noContact => 6
  | .blocked => 7
  | .memory => 8

/-- ANSWER byte 1, bits 4..0: refusals. -/
def RefuseCode.code : RefuseCode → Nat
  | .noReference => 1
  | .tripped => 2
  | .notIdle => 3
  | .duplicateTag => 4
  | .queueFull => 5
  | .badKind => 6
  | .noSuchTag => 7
  | .notRunning => 8
  | .notHeld => 9
  | .conditionPresent => 10

/-- ANSWER byte 1: outcome in bits 7..5, reason in bits 4..0. -/
def AnswerOutcome.code : AnswerOutcome → Nat
  | .queued => 32
  | .done => 64
  | .doneClamped => 96
  | .cancelled => 128
  | .stopped r => 160 + r.code
  | .refused c => 192 + c.code

end Sys2Proof.Machine

namespace Sys2Proof

open Machine

/-! ### STATUS and DEMAND payloads (section 12.6) -/

/-- The 21 bytes of a STATUS payload. -/
def StatusPayload.bytes (p : StatusPayload) : List Byte :=
  [p.kind, p.groupCode, p.runState, p.gapState, p.fault, p.flags, p.reportPeriod,
   hiByte p.capacity, loByte p.capacity, hiByte p.throughput, loByte p.throughput, hiByte p.power, loByte p.power,
   hiByte p.output, loByte p.output, hiByte p.gap, loByte p.gap, hiByte p.pile, loByte p.pile,
   p.sequence, p.command]

/-- The STATUS payload of 21 bytes; any other length is a length error. -/
def statusOfBytes : List Byte → Option StatusPayload
  | [kind, group, run, gapState, fault, flags, period, c1, c0, t1, t0, p1, p0, o1, o0, g1, g0, l1, l0, seq, cmd] =>
    some { kind := kind, groupCode := group, runState := run, gapState := gapState, fault := fault, flags := flags,
           reportPeriod := period, capacity := joinBytes c1 c0, throughput := joinBytes t1 t0,
           power := joinBytes p1 p0, output := joinBytes o1 o0, gap := joinBytes g1 g0, pile := joinBytes l1 l0,
           sequence := seq, command := cmd }
  | _ => none

/-- The 11 bytes of a DEMAND payload. -/
def DemandPayload.bytes (p : DemandPayload) : List Byte :=
  [p.stage, p.groupCode, p.groupMask, p.sequence, p.presence, p.command,
   hiByte p.stageTarget, loByte p.stageTarget, hiByte p.gapTarget, loByte p.gapTarget, p.span]

/-- The DEMAND payload of 11 bytes; any other length is a length error. -/
def demandOfBytes : List Byte → Option DemandPayload
  | [stage, group, mask, seq, presence, cmd, t1, t0, g1, g0, span] =>
    some { stage := stage, groupCode := group, groupMask := mask, sequence := seq, presence := presence,
           command := cmd, stageTarget := joinBytes t1 t0, gapTarget := joinBytes g1 g0, span := span }
  | _ => none

/-- The Line Port's own check of a STATUS (R152): the station kind is PRIMARY or SECONDARY and the run state, gap state,
fault kind and last command carry codes their tables define. -/
def StatusPayload.codesDefined (p : StatusPayload) : Bool :=
  stageOf p.kind ≠ .none && (runStateOf p.runState).isSome && decide (1 ≤ p.gapState.toNat ∧ p.gapState.toNat ≤ 6) &&
    decide (p.fault.toNat ≤ 14) && decide (p.command.toNat ≤ 2)

/-- Flag bit 3 of a STATUS: throughput and power present. -/
def StatusPayload.sampled (p : StatusPayload) : Bool := p.flags.getLsbD 3

/-- A reported throughput, entered as 0 when it is carried absent (R18). -/
def StatusPayload.throughputEntered (p : StatusPayload) : Nat := if p.sampled then p.throughput.toNat else 0

/-- A reported power, entered as 0 when it is carried absent (R18). -/
def StatusPayload.powerEntered (p : StatusPayload) : Nat := if p.sampled then p.power.toNat else 0

/-- A reported pile level (flag bit 5); one above 1000 is entered as absent (R18). -/
def StatusPayload.pileEntered (p : StatusPayload) : Option Nat :=
  if p.flags.getLsbD 5 ∧ p.pile.toNat ≤ 1000 then some p.pile.toNat else none

/-- The report period in milliseconds, carried in units of 100 ms. -/
def StatusPayload.periodMs (p : StatusPayload) : Nat := p.reportPeriod.toNat * 100

/-- Flag bit 2 of a STATUS: LINE_CONGESTED. -/
def StatusPayload.lineCongested (p : StatusPayload) : Bool := p.flags.getLsbD 2

/-- The stage target a DEMAND carries, above 4000 taken as 4000 (R36). -/
def DemandPayload.target? (p : DemandPayload) : Option Nat :=
  if p.presence.getLsbD 0 then some (min p.stageTarget.toNat 4000) else none

/-- The gap target a DEMAND carries, as carried (R36). -/
def DemandPayload.gap? (p : DemandPayload) : Option Nat :=
  if p.presence.getLsbD 1 then some p.gapTarget.toNat else none

/-- The span a DEMAND carries, above 200 taken as 200 (R36). -/
def DemandPayload.span? (p : DemandPayload) : Option Nat :=
  if p.presence.getLsbD 2 then some (min p.span.toNat 200) else none

/-- The command a DEMAND carries: a command marked present with a value other than RUN or STOP is none (R36). -/
def DemandPayload.command? (p : DemandPayload) : Option Command :=
  if p.presence.getLsbD 3 then (if p.command = 1 then some .run else if p.command = 2 then some .stop else none)
  else none

end Sys2Proof

namespace Sys2Proof.Machine

/-! ### ANSWER payloads (section 12.6) -/

/-- Value of a list of (value, width) fields packed most significant first. -/
def packFields (fields : List (Nat × Nat)) : Nat :=
  fields.foldl (fun acc f => acc * 2 ^ f.2 + f.1 % 2 ^ f.2) 0

/-- The level source's 5-bit code. -/
def LevelSource.code : LevelSource → Nat
  | .none => 0
  | .own => 31
  | .peer n => n

/-- The 22 bytes of SHARE data: 174 bits packed most significant first, final 2 bits 0. -/
def ShareRecord.bytes (r : ShareRecord) : List Byte :=
  natBytes 22 (packFields
    [(r.target, 12), (r.beltLimit, 12), (r.level.getD 0, 10), (r.source.code, 5), (r.factor, 10), (r.demand, 12),
     (r.committed, 16), (r.available, 12), (r.capacity, 12), (min r.capacitySum 65535, 16), (r.share, 12), (r.trim, 10),
     (r.capped, 12), (r.rate, 10), (r.flushed.toNat, 1), (r.cavityFull.toNat, 1), (r.levelUnknown.toNat, 1),
     (r.liveMembers, 5), (r.silentMembers, 5), (0, 2)])

/-- Kind code of a queued kind. -/
def QueuedKind.request : QueuedKind → RequestKind
  | .setGap => .setGap
  | .calibrate => .calibrate
  | .linerChange => .linerChange

/-- The 5 bytes of one entry in QUEUE data. -/
def Entry.bytes (e : Entry) : List Byte :=
  [e.requester, BitVec.ofNat 8 (e.tag.toNat + 64 * e.active.toNat + 128 * e.noRetry.toNat),
   BitVec.ofNat 8 (requestCode (some e.kind.request)), hiByte (absentWord e.argument), loByte (absentWord e.argument)]

/-- Reference state code of WEAR data. -/
def Reference.code : Reference → Nat
  | .unreferenced => 1
  | .provisional _ => 2
  | .referenced _ => 3

/-- The contact position, absent while UNREFERENCED (R115). -/
def Reference.contact? : Reference → Option Nat
  | .unreferenced => none
  | .provisional c => some c
  | .referenced c => some c

/-- Last contact shift: two's complement, 8000h absent. -/
def shiftWord : Option Int → Word
  | none => 0x8000
  | some i => BitVec.ofInt 16 i

/-- The 17 bytes of WEAR data. -/
def WearReport.bytes (r : WearReport) : List Byte :=
  [BitVec.ofNat 8 r.reference.code, hiByte (absentWord r.reference.contact?), loByte (absentWord r.reference.contact?),
   hiByte (shiftWord r.lastShift), loByte (shiftWord r.lastShift)] ++
  natBytes 2 r.wearAcc ++ natBytes 3 r.calibrationKg ++ natBytes 2 r.linerTonnes ++ natBytes 2 r.linerWear ++
  natBytes 2 r.calCount ++ [BitVec.ofNat 8 (r.linerWorn.toNat + 2 * r.wearUnknown.toNat)]

/-- The 15 bytes of FAULT data. With no record, kind, seconds and run state are free values (log entry 35). -/
def faultBytes (f : FaultRecord) (v : Inputs Validity) : List Byte :=
  (match f.first with
   | none => 0 :: [0, 1, 2, 3, 4, 5].map Config.emptyRecordByte ++ [0xFF, 0xFF, 0xFF, 0xFF]
   | some r =>
     [1, BitVec.ofNat 8 r.kind.code] ++ natBytes 4 r.seconds ++
     [BitVec.ofNat 8 r.runState.code, hiByte (absentWord r.gap), loByte (absentWord r.gap),
      hiByte (absentWord r.pressure), loByte (absentWord r.pressure)]) ++
  natBytes 2 (f.seen.foldl (fun n k => n ||| 2 ^ (k.code - 1)) 0) ++
  [BitVec.ofNat 8 f.further.toNat,
   BitVec.ofNat 8 ((v.power = .broken : Bool).toNat + 2 * (v.pressure = .broken : Bool).toNat +
     4 * (v.cavity = .broken : Bool).toNat + 8 * (v.pile = .broken : Bool).toNat +
     16 * (v.position = .broken : Bool).toNat)]

/-- The data bytes of a QUERY's answer; an absent share record has none. -/
def QueryData.bytes : QueryData → List Byte
  | .fault f v => faultBytes f v
  | .wear r => r.bytes
  | .share none => []
  | .share (some r) => r.bytes
  | .queue es => BitVec.ofNat 8 es.length :: es.flatMap Entry.bytes

/-- The payload of an ANSWER: 2 bytes, 6 for STOPPED, 2 plus the data for a QUERY. -/
def Answer.bytes (a : Answer) : List Byte :=
  [BitVec.ofNat 8 (a.tag.toNat + 16 * requestCode a.kind), BitVec.ofNat 8 a.outcome.code] ++
  (match a.outcome with
   | .stopped _ => [hiByte (absentWord a.remaining), loByte (absentWord a.remaining),
                    hiByte (absentWord a.reached), loByte (absentWord a.reached)]
   | _ => []) ++
  (match a.data with
   | none => []
   | some d => d.bytes)

/-! ### Frames on the line (R151) -/

/-- One bit into the CRC register: polynomial x^16 + x^12 + x^5 + 1, not reflected. -/
def crcBit (crc : Word) (bit : Bool) : Word :=
  let shifted := crc <<< 1
  if xor crc.msb bit then shifted ^^^ 0x1021 else shifted

/-- One byte into the CRC register, most significant bit first. -/
def crcByte (crc : Word) (b : Byte) : Word :=
  [7, 6, 5, 4, 3, 2, 1, 0].foldl (fun c i => crcBit c (b.getLsbD i)) crc

/-- The CRC of R151 over a run of bytes, initial value all ones. -/
def crc16 (bytes : List Byte) : Word := bytes.foldl crcByte 0xFFFF

/-- Destination byte of an outgoing frame: 31 for a STATUS, the requester for an ANSWER (R156, R157). -/
def OutFrame.destination : OutFrame → Byte
  | .status _ => 31
  | .answer a => a.requester

/-- Payload of an outgoing frame. -/
def OutFrame.payload : OutFrame → List Byte
  | .status f => f.payload.bytes
  | .answer a => a.bytes

/-- Kind code of an outgoing frame. -/
def OutFrame.kindCode : OutFrame → Nat
  | .status _ => 1
  | .answer _ => 4

/-- The header of an outgoing frame. -/
def OutFrame.header (f : OutFrame) (station : Nat) : List Byte :=
  [BitVec.ofNat 8 (f.kindCode * 32 + f.payload.length), BitVec.ofNat 8 station, f.destination]

/-- A whole frame: header, payload, CRC with its high byte first (R151, section 12.6). -/
def OutFrame.bytes (f : OutFrame) (station : Nat) : List Byte :=
  let body := f.header station ++ f.payload
  body ++ [hiByte (crc16 body), loByte (crc16 body)]

/-- The two levels of the line (R151). -/
def dominant : Bool := false

/-- The line's level while nobody drives it (R151). -/
def recessive : Bool := true

/-- The 10 bit times of one byte: dominant start bit, 8 data bits least significant first (0 dominant, 1 recessive),
recessive stop bit (R151). -/
def byteLevels (b : Byte) : List Bool :=
  dominant :: ([0, 1, 2, 3, 4, 5, 6, 7].map (fun i => b.getLsbD i)) ++ [recessive]

/-- The levels a transmitter drives for a frame, bit time by bit time. -/
def OutFrame.levels (f : OutFrame) (station : Nat) : List Bool := (f.bytes station).flatMap byteLevels

/-- What every station reads while several drive: dominant as soon as one drives dominant (R151). -/
def lineLevel (driven : List Bool) : Bool := driven.all id

/-! ### The setting memory's word map (sections 12.1 and 12.5) -/

/-- Flush mode bit of word 0. -/
def flushModeOf (b : Bool) : FlushMode := if b then .hold else .stop

/-- The settings as words 0 to 46 carry them (section 12.5). -/
def decodeSettings (w : Nat → Word) : Settings where
  kind := stageOf (hiByte (w 0))
  flushMode := flushModeOf ((loByte (w 0)).getLsbD 0)
  pileInput := (loByte (w 0)).getLsbD 1
  groupCode := hiByte (w 1)
  beltMask := loByte (w 1)
  powerMask := hiByte (w 2)
  pulseWeight := (loByte (w 2)).toNat
  reportPeriod := (w 3).toNat
  sharePeriod := (w 4).toNat
  sampleWindow := (w 5).toNat
  forgetTime := (w 6).toNat
  feederCapacity := (w 7).toNat
  rMin := (w 8).toNat
  rampUp := (w 9).toNat
  rampDown := (w 10).toNat
  capacityCoeff := (w 11).toNat
  capacityCeiling := (w 12).toNat
  beltLimit := (w 13).toNat
  powerBudget := (w 14).toNat
  trimBand := (hiByte (w 15)).toNat
  trimStep := (loByte (w 15)).toNat
  trimFloor := (w 16).toNat
  ratedPower := (w 17).toNat
  powerSpan := (w 18).toNat
  overPower := (w 19).toNat
  underPower := (w 20).toNat
  pressureSpan := (w 21).toNat
  pressureOver := (w 22).toNat
  trampMark := (w 23).toNat
  settleMark := (w 24).toNat
  contactMark := (w 25).toNat
  cavityEmpty := (w 26).toNat
  cavityHigh := (w 27).toNat
  cavityFull := (w 28).toNat
  hwLo := (w 29).toNat
  hwHi := (w 30).toNat
  lwLo := (w 31).toNat
  lwHi := (w 32).toNat
  blindFactor := (w 33).toNat
  gapMin := (w 34).toNat
  gapMax := (w 35).toNat
  startGap := (w 36).toNat
  stroke := (w 37).toNat
  holdBand := (hiByte (w 38)).toNat
  stepSize := (loByte (w 38)).toNat
  closeCount := (hiByte (w 39)).toNat
  openCount := (loByte (w 39)).toNat
  provisionalMargin := (hiByte (w 40)).toNat
  moveTimeout := (loByte (w 40)).toNat
  trampJump := (hiByte (w 41)).toNat
  settleTime := (loByte (w 41)).toNat
  trampWindow := (hiByte (w 42)).toNat
  clearTime := (loByte (w 42)).toNat
  pulseOn := (hiByte (w 43)).toNat
  pulseOff := (loByte (w 43)).toNat
  seekLimit := (hiByte (w 44)).toNat
  wearRate := (loByte (w 44)).toNat
  linerWearLimit := (w 45).toNat
  primingTimeout := (w 46).toNat

/-- `lo ≤ n ≤ hi`. -/
def within (lo n hi : Nat) : Bool := decide (lo ≤ n) && decide (n ≤ hi)

/-- Every setting within its range of section 12.5, with every relation of the range column, and none of the four
inconsistencies of R162. -/
def settingsInRange (c : Settings) : Bool :=
  decide (c.kind ≠ .none) && within 0 c.pulseWeight 100 &&
  within 200 c.reportPeriod 2000 && decide (c.reportPeriod % 100 = 0) &&
  within 500 c.sharePeriod 4000 && decide (c.sharePeriod % 100 = 0) &&
  within 250 c.sampleWindow 2000 && decide (c.sampleWindow % 50 = 0) &&
  within 10 c.forgetTime 600 && within 50 c.feederCapacity 4000 && within 0 c.rMin 500 &&
  within 1 c.rampUp 200 && within 1 c.rampDown 500 && within 1 c.capacityCoeff 2000 &&
  within 0 c.capacityCeiling 4000 && within 0 c.beltLimit 4000 && within 0 c.powerBudget 8000 &&
  within 0 c.trimBand 200 && within 1 c.trimStep 200 && within 0 c.trimFloor 1000 &&
  within 10 c.ratedPower 1000 && within 10 c.powerSpan 2000 &&
  within 1 c.overPower 2000 && within 1 c.underPower 2000 && decide (c.underPower < c.overPower) &&
  within 50 c.pressureSpan 500 && within 1 c.pressureOver 500 && within 1 c.trampMark 500 &&
  within 1 c.settleMark 500 && within 1 c.contactMark 500 &&
  within 0 c.cavityEmpty 1000 && within 0 c.cavityHigh 1000 && within 0 c.cavityFull 1000 &&
  decide (c.cavityEmpty < c.cavityHigh) && decide (c.cavityHigh < c.cavityFull) &&
  within 0 c.hwLo 1000 && within 0 c.hwHi 1000 && decide (c.hwLo < c.hwHi) &&
  within 0 c.lwLo 1000 && within 0 c.lwHi 1000 && decide (c.lwLo < c.lwHi) &&
  within 0 c.blindFactor 1000 &&
  within 0 c.gapMin 4095 && within 0 c.gapMax 4095 && within 0 c.startGap 4095 &&
  decide (c.gapMin < c.gapMax) && within 1 c.stroke 4095 && decide (c.gapMax ≤ c.stroke) &&
  within 1 c.holdBand 50 && within 1 c.stepSize 50 && within 1 c.closeCount 16 && within 1 c.openCount 8 &&
  within 0 c.provisionalMargin 200 && within 1 c.moveTimeout 30 && within 0 c.trampJump 255 &&
  within 2 c.settleTime 60 && within 1 c.trampWindow 60 && within 5 c.clearTime 120 &&
  within 1 c.pulseOn 255 && within 1 c.pulseOff 255 && within 10 c.seekLimit 255 && within 0 c.wearRate 255 &&
  within 0 c.linerWearLimit 4095 && within 10 c.primingTimeout 300

/-- The sum modulo 65536 of `count` words from `start`. -/
def wordSum (w : Nat → Word) (start count : Nat) : Nat :=
  ((List.range count).map (fun i => (w (start + i)).toNat)).sum % 65536

/-- The configuration's validity (R162). -/
def configurationValid (straps : Nat) (w : Nat → Word) : Bool :=
  within 1 straps 30 && decide (wordSum w 0 48 = 0) && decide (loByte (w 0) &&& 0xFC = 0) &&
  settingsInRange (decodeSettings w)

/-- The wear record's validity (R163). -/
def wearRecordValid (straps : Nat) (w : Nat → Word) : Bool :=
  decide (wordSum w 64 8 = 0) && decide (w 69 = 0x5C3A) && decide ((w 70).toNat = straps) &&
  (decide ((w 64).toNat ≤ 4095) || decide (w 64 = 0xFFFF))

/-- The wear record's fields (section 12.5). -/
def decodeWearRecord (w : Nat → Word) : WearRecord where
  contact := if w 64 = 0xFFFF then none else some (w 64).toNat
  linerTonnes := (w 65).toNat
  linerWear := (w 66).toNat
  wearAcc := (w 67).toNat
  calCount := (w 68).toNat

/-- Words 64 to 70 of a wear record (R164): fields, format mark, station number. -/
def WearRecord.words (r : WearRecord) (station : Nat) : List Word :=
  [absentWord r.contact, BitVec.ofNat 16 r.linerTonnes, BitVec.ofNat 16 r.linerWear, BitVec.ofNat 16 r.wearAcc,
   BitVec.ofNat 16 r.calCount, 0x5C3A, BitVec.ofNat 16 station]

/-- The check word 71: it brings the sum of words 64 to 71 to 0 modulo 65536 (R164). -/
def WearRecord.checkWord (r : WearRecord) (station : Nat) : Word := -(r.words station).sum

/-- The value a campaign writes to word `addr` of 64..71. -/
def WearRecord.word (r : WearRecord) (station addr : Nat) : Word :=
  ((r.words station) ++ [r.checkWord station]).getD (addr - 64) 0

end Sys2Proof.Machine
end

