-- ==== Sys2Proof/Machine/Views.lean ====
section
/-!
DEFINITION. What the spec fixes as a function of other state, computed and not stored: which blocks are active, the
gap state, the gap estimate, the working window, the valve outputs, the drive mode and the feeder terminals, the
conditions that Run Control hands on, and the present pressure.
-/

namespace Sys2Proof.Machine

/-- The blocks that become active at the change from STARTING to IDLE are active in every later run state and in
neither STARTING nor UNCONFIGURED (R1, R19, R53, R85, R93, R142). -/
def RunState.active : RunState → Bool
  | .starting => false
  | .unconfigured => false
  | _ => true

/-- See `RunState.active`. -/
def State.active (s : State) : Bool := s.run.state.active

/-! ### Gap Controller -/

/-- The gap state of an activity (section 7.3). -/
def Activity.state : Activity → GapState
  | .holding => .holding
  | .moving _ => .moving
  | .stuck => .stuck
  | .calibrating _ => .calibrating
  | .relieved _ => .relieved
  | .recovering _ => .recovering

/-- The gap state. -/
def State.gapState (s : State) : GapState := s.gap.activity.state

/-- The reference state is PROVISIONAL or REFERENCED. -/
def Reference.present (r : Reference) : Bool := r.contact?.isSome

/-- The gap estimate G (R92): p_contact less the last valid position, plus a tenth of a millimetre for each 100 μm of
wear, 0 when the sum is below 0; absent while UNREFERENCED or while no valid position has been read since reset. -/
def State.gapEstimate (s : State) : Option Nat :=
  match s.gap.reference.contact?, s.monitor.position with
  | some c, some p => some ((c + s.gap.wearAcc / 100) - p)
  | _, _ => none

/-- The difference of two gaps, whichever is larger. -/
def gapDistance (a b : Nat) : Nat := (a - b) + (b - a)

/-- The provisional floor (R96). -/
def provisionalFloor (c : Settings) : Nat := min (c.gapMin + c.provisionalMargin) c.gapMax

/-- Lower bound of the working window (R96). -/
def windowLower (c : Settings) (reference : Reference) (target span : Nat) : Nat :=
  let lower := max c.gapMin (target - span)
  match reference with
  | .provisional _ => max lower (provisionalFloor c)
  | _ => lower

/-- Upper bound of the working window (R96), raised to the lower bound if the provisional floor lies above it. -/
def windowUpper (c : Settings) (reference : Reference) (target span : Nat) : Nat :=
  let upper := min c.gapMax (target + span)
  match reference with
  | .provisional _ => max upper (windowLower c reference target span)
  | _ => upper

/-- `w` moved to the nearer bound of the station's working window if it lies outside it (R97). -/
def State.heldInWindow (s : State) (w : Nat) : Nat :=
  min (max w (windowLower s.settings s.gap.reference s.gap.target s.gap.span))
    (windowUpper s.settings s.gap.reference s.gap.target s.gap.span)

/-- The direction an activity asks the valve for (R93): a move in its own direction or reversed, not while paused; a
calibration by its phase; the re-closing, not while paused. -/
def Activity.asks : Activity → Valve
  | .moving m =>
    if m.paused then .off
    else match m.direction, m.reversal with
      | .opening, none => .opening
      | .opening, some _ => .closing
      | .closing, none => .closing
      | .closing, some _ => .opening
  | .calibrating c =>
    match c.phase with
    | .opening _ => .opening
    | .seeking p => if p.on then .closing else .off
    | .backing _ _ => .opening
  | .recovering r => if r.paused then .off else .closing
  | _ => .off

/-- The setting valve's outputs: neither is driven while the present position reading is invalid (R93). -/
def State.valve (s : State) : Valve := if s.monitor.positionValid then s.gap.activity.asks else .off

/-- LINER_WORN (R118); clear until the end of the start sequence, and in UNCONFIGURED, where the Gap Controller keeps its values
after reset (R130). -/
def State.linerWorn (s : State) : Bool := s.active && decide (s.settings.linerWearLimit ≤ s.gap.linerWear)

/-! ### Run Control and Feeder Drive -/

/-- Gap states in which a RUNNING station may feed (R39). -/
def GapState.feeds : GapState → Bool
  | .holding => true
  | .moving => true
  | .stuck => true
  | _ => false

/-- Feeding is permitted (R39). -/
def State.feedPermitted (s : State) : Bool := s.run.state = .running && s.gapState.feeds

/-- The drive mode (R84). -/
def driveModeOf (r : RunState) (g : GapState) : DriveMode :=
  match r, g.feeds with
  | .running, true => .feeding
  | .held, true => .frozen
  | .stopping, true => .rundown
  | _, _ => .zeroed

/-- The drive mode. -/
def State.driveMode (s : State) : DriveMode := driveModeOf s.run.state s.gapState

/-- Feeder rate terminal in microamperes (R89). -/
def State.rateTerminal (s : State) : Nat := 4000 + 16 * s.drive.output

/-- Feeder run permit (R89). -/
def State.runPermit (s : State) : Bool := decide (0 < s.drive.output)

/-- Run states in which the motor is required (R48). -/
def RunState.motorRequired : RunState → Bool
  | .running => true
  | .held => true
  | .stopping => true
  | _ => false

/-- Run states that a tripping fault takes to TRIPPED (R49). -/
def RunState.trippable : RunState → Bool
  | .idle => true
  | .priming => true
  | .running => true
  | .held => true
  | .stopping => true
  | _ => false

/-- The ACTIVE entry, which stands at the head (R142). -/
def State.activeEntry (s : State) : Option Entry :=
  match s.queue with
  | e :: _ => if e.active then some e else none
  | [] => none

/-- The ACTIVE entry is of kind `k`. -/
def State.activeKind (s : State) (k : QueuedKind) : Bool :=
  match s.activeEntry with
  | some e => e.kind = k
  | none => false

/-- Run Control's standing request for an internal calibration (R41). -/
def State.standingRequest (s : State) : Bool :=
  s.run.state = .priming && !s.gap.reference.present && !s.activeKind .calibrate && !s.activeKind .linerChange

/-! ### Field Monitor, Peer Table -/

/-- The present pressure (R2, R15): the latest in-range reading, absent while the pressure input is BROKEN. -/
def State.presentPressure (s : State) : Option Nat :=
  if s.monitor.validity.pressure = .valid then s.monitor.latestPressure else none

/-- A duplicate station number is recent (R29). -/
def State.duplicateRecent (s : State) : Bool :=
  match s.peers.lastDuplicate with
  | some t => decide (s.seconds - t < s.settings.forgetTime)
  | none => false

/-- A frame is addressed to this station's own number (R143). A station whose straps read 0 or 31 has none (R152). -/
def State.addressedAlone (s : State) (header : Address) : Bool :=
  decide (header.destination.toNat = s.stationNumber) && within 1 s.stationNumber 30

/-- A frame is addressed to this station or to every station (R152). -/
def State.addressed (s : State) (header : Address) : Bool :=
  s.addressedAlone header || decide (header.destination = 31)

end Sys2Proof.Machine
end

