-- ==== Sys2Proof/Machine/Flags.lean ====
section
/-!
DEFINITION. The flags the station reports: the STATUS flag byte (R156, section 12.6), the wear report with its flags
(R119), and the conditions that keep a CLEAR_FAULT from being accepted (R148).
-/

namespace Sys2Proof.Machine

/-- The STATUS flag byte: LINER_WORN, WEAR_UNKNOWN, LINE_CONGESTED, and what is present. In UNCONFIGURED the two wear
flags are clear and throughput, power, gap estimate and pile level absent (R156). -/
def State.statusFlags (s : State) : Byte :=
  let live := s.run.state ≠ .unconfigured
  BitVec.ofNat 8
    ((decide live && s.linerWorn).toNat + 2 * (decide live && s.gap.wearUnknown).toNat + 4 * s.line.congested.toNat +
     8 * (decide live && s.monitor.sample.isSome).toNat + 16 * (decide live && s.gapEstimate.isSome).toNat +
     32 * (decide live && (s.monitor.sample.bind (·.pile)).isSome).toNat + 64 * s.run.lastSequence.isSome.toNat)

/-- The wear report (R119). -/
def State.wearReport (s : State) : WearReport where
  reference := s.gap.reference
  lastShift := s.gap.lastShift
  wearAcc := s.gap.wearAcc
  calibrationKg := s.monitor.calibrationKg
  linerTonnes := s.gap.linerTonnes
  linerWear := s.gap.linerWear
  calCount := s.gap.calCount
  linerWorn := s.linerWorn
  wearUnknown := s.gap.wearUnknown

/-- A tripping condition persists (R148). -/
def State.conditionPresent (s : State) : Bool :=
  (s.faults.seen.contains .motorStopped && !s.motorRunning) ||
  decide (s.monitor.validity.pressure = .broken) || decide (s.monitor.validity.position = .broken) ||
  s.duplicateRecent || s.supplyLow

end Sys2Proof.Machine
end

