-- ==== Sys2Proof/Machine/Ops.lean ====
section
/-!
DEFINITION. The operations that the commands share, each owned by the block that its rule names: outgoing frames,
answers, the setting memory and its campaigns, the feeder output, the working setpoint, changes of gap state and run
state, fault reports and trips, moves, calibrations, the start of queued requests, and what follows at the end of an
event (`settle`).
-/

namespace Sys2Proof.Machine

/-! ### Line Port -/

/-- The transmitter without a frame in flight takes one at once: the oldest answer, otherwise the STATUS in the slot,
with a collision count of 0 and no backoff (R153, R154). -/
def LinePort.takeNext (l : LinePort) : LinePort :=
  match l.inFlight, l.answers, l.slot with
  | none, a :: rest, _ =>
    { l with inFlight := some { frame := .answer a, driving := false }, collisions := 0, backoff := 0, answers := rest }
  | none, [], some f =>
    { l with inFlight := some { frame := .status f, driving := false }, collisions := 0, backoff := 0, slot := none }
  | _, _, _ => l

/-- The late-loss mark of a frame in flight, if it is a STATUS (R158). -/
def OutFrame.markLate : OutFrame → OutFrame
  | .status f => .status { f with lateLoss := true }
  | .answer a => .answer a

/-- A loss of an outgoing frame: the congestion flag sets, and every STATUS held is marked (R158). -/
def LinePort.lose (l : LinePort) : LinePort :=
  { l with congested := true,
           slot := l.slot.map (fun f => { f with lateLoss := true }),
           inFlight := l.inFlight.map (fun f => { f with frame := f.frame.markLate }) }

/-- An answer record joins the answer queue of at most 6 frames, or is lost (R157). -/
def LinePort.push (l : LinePort) (a : Answer) : LinePort :=
  if l.answers.length < 6 then LinePort.takeNext { l with answers := l.answers ++ [a] } else l.lose

/-- The Request Queue hands one answer record to the Line Port (R143, R157). -/
def State.answer (a : Answer) (s : State) : State := { s with line := s.line.push a }

/-! ### Request Queue -/

/-- An answer with no distances and no data. -/
def plainAnswer (requester : Byte) (tag : BitVec 3) (kind : Option RequestKind) (outcome : AnswerOutcome) : Answer where
  requester := requester
  tag := tag
  kind := kind
  outcome := outcome
  remaining := none
  reached := none
  data := none

/-- The remaining distance of a STOPPED answer: between G and the W being approached (R112, R145). -/
def State.remaining (s : State) : Option Nat := s.gapEstimate.map (fun g => gapDistance g s.gap.setpoint)

/-- The answer of an entry that ends now: a STOPPED outcome carries the remaining distance and the reached gap (R145). -/
def State.entryAnswer (s : State) (e : Entry) (outcome : AnswerOutcome) : Answer :=
  match outcome with
  | .stopped r =>
    { plainAnswer e.requester e.tag (some e.kind.request) (.stopped r) with
      remaining := s.remaining, reached := s.gapEstimate }
  | o => plainAnswer e.requester e.tag (some e.kind.request) o

/-- The ACTIVE entry ends: it leaves the queue and its outcome is answered (R145). Nothing happens when there is none. -/
def endActive (outcome : AnswerOutcome) (s : State) : State :=
  match s.queue with
  | e :: rest => if e.active then { s with queue := rest, line := s.line.push (s.entryAnswer e outcome) } else s
  | [] => s

/-- The ACTIVE entry ends if it is of kind `k`. -/
def endActiveOf (k : QueuedKind) (outcome : AnswerOutcome) (s : State) : State :=
  if s.activeKind k then endActive outcome s else s

/-- A trip's effect on the queue (R150): the ACTIVE entry is answered STOPPED(TRIPPED), every WAITING entry CANCELLED in
queue order, and the queue is empty. -/
def flushQueue (s : State) : State :=
  { s with
    queue := []
    line := s.queue.foldl
      (fun l e => l.push (s.entryAnswer e (if e.active then .stopped .tripped else .cancelled))) s.line }

/-! ### Setting memory (R160) and its interface (R164) -/

/-- What a READ of word `a` returns: a word not listed is 0. -/
def readCells (cells : List (Nat × Word)) (a : Nat) : Word :=
  match cells with
  | [] => 0
  | (k, v) :: rest => if k = a then v else readCells rest a

/-- Store `v` at word `a`, keeping the list in its form: rising addresses, no zeros. -/
def writeCells (a : Nat) (v : Word) : List (Nat × Word) → List (Nat × Word)
  | [] => if v = 0 then [] else [(a, v)]
  | (k, w) :: rest =>
    if a < k then (if v = 0 then (k, w) :: rest else (a, v) :: (k, w) :: rest)
    else if a = k then (if v = 0 then rest else (a, v) :: rest)
    else (k, w) :: writeCells a v rest

/-- The list's form: addresses strictly rising from `lo` and below 256, no word 0. -/
def cellsWf : Nat → List (Nat × Word) → Bool
  | _, [] => true
  | lo, (k, v) :: rest => decide (lo ≤ k) && decide (k < 256) && decide (v ≠ 0) && cellsWf (k + 1) rest

/-- The setting memory's canonical form; the word being programmed is one of its 256 words. -/
def Memory.wf (m : Memory) : Bool :=
  cellsWf 0 m.cells && (match m.programming with
    | none => true
    | some (a, _) => decide (a < 256))

/-- A READ returns the word at once (R160). -/
def Memory.read (m : Memory) (a : Nat) : Word := readCells m.cells a

/-- The memory finishes the word it is programming, if any, and raises its data-out (R160). -/
def Memory.finish (m : Memory) : Memory :=
  match m.programming with
  | none => m
  | some (a, v) => { m with cells := writeCells a v m.cells, programming := none }

/-- WRITE (R160): ignored while write-disabled. A word still being programmed is finished first (log entry 16). -/
def Memory.write (m : Memory) (a : Nat) (v : Word) : Memory :=
  if m.enabled then { m.finish with programming := some (a, v) } else m

/-- What word `a` of the wear record holds where a campaign was given up in it: `v`, or the value after it where `v` would let
words 64 to 71 sum to 0, since a campaign that timed out or was cut short leaves words that do not (R164). -/
def spoiledWord (cells : List (Nat × Word)) (a : Nat) (v : Word) : Word :=
  if wordSum (readCells (writeCells a v cells)) 64 8 = 0 then v + 1 else v

/-- Word `a` is given up (R164): no word is in progress, and `a` is left with what `v` makes of it (log entries 16, 41 and 42). -/
def Memory.spoil (m : Memory) (a : Nat) (v : Word) : Memory :=
  { m with cells := writeCells a (spoiledWord m.cells a v) m.cells, programming := none }

/-- WRITE_ENABLE and WRITE_DISABLE (R160). -/
def Memory.setEnabled (m : Memory) (on : Bool) : Memory := { m with enabled := on }

/-- The contents of a memory written from outside, word by word (log entry 3). -/
def imageCells (image : List (BitVec 8 × Word)) : List (Nat × Word) :=
  image.foldl (fun cells e => writeCells e.1.toNat e.2 cells) []

/-- A campaign is given up in its word, which is left with a free value (R164; log entries 41 and 42). -/
def giveUpWord (c : Campaign) (s : State) : State :=
  { s with memory := s.memory.spoil c.word (Config.unfinishedWord s.freeCount), freeCount := s.freeCount + 1 }

/-- A campaign is cut off before its check word: the record it leaves is invalid (R164, R165). The words written so far usually see
to that; where they happen to sum to 0, its last word is given up (log entry 42, DESIGN CHOICE). -/
def cutShort (c : Campaign) (s : State) : State := if wordSum s.memory.read 64 8 = 0 then giveUpWord c s else s

/-- What the ready timer is started at for each WRITE, in ms (R164). -/
def readyTime : Nat := 25

/-- A campaign sends WRITE for one word of 64..71 and starts the ready timer (R164). -/
def campaignWord (c : Campaign) (word : Nat) (s : State) : State :=
  { s with interface.campaign := some { c with word := word, ready := readyTime },
           memory := s.memory.write word (c.record.word s.stationNumber word) }

/-- A campaign starts with a record: WRITE_ENABLE, then the first WRITE (R164). -/
def startCampaign (r : WearRecord) (s : State) : State :=
  campaignWord { record := r, word := 64, ready := readyTime, cutOff := false, forLiner := true } 64
    { s with memory := s.memory.setEnabled true }

/-- A record arrives from the Gap Controller: a campaign starts at once if none runs and the supply is not low,
otherwise the record becomes the pending one (R164). -/
def recordArrives (r : WearRecord) (s : State) : State :=
  if s.interface.campaign = none ∧ s.supplyLow = false then startCampaign r s
  else { s with interface.pending := some r }

/-- The record the Gap Controller hands on, taken from its present state (R129). -/
def State.wearRecord (s : State) : WearRecord where
  contact := s.gap.reference.contact?
  linerTonnes := s.gap.linerTonnes
  linerWear := s.gap.linerWear
  wearAcc := s.gap.wearAcc
  calCount := s.gap.calCount

/-- A wear-record write is requested (R129). -/
def requestRecord (s : State) : State := recordArrives s.wearRecord s

/-- A pending record starts its campaign if none runs and the supply is not low (R164, R165). -/
def startPending (s : State) : State :=
  match s.interface.pending with
  | some r =>
    if s.interface.campaign = none ∧ s.supplyLow = false then startCampaign r { s with interface.pending := none } else s
  | none => s

/-! ### Feeder Drive -/

/-- The output becomes `a`. An output that becomes 0 from above 0 is handed to the Field Monitor, whose NOFEED latch
sets, and to Run Control, whose clear timer starts in STOPPING (R9, R46, R90). -/
def setOutput (a : Nat) (s : State) : State :=
  let atZero := decide (a = 0) && decide (0 < s.drive.output)
  { s with drive.output := a,
           monitor.nofeed := s.monitor.nofeed || atZero,
           run.clearTimer := if atZero ∧ s.run.state = .stopping then some (s.settings.clearTime * 1000)
                             else s.run.clearTimer }

/-- A change that leaves the drive mode ZEROED sets the output to 0 in the same event (R87). -/
def zeroIfZeroed (s : State) : State := if s.driveMode = .zeroed then setOutput 0 s else s

/-- Feeding that is not permitted leaves the available capacity at 0 (R56). -/
def dropCapacity (s : State) : State := if s.feedPermitted then s else { s with share.capacity := 0 }

/-! ### Working setpoint (R97) -/

/-- W takes the value `w`: approach pending is cleared when `w` is the present G, set when `w` is a new value that
differs from it, and otherwise stays (R97, log entry 13). -/
def setW (w : Nat) (s : State) : State :=
  { s with gap.setpoint := w,
           gap.approach := if s.gapEstimate = some w then false
                           else if w = s.gap.setpoint then s.gap.approach else true }

/-- W is set afresh: G_t moved into the window, and the load history emptied (R97, R108). -/
def setAfresh (s : State) : State :=
  let s := setW (s.heldInWindow s.gap.target) s
  { s with gap.history := [] }

/-- W is held within the window (R97): moved to the nearer bound when it lies outside, and kept as it was, its mark with it,
when it does not. -/
def holdW (s : State) : State :=
  if s.heldInWindow s.gap.setpoint = s.gap.setpoint then s else setW (s.heldInWindow s.gap.setpoint) s

/-- W becomes G held within the window and approach pending is cleared (R103, R104, R112). With G absent, which only a CANCEL
can find, there is no value to take and W stays (log entry 32, DESIGN CHOICE). -/
def restW (s : State) : State :=
  match s.gapEstimate with
  | some g => { s with gap.setpoint := s.heldInWindow g, gap.approach := false }
  | none => { s with gap.approach := false }

/-! ### Changes of the gap state (R98) -/

/-- The jump window is emptied when OPEN is driven (R133). -/
def emptyJumpIfOpening (s : State) : State := if s.gap.activity.asks = .opening then { s with gap.jumpWindow := [] } else s

/-- The activity becomes `act`, with what its neighbours do at the change: leaving STUCK sets W afresh (R105), the drive
takes its mode (R84, R87), the capacity falls with the permission to feed (R56), and OPEN empties the jump window. -/
def setActivity (act : Activity) (s : State) : State :=
  let s := if s.gapState = .stuck ∧ act.state ≠ .stuck then setAfresh s else s
  emptyJumpIfOpening (zeroIfZeroed (dropCapacity { s with gap.activity := act }))

/-- The running activity's own fields change; the gap state does not. -/
def updateActivity (act : Activity) (s : State) : State := emptyJumpIfOpening { s with gap.activity := act }

/-! ### Changes of the run state -/

/-- The run state becomes `r`, with what the rules tie to the change: the load history is emptied on leaving RUNNING
(R108); the priming timer starts at entry to PRIMING and stops when it is left (R40, R43, R44); the clear timer starts
at entry to STOPPING with the output at 0 and stops when STOPPING is left (R46); 0 is written to the setpoint at a
change to IDLE, PRIMING or TRIPPED (R55); the capacity and the output follow (R56, R87). -/
def changeRun (r : RunState) (s : State) : State :=
  zeroIfZeroed (dropCapacity
    { s with
      gap.history := if s.run.state = .running then [] else s.gap.history
      run.state := r
      run.primingTimer := if r = .priming then some (s.settings.primingTimeout * 1000) else none
      run.clearTimer := if r = .stopping ∧ s.drive.output = 0 then some (s.settings.clearTime * 1000) else none
      drive.setpoint := if r = .idle ∨ r = .priming ∨ r = .tripped then 0 else s.drive.setpoint })

/-- A trip ends a move and a calibration, and neither relief nor re-closing (R106, R126, R140). -/
def endForTrip (s : State) : State :=
  match s.gap.activity with
  | .moving _ => setActivity .holding s
  | .calibrating _ => setActivity .holding s
  | _ => s

/-- A trip (R49): the queue is flushed, move and calibration end, and the run state becomes TRIPPED. -/
def trip (s : State) : State := changeRun .tripped (endForTrip (flushQueue s))

/-- What a report leaves in the Fault Record (R166). -/
def noteFault (k : FaultKind) (s : State) : State :=
  { s with
    faults.first := match s.faults.first with
      | none => some { kind := k, seconds := s.seconds, runState := s.run.state, gap := s.gapEstimate,
                       pressure := s.presentPressure }
      | some f => some f
    faults.further := s.faults.further || s.faults.first.isSome
    faults.seen := if s.faults.seen.contains k then s.faults.seen else s.faults.seen ++ [k] }

/-- A fault is reported (R166); a tripping kind is handed to Run Control (R49). -/
def report (k : FaultKind) (trips : Bool) (s : State) : State :=
  if trips ∧ s.run.state.trippable then trip (noteFault k s) else noteFault k s

/-- The run state becomes `r`; a state in which the motor is required, entered from one in which it was not, finds the
motor running or reports MOTOR_STOPPED (R48). -/
def enterRun (r : RunState) (s : State) : State :=
  if r.motorRequired ∧ ¬ s.run.state.motorRequired ∧ ¬ s.motorRunning then report .motorStopped true (changeRun r s)
  else changeRun r s

/-- STOPPING ends in IDLE, and a wear-record write is requested (R46, R129). -/
def finishStopping (s : State) : State := requestRecord (changeRun .idle s)

/-! ### Reference (R115) -/

/-- The reference state becomes `r`: the jump window is emptied (R133), W is held within the new window (R97), and a loss
of the reference ends a running move (R100) and takes RUNNING or HELD to PRIMING (R44). -/
def setReference (r : Reference) (s : State) : State :=
  let s := holdW { s with gap.reference := r, gap.jumpWindow := [] }
  if r.present then s
  else
    let s := if s.gapState = .moving then setActivity .holding s else s
    if s.run.state = .running ∨ s.run.state = .held then changeRun .priming s else s

/-! ### Moves (section 7.4) -/

/-- G has crossed W in the direction of `d` (R100). -/
def crossed (d : Direction) (g w : Nat) : Bool :=
  match d with
  | .opening => decide (w ≤ g)
  | .closing => decide (g ≤ w)

/-- Outcome of a SET_GAP whose move crossed W: DONE if W is the argument as carried (R112). -/
def State.setGapOutcome (s : State) (e : Entry) : AnswerOutcome :=
  if e.argument = some s.gap.setpoint then .done else .doneClamped

/-- An ACTIVE SET_GAP ends because W was reached (R112). -/
def endSetGapReached (s : State) : State :=
  match s.activeEntry with
  | some e => if e.kind = .setGap then endActive (s.setGapOutcome e) s else s
  | none => s

/-- A move, BACKING or re-closing ends with W reached: approach pending is cleared and the gap state is HOLDING (R100,
R125, R139). -/
def arrive (s : State) : State := setActivity .holding { s with gap.approach := false }

/-- The crossing test of a running move against W (R100). -/
def moveCrossing (s : State) : State :=
  match s.gap.activity, s.gapEstimate with
  | .moving m, some g => if crossed m.direction g s.gap.setpoint then endSetGapReached (arrive s) else s
  | _, _ => s

/-- The arrival test of BACKING (R125). -/
def backingArrival (s : State) : State :=
  match s.gap.activity, s.gapEstimate with
  | .calibrating c, some g =>
    match c.phase with
    | .backing _ _ => if s.gap.setpoint ≤ g then endActiveOf .calibrate .done (arrive s) else s
    | _ => s
  | _, _ => s

/-- The arrival test of the re-closing (R139). -/
def reclosingArrival (s : State) : State :=
  match s.gap.activity, s.gapEstimate with
  | .recovering _, some g => if g ≤ s.gap.setpoint then arrive s else s
  | _, _ => s

/-- A change of W is tested at once by the activity in progress (R100, R125, R139). At most one of the three acts. -/
def testW (s : State) : State :=
  match s.gapState with
  | .moving => moveCrossing s
  | .calibrating => backingArrival s
  | .recovering => reclosingArrival s
  | _ => s

/-- G_t, A or both have changed: W is set afresh, or held within the window while STUCK, and tested (R97, R100). -/
def targetChanged (s : State) : State := testW (if s.gapState = .stuck then holdW s else setAfresh s)

/-- `n` clamped into [gap minimum, gap maximum] (R36, R94). -/
def clampGap (c : Settings) (n : Nat) : Nat := min (max n c.gapMin) c.gapMax

/-- A gap-target arrival from Run Control (R94, R97, R113): an ACTIVE SET_GAP is superseded before W changes, and a
running move no longer carries its NO_RETRY flag. -/
def gapTargetArrives (n : Nat) (s : State) : State :=
  let s := endActiveOf .setGap (.stopped .superseded) s
  let s := match s.gap.activity with
    | .moving m => updateActivity (.moving { m with noRetry := false }) s
    | _ => s
  targetChanged { s with gap.target := clampGap s.settings n }

/-- A span arrival (R95): one equal to the A held changes nothing. -/
def spanArrives (n : Nat) (s : State) : State :=
  if n = s.gap.span then s else targetChanged { s with gap.span := n }

/-- Moves are allowed (R99). -/
def State.movesAllowed (s : State) : Bool :=
  s.active && decide (s.gapState = .holding) && s.gap.reference.present && s.monitor.positionValid &&
  decide (s.run.state ≠ .tripped)

/-- Milliseconds of the move timeout (R99). -/
def State.moveTimeoutMs (s : State) : Nat := s.settings.moveTimeout * 1000

/-- A move starts from G toward W (R99), not paused whatever the pressure at its start: R101 tests each reading from the next one on
(log entry 45, DESIGN CHOICE). -/
def startMove (g : Nat) (s : State) : State :=
  setActivity (.moving
    { direction := if g < s.gap.setpoint then .opening else .closing
      noRetry := match s.activeEntry with
        | some e => e.kind = .setGap && e.noRetry
        | none => false
      stallCount := 0
      mark := g
      stall := s.moveTimeoutMs
      reversal := none
      paused := false }) s

/-- The move test (R99): a move starts when G is off W by more than the hold band, or by anything while approach is
pending. -/
def moveTest (s : State) : State :=
  match s.gapEstimate with
  | some g =>
    if s.movesAllowed ∧ (s.settings.holdBand < gapDistance g s.gap.setpoint ∨ (s.gap.approach ∧ g ≠ s.gap.setpoint))
    then startMove g s else s
  | none => s

/-! ### Calibration (section 8.3) -/

/-- The start conditions of R120 but for the gap state. -/
def State.calibrationReady (s : State) : Bool :=
  s.motorRunning && decide (s.drive.output = 0) &&
  (match s.monitor.sample with
   | some l => decide (l.cavity ≤ s.settings.cavityEmpty)
   | none => false) &&
  s.monitor.positionValid && decide (s.run.state ≠ .tripped)

/-- A calibration starts in OPENING (R121). -/
def startCalibration (k : CalKind) (s : State) : State :=
  setActivity (.calibrating
    { kind := k, seekLimit := some (s.settings.seekLimit * 1000), phase := .opening (s.monitor.position.getD 0) }) s

/-- An internal calibration starts as soon as the standing request is held, the gap state is HOLDING and the start
conditions hold (R41, R120). -/
def internalCalibrationTest (s : State) : State :=
  if s.standingRequest ∧ s.gapState = .holding ∧ s.active ∧ s.calibrationReady then startCalibration .internal s else s

/-- A calibration is aborted, or ends without contact: the valve is off and the gap state HOLDING (R124, R126). -/
def stopCalibration (s : State) : State := setActivity .holding s

/-- Contact at position `p` (R123), in the rule's order; BACKING begins. The contact's own event makes no arrival test, so a W
at or below the G of 0 ends BACKING at the next reading (R125, log entry 39). Approach pending is set where W differs from G, and
otherwise stays as holding W within its window left it (R97, log entry 13). -/
def contact (k : CalKind) (p : Nat) (s : State) : State :=
  let shift : Option Int := s.gap.reference.contact?.map (fun old => (p : Int) - (old : Int))
  let worn : Nat := match shift with
    | some d => min 65535 (s.gap.linerWear + d.toNat)
    | none => s.gap.linerWear
  let s := { s with gap.lastShift := shift, gap.linerWear := worn, gap.wearAcc := 0, monitor.calibrationKg := 0,
                    gap.calCount := min 65535 (s.gap.calCount + 1) }
  let s := setReference (.referenced p) s
  let s := requestRecord s
  let g := s.gapEstimate.getD 0
  let s := { s with gap.approach := s.gap.approach || decide (g ≠ s.gap.setpoint) }
  updateActivity (.calibrating { kind := k, seekLimit := none, phase := .backing g s.moveTimeoutMs }) s

/-! ### Starting the head of the queue (R144) -/

/-- The ACTIVE mark on the head. -/
def activateHead : List Entry → List Entry
  | e :: rest => { e with active := true } :: rest
  | [] => []

/-- A SET_GAP starts (R111). -/
def startSetGap (e : Entry) (s : State) : State :=
  let asked := clampGap s.settings (e.argument.getD 0)
  if ¬ s.gap.reference.present then endActive (.stopped .blocked) s
  else if s.gapState = .stuck then
    let s := endActive (.stopped .stall) s
    holdW { s with gap.target := asked }
  else
    let s := setAfresh { s with gap.target := asked }
    if s.gapEstimate = some s.gap.setpoint then endActive (s.setGapOutcome e) s
    else { s with gap.approach := true }

/-- A requested calibration starts, or its entry ends STOPPED(BLOCKED) (R120). -/
def startRequestedCalibration (s : State) : State :=
  if s.calibrationReady then startCalibration .requested s else endActive (.stopped .blocked) s

/-- A LINER_CHANGE starts (R128). The running campaign's record was requested before it. -/
def startLinerChange (s : State) : State :=
  let s := { s with gap.linerTonnes := 0, gap.linerWear := 0, gap.calCount := 0, gap.wearAcc := 0,
                    gap.wearUnknown := false, gap.lastShift := none, monitor.linerKg := 0,
                    interface.campaign := s.interface.campaign.map (fun c => { c with forLiner := false }) }
  requestRecord (setReference .unreferenced s)

/-- The head may be started (R144). -/
def State.headStartable (s : State) : Bool :=
  s.active && (decide (s.gapState = .holding) || decide (s.gapState = .stuck)) &&
  (match s.queue with
   | e :: _ => !e.active
   | [] => false)

/-- The head is made ACTIVE and started by the Gap Controller (R144). -/
def startHead (s : State) : State :=
  match s.queue with
  | [] => s
  | e :: _ =>
    let s := { s with queue := activateHead s.queue }
    match e.kind with
    | .setGap => startSetGap e s
    | .calibrate => startRequestedCalibration s
    | .linerChange => startLinerChange s

/-- Heads are started for as long as the test of R144 holds: a start that ends its entry makes the next one the head.
`n` bounds the number of starts. -/
def startHeads : Nat → State → State
  | 0, s => s
  | n + 1, s => if s.headStartable then startHeads n (startHead s) else s

/-! ### The end of an event -/

/-- The PRIMING test (R42), on the states as the Gap Controller's event left them. -/
def primingTest (s : State) : State :=
  if s.run.state = .priming ∧ s.gap.reference.present ∧ s.gapState = .holding then enterRun .running s else s

/-- What follows once an event has been taken: the head of the queue is started first (R99, R144), then a waiting internal
calibration (R120), then a move (R99), and the PRIMING test is made on what they leave (R42; log entries 12 and 15). -/
def settle (s : State) : State := primingTest (moveTest (internalCalibrationTest (startHeads s.queue.length s)))

end Sys2Proof.Machine
end

