-- ==== Sys2Proof/Machine/Drive.lean ====
section
/-!
DEFINITION. The Feeder Drive's own events (chapter 6): RAMP_INTERVAL.
-/

namespace Sys2Proof.Machine

/-- A ramp's step per interval: the larger of 1 and a tenth of the ramp, rounded down (R85). -/
def rampStep (ramp : Nat) : Nat := max 1 (ramp / 10)

/-- The output of one interval below its target (R85): from rest to r_min, then by the up step. -/
def raiseOutput (c : Settings) (target a : Nat) : Nat :=
  if a = 0 ∧ 0 < c.rMin then c.rMin else min target (a + rampStep c.rampUp)

/-- The output of one interval above its target (R86): never through the range between 0 and r_min. -/
def lowerOutput (c : Settings) (target a : Nat) : Nat :=
  if target = 0 then (if c.rMin < a then max c.rMin (a - rampStep c.rampDown) else 0)
  else max target (a - rampStep c.rampDown)

/-- The output of one interval toward a target (R85, R86). -/
def rampToward (c : Settings) (target a : Nat) : Nat :=
  if a < target then raiseOutput c target a
  else if target < a then lowerOutput c target a
  else a

/-- The output after one ramp interval event, by drive mode (R85). -/
def rampOutput (s : State) : Nat :=
  match s.driveMode with
  | .feeding => rampToward s.settings s.drive.setpoint s.drive.output
  | .rundown => rampToward s.settings 0 s.drive.output
  | .frozen => s.drive.output
  | .zeroed => s.drive.output

/-- What the ramp interval timer restarts at, in ms (R85). -/
def rampPeriod : Nat := 100

/-- One ramp interval of the active drive; an output that becomes 0 is an event a waiting internal calibration is tested
at (R90, R120). -/
def rampInterval (s : State) : State :=
  let s' := setOutput (rampOutput s) { s with drive.timer := some rampPeriod }
  if s'.drive.output = 0 ∧ s.drive.output ≠ 0 then internalCalibrationTest s' else s'

/-- RAMP_INTERVAL (R85). -/
def execRampInterval (s : State) : Host.Outcome State Fault Refusal :=
  .next (if s.active then rampInterval s else s)

end Sys2Proof.Machine
end

