-- ==== Sys2Proof/Machine/Monitor.lean ====
section
/-!
DEFINITION. Field Measurements (chapter 1) and what the Gap Controller tests at each reading (chapters 7 to 9):
READING_EVENT, BELT_SCALE_PULSE, WINDOW_CLOSE.
-/

namespace Sys2Proof.Machine

/-! ### Readings (section 1.1) -/

/-- A loop current inside 3600..21000 microamperes (R2, R5). -/
def loopInRange (i : Nat) : Bool := within 3600 i 21000

/-- The value of a loop current on a span, held within 0..span (R2). -/
def scaleLoop (span i : Nat) : Nat := min ((i - 4000) * span / 16000) span

/-- A loop's reading: its scaled value, or absent when the current is out of range (R2). -/
def loopReading (span i : Nat) : Option Nat := if loopInRange i then some (scaleLoop span i) else none

/-- The position reading: a code of 0..4095 with the indication set (R3). -/
def positionReading (r : Readings) : Option Nat := if r.positionMarked ∧ r.position ≤ 4095 then some r.position else none

/-- An in-range reading is added to its window sum (R8). -/
def Accumulator.add (a : Accumulator) (v : Option Nat) : Accumulator :=
  match v with
  | some n => { sum := a.sum + n, count := a.count + 1 }
  | none => a

/-- The pressure peak (R8). -/
def raisePeak (peak reading : Option Nat) : Option Nat :=
  match peak, reading with
  | some p, some v => some (max p v)
  | none, some v => some v
  | p, none => p

/-- The pile level reading, only when a pile input is configured (R1). -/
def pileReading (c : Settings) (r : Readings) : Option Nat := if c.pileInput then loopReading 1000 r.pile else none

/-- The window sums, marks and peak with one more reading event; the output summed is the one noted at the reading (R1,
R8). An absent pile input neither reads nor breaks (R5). -/
def noteReading (r : Readings) (s : State) : State :=
  let power := loopReading s.settings.powerSpan r.power
  let pressure := loopReading s.settings.pressureSpan r.pressure
  let cavity := loopReading 1000 r.cavity
  let pile := pileReading s.settings r
  let m := s.monitor
  { s with monitor := { m with
      power := m.power.add power
      pressure := m.pressure.add pressure
      cavity := m.cavity.add cavity
      pile := m.pile.add pile
      output := m.output.add (some s.drive.output)
      peak := raisePeak m.peak pressure
      latestPressure := pressure.orElse (fun _ => m.latestPressure)
      inRange := { power := m.inRange.power && power.isSome
                   pressure := m.inRange.pressure && pressure.isSome
                   cavity := m.inRange.cavity && cavity.isSome
                   pile := m.inRange.pile && (pile.isSome || !s.settings.pileInput)
                   position := m.inRange.position && (positionReading r).isSome } } }

/-! ### Broken loops (section 1.2) -/

/-- A VALID power input whose reading is out of range becomes BROKEN and reports POWER_LOOP (R5). -/
def breakPower (ok : Bool) (s : State) : State :=
  if s.monitor.validity.power = .valid ∧ ok = false then
    report .powerLoop false { s with monitor.validity.power := .broken } else s

/-- The pressure input; PRESSURE_LOOP trips (R5). -/
def breakPressure (ok : Bool) (s : State) : State :=
  if s.monitor.validity.pressure = .valid ∧ ok = false then
    report .pressureLoop true { s with monitor.validity.pressure := .broken } else s

/-- The cavity input (R5). -/
def breakCavity (ok : Bool) (s : State) : State :=
  if s.monitor.validity.cavity = .valid ∧ ok = false then
    report .cavityLoop false { s with monitor.validity.cavity := .broken } else s

/-- The pile input, which is not read when it is configured absent (R5). -/
def breakPile (ok : Bool) (s : State) : State :=
  if s.monitor.validity.pile = .valid ∧ ok = false then
    report .pileLoop false { s with monitor.validity.pile := .broken } else s

/-- The position input; POSITION_LOOP trips (R5). -/
def breakPosition (ok : Bool) (s : State) : State :=
  if s.monitor.validity.position = .valid ∧ ok = false then
    report .positionLoop true { s with monitor.validity.position := .broken } else s

/-- The break checks of one reading event, in the order of the table of R5 (log entry 8). -/
def breakChecks (r : Readings) (s : State) : State :=
  breakPosition (positionReading r).isSome
    (breakPile (!s.settings.pileInput || loopInRange r.pile)
      (breakCavity (loopInRange r.cavity)
        (breakPressure (loopInRange r.pressure)
          (breakPower (loopInRange r.power) s))))

/-- The position reading is handed on: a valid one becomes the present position, an invalid one only its mark (R3). -/
def notePosition (p : Option Nat) (s : State) : State :=
  { s with monitor.position := p.orElse (fun _ => s.monitor.position), monitor.positionValid := p.isSome }

/-- The reading clock: 0 at the first reading event after reset, 10 ms more at each one after it (R133). -/
def advanceReadingClock (s : State) : State :=
  { s with gap.readingClock := some (match s.gap.readingClock with
      | none => 0
      | some t => t + 10) }

/-! ### The Gap Controller's tests at a reading: the activity in progress (R131) -/

/-- The pause of a closing drive (R101): paused above the over mark, driven at or below it, unchanged by a reading out of
range. -/
def pauseBy (overMark : Nat) (pressure : Option Nat) (paused : Bool) : Bool :=
  match pressure with
  | some p => decide (overMark < p)
  | none => paused

/-- Progress of 0.5 mm or more in the direction being driven (R102): `opening` drives G up from the mark. -/
def progressed (opening : Bool) (mark g : Nat) : Bool := if opening then decide (mark + 5 ≤ g) else decide (g + 5 ≤ mark)

/-- The mark and the stall timer after one reading of a drive that is not paused (R102). -/
def trackProgress (opening : Bool) (timeout mark stall g : Nat) : Nat × Nat :=
  if progressed opening mark g then (g, timeout) else (mark, stall)

/-- The direction a move drives now is opening: its own direction, turned round by a reversal (R103). -/
def Move.drivesOpen (m : Move) : Bool := (m.direction = .opening) != m.reversal.isSome

/-- A running reversal has reached its goal (R103). -/
def Move.reversalDone (m : Move) (g : Nat) : Bool :=
  match m.reversal with
  | none => false
  | some goal => if m.drivesOpen then decide (goal ≤ g) else decide (g ≤ goal)

/-- The reversal is over: the move resumes in its own direction, its progress watched from `g` on (R103). -/
def Move.resume (timeout g : Nat) (m : Move) : Move :=
  { m with reversal := none, mark := g, stall := timeout, paused := false }

/-- One reading of a move that has not crossed W: a reversal at its goal resumes the move (R103); otherwise the pause of
R101 and the progress of R102 are tested. A CLOSE that is driven again at the end of an opening reversal is tested against the over
mark from the next reading on (log entry 45, DESIGN CHOICE). -/
def Move.reading (overMark timeout : Nat) (pressure : Option Nat) (g : Nat) (m : Move) : Move :=
  if m.reversalDone g then m.resume timeout g
  else
    let m := { m with paused := if m.drivesOpen then false else pauseBy overMark pressure m.paused }
    if m.paused then m
    else
      let t := trackProgress m.drivesOpen timeout m.mark m.stall g
      { m with mark := t.1, stall := t.2 }

/-- The goal of a running reversal is tested at its start and at a change of wear_acc, as it is at each reading (R103). -/
def reversalTest (s : State) : State :=
  match s.gap.activity, s.gapEstimate with
  | .moving m, some g => if m.reversalDone g then updateActivity (.moving (m.resume s.moveTimeoutMs g)) s else s
  | _, _ => s

/-- A reading in MOVING: the crossing test first (R100), then the move's own tests. -/
def moveReading (pressure : Option Nat) (s : State) : State :=
  let s := moveCrossing s
  match s.gap.activity, s.gapEstimate with
  | .moving m, some g => updateActivity (.moving (m.reading s.settings.pressureOver s.moveTimeoutMs pressure g)) s
  | _, _ => s

/-- One reading of a re-closing that has not arrived (R139). -/
def Reclosing.reading (overMark timeout : Nat) (pressure : Option Nat) (g : Nat) (r : Reclosing) : Reclosing :=
  let r := { r with paused := pauseBy overMark pressure r.paused }
  if r.paused then r
  else
    let t := trackProgress false timeout r.mark r.stall g
    { r with mark := t.1, stall := t.2 }

/-- A reading in RECOVERING: the arrival first, then pause and progress (R139). -/
def reclosingReading (pressure : Option Nat) (s : State) : State :=
  let s := reclosingArrival s
  match s.gap.activity, s.gapEstimate with
  | .recovering r, some g => updateActivity (.recovering (r.reading s.settings.pressureOver s.moveTimeoutMs pressure g)) s
  | _, _ => s

/-- A first seek pulse from position `p`, or the next one (R122). -/
def seekPulse (c : Settings) (still p : Nat) : SeekPulse where
  on := true
  left := c.pulseOn * 10
  still := still
  start := p

/-- A calibration ends without contact (R124): HOLDING, CAL_NO_CONTACT, tripping only for an internal calibration; a
CALIBRATE entry ends STOPPED(NO_CONTACT). -/
def calibrationFails (k : CalKind) (s : State) : State :=
  match k with
  | .internal => report .calNoContact true (stopCalibration s)
  | .requested => endActiveOf .calibrate (.stopped .noContact) (report .calNoContact false (stopCalibration s))

/-- A reading in CALIBRATING, by phase: the end of OPENING (R121), contact by pressure and the end of travel in SEEKING
(R122, R124), arrival and progress in BACKING (R125). The reading that ends OPENING is not itself tested for contact or for
4095 (log entry 39, DESIGN CHOICE). -/
def calibrationReading (pressure : Option Nat) (c : Calibration) (p : Nat) (s : State) : State :=
  match c.phase with
  | .opening start =>
    if p ≤ start - 50 then updateActivity (.calibrating { c with phase := .seeking (seekPulse s.settings 0 p) }) s else s
  | .seeking _ =>
    if pressure.any (fun v => decide (s.settings.contactMark < v)) then contact c.kind p s
    else if p = 4095 then calibrationFails c.kind s else s
  | .backing _ _ =>
    let s := backingArrival s
    match s.gap.activity, s.gapEstimate with
    | .calibrating c, some g =>
      match c.phase with
      | .backing mark stall =>
        let t := trackProgress true s.moveTimeoutMs mark stall g
        updateActivity (.calibrating { c with phase := .backing t.1 t.2 }) s
      | _ => s
    | _, _ => s

/-- A reading in RELIEVED: pressure in range below the settle mark starts the settle timer or leaves it running, any
other reading stops it (R137). The reading itself must be in range; an input that a window close has not restored yet is no bar
(log entry 43, DESIGN CHOICE). -/
def settleReading (pressure : Option Nat) (timer : Timer) (s : State) : State :=
  if pressure.any (fun v => decide (v < s.settings.settleMark)) then
    updateActivity (.relieved (some (timer.getD (s.settings.settleTime * 1000)))) s
  else updateActivity (.relieved none) s

/-- The tests of the activity in progress at one reading (R131). A driving activity waits while the position reading is
invalid (R93); the model then makes none of its tests, the pressure pause among them (log entry 29). -/
def activityReading (pressure position : Option Nat) (s : State) : State :=
  match s.gap.activity, position with
  | .relieved t, _ => settleReading pressure t s
  | .moving _, some _ => moveReading pressure s
  | .recovering _, some _ => reclosingReading pressure s
  | .calibrating c, some p => calibrationReading pressure c p s
  | _, _ => s

/-! ### The tramp tests (sections 9.1 and 9.2) -/

/-- The tramp list with a detection at `t` (R136, steps 1 to 3). -/
def trampListWith (windowSeconds t : Nat) (l : List Nat) : List Nat :=
  let l := l.filter (fun e => decide (t - e ≤ windowSeconds)) ++ [t]
  if l.length = 4 then l.drop 1 else l

/-- One detection (R135): detection is disarmed, the tramp list updated, the load history emptied, what the gap state was
doing ends and it is RELIEVED with its settle timer stopped; TRAMP_REPEAT is reported after the change (R136, log
entry 19). -/
def detectTramp (s : State) : State :=
  let list := trampListWith (s.settings.trampWindow * 60) s.seconds s.gap.trampList
  let s := { s with gap.armed := false, gap.lastDetection := s.gap.readingClock, gap.jumpWindow := [],
                    gap.trampList := list, gap.history := [] }
  let s := endActiveOf .calibrate (.stopped .tramp) (endActiveOf .setGap (.stopped .tramp) s)
  let s := setActivity (.relieved none) s
  if list.length = 3 then report .trampRepeat true s else s

/-- The gap estimate a reading may add to the jump window: G present, the position reading valid, OPEN off (R133). -/
def State.jumpCandidate (s : State) : Option Nat :=
  if s.monitor.positionValid ∧ s.valve ≠ .opening then s.gapEstimate else none

/-- The jump test against the window (R133): passed when G exceeds the smallest G in it by the tramp jump or more. -/
def jumpPassed (jump : Nat) (window : List (Nat × Nat)) (g : Option Nat) : Bool :=
  match g with
  | some g => decide (jump ≠ 0) && window.any (fun e => decide (e.2 + jump ≤ g))
  | none => false

/-- A reading re-arms detection (R134). The reading itself must be in range; an input that a window close has not restored yet is no
bar (log entry 43, DESIGN CHOICE). -/
def State.rearms (s : State) (now : Nat) (pressure : Option Nat) : Bool :=
  (match s.gap.lastDetection with
   | some t => decide (t + 1000 ≤ now)
   | none => true) &&
  pressure.any (fun v => decide (v < s.settings.settleMark))

/-- The tramp tests of one reading (R131 to R134), on the state that the activity's tests left. -/
def trampReading (pressure : Option Nat) (s : State) : State :=
  let now := s.gap.readingClock.getD 0
  let kept := s.gap.jumpWindow.filter (fun e => decide (now ≤ e.1 + 1000))
  let added := match s.jumpCandidate with
    | some g => kept ++ [(now, g)]
    | none => kept
  if s.gap.armed then
    if pressure.any (fun v => decide (s.settings.trampMark < v)) ∨ jumpPassed s.settings.trampJump kept s.jumpCandidate
    then detectTramp s
    else { s with gap.jumpWindow := added }
  else if s.rearms now pressure then { s with gap.armed := true, gap.jumpWindow := [] }
  else { s with gap.jumpWindow := added }

/-- The Gap Controller's part of one reading event (R15, R131). -/
def gapReading (pressure position : Option Nat) (s : State) : State :=
  trampReading pressure (activityReading pressure position s)

/-! ### Tonnage (section 1.4) -/

/-- A counter of kilograms after an addition: 100000 kg or beyond loses 100000 kg (R14). -/
def wrapKg (n : Nat) : Nat := if 100000 ≤ n then n - 100000 else n

/-- `kg` kilograms are added to both counters, each raising its hundred-tonne event when it passes the mark (R13, R14,
R117, R118). -/
def addTonnage (kg : Nat) (s : State) : State :=
  let cal := s.monitor.calibrationKg + kg
  let liner := s.monitor.linerKg + kg
  { s with monitor.calibrationKg := wrapKg cal
           monitor.linerKg := wrapKg liner
           gap.wearAcc := if 100000 ≤ cal then min 65535 (s.gap.wearAcc + s.settings.wearRate) else s.gap.wearAcc
           gap.linerTonnes := if 100000 ≤ liner then min 65535 (s.gap.linerTonnes + 1) else s.gap.linerTonnes }

/-- What one reading event delivers by estimate, on the output noted at it; nothing with a belt scale (R13). -/
def estimateTonnage (output : Nat) (s : State) : State :=
  if s.settings.pulseWeight = 0 then
    let total := s.monitor.remainder + output * s.settings.feederCapacity
    addTonnage (total / 360000) { s with monitor.remainder := total % 360000 }
  else s

/-- A change of the wear accumulator is a change of G, against which a running move tests W (R92, R100) and a running reversal
its goal (R103). -/
def wearChanged (s : State) : State := if s.gapState = .moving then reversalTest (moveCrossing s) else s

/-! ### READING_EVENT -/

/-- One reading event of the active monitor (R1), in the order of log entry 8. -/
def readingEvent (r : Readings) (s : State) : State :=
  let output := s.drive.output
  let s := breakChecks r (noteReading r (advanceReadingClock s))
  let s := gapReading (loopReading s.settings.pressureSpan r.pressure) (positionReading r)
    (notePosition (positionReading r) s)
  settle (wearChanged (estimateTonnage output s))

/-- READING_EVENT (R1): nothing is read while the monitor is not active. -/
def execReadingEvent (r : Readings) (s : State) : Host.Outcome State Fault Refusal :=
  .next (if s.active then readingEvent r s else s)

/-! ### BELT_SCALE_PULSE -/

/-- BELT_SCALE_PULSE (R4): counted in the open window and weighed, unless no scale is fitted or the monitor is not
active. -/
def execBeltScalePulse (s : State) : Host.Outcome State Fault Refusal :=
  .next (if s.active ∧ s.settings.pulseWeight ≠ 0 then
    settle (wearChanged (addTonnage s.settings.pulseWeight { s with monitor.pulseCount := s.monitor.pulseCount + 1 }))
  else s)

/-! ### WINDOW_CLOSE (section 1.3) -/

/-- A BROKEN input all of whose readings in the closing window were in range becomes VALID (R6). -/
def restore (v : Validity) (inRange : Bool) : Validity := if inRange then .valid else v

/-- The validity states after R6. -/
def restoreAll (m : Monitor) : Inputs Validity where
  power := restore m.validity.power m.inRange.power
  pressure := restore m.validity.pressure m.inRange.pressure
  cavity := restore m.validity.cavity m.inRange.cavity
  pile := restore m.validity.pile m.inRange.pile
  position := restore m.validity.position m.inRange.position

/-- The average of a window sum, rounded down (R10); of no readings at all, a free value of the loop's span (log
entry 9). -/
def Accumulator.mean (a : Accumulator) (span free : Nat) : Nat :=
  if a.count = 0 then Config.emptyMean free % (span + 1) else a.sum / a.count

/-- The power level in per-mille of the rated power (R11). -/
def powerLevel (c : Settings) (power : Nat) : Nat := power * 1000 / c.ratedPower

/-- The load class (R11): a BROKEN input plays no part. -/
def loadClassOf (c : Settings) (v : Inputs Validity) (power : Nat) (peak : Option Nat) : LoadClass :=
  let valid := decide (v.power = .valid)
  if (valid && decide (c.overPower < powerLevel c power)) ||
      (decide (v.pressure = .valid) && peak.any (fun p => decide (c.pressureOver < p))) then .over
  else if valid && decide (powerLevel c power < c.underPower) then .under
  else .normal

/-- The window's throughput (R12), held at 65535. `averageOutput` is used without a belt scale only. -/
def throughputOf (c : Settings) (pulses averageOutput : Nat) : Nat :=
  min 65535 (if c.pulseWeight = 0 then averageOutput * c.feederCapacity / 1000
             else pulses * c.pulseWeight * 3600 / c.sampleWindow)

/-- The load sample of the closing window, its validity states `v` already restored (R7, R10). `free` numbers its free
values. -/
def loadSampleOf (c : Settings) (m : Monitor) (v : Inputs Validity) (free : Nat) : LoadSample :=
  let power := if v.power = .broken then c.ratedPower else m.power.mean c.powerSpan free
  let peak := if v.pressure = .broken then none else m.peak
  { power := power
    pressure := if v.pressure = .broken then none else some (m.pressure.mean c.pressureSpan (free + 1))
    peak := peak
    cavity := if v.cavity = .broken then c.cavityHigh else m.cavity.mean 1000 (free + 2)
    pile := if c.pileInput ∧ v.pile = .valid then some (m.pile.mean 1000 (free + 3)) else none
    throughput := throughputOf c m.pulseCount (m.output.mean 1000 (free + 4))
    loadClass := loadClassOf c v power peak
    nofeed := m.nofeed
    validity := v }

/-- A sample window opens (R8, R9). -/
def openWindow (s : State) : State :=
  { s with monitor := { s.monitor with
      window := some s.settings.sampleWindow
      power := ⟨0, 0⟩
      pressure := ⟨0, 0⟩
      cavity := ⟨0, 0⟩
      pile := ⟨0, 0⟩
      output := ⟨0, 0⟩
      peak := none
      pulseCount := 0
      inRange := ⟨true, true, true, true, true⟩
      nofeed := decide (s.drive.output = 0) } }

/-- The load history with a class pushed as its newest entry, at most 16 (R107). -/
def pushClass (k : LoadClass) (l : List LoadClass) : List LoadClass := (k :: l).take 16

/-- The open test (R109). -/
def openTest (openCount : Nat) (l : List LoadClass) : Bool :=
  decide (openCount ≤ l.length) && (l.take openCount).all (· = .over)

/-- The close test (R110). -/
def closeTest (closeCount : Nat) (l : List LoadClass) : Bool :=
  decide (l.length = 16) && decide (closeCount ≤ l.countP (· = .under)) && !l.contains .over

/-- The step decision after a push (R109, R110): made in HOLDING with a span above 0. -/
def stepDecision (s : State) : State :=
  if 0 < s.gap.span ∧ s.gapState = .holding then
    if openTest s.settings.openCount s.gap.history then
      { setW (min (s.gap.setpoint + s.settings.stepSize)
          (windowUpper s.settings s.gap.reference s.gap.target s.gap.span)) s with gap.history := [] }
    else if closeTest s.settings.closeCount s.gap.history then
      { setW (max (s.gap.setpoint - s.settings.stepSize)
          (windowLower s.settings s.gap.reference s.gap.target s.gap.span)) s with gap.history := [] }
    else s
  else s

/-- The Gap Controller takes a sample (R107): while RUNNING its class is pushed unless it is marked NOFEED, and a step
decision follows. -/
def historyTakes (l : LoadSample) (s : State) : State :=
  if s.run.state = .running ∧ l.nofeed = false then
    stepDecision { s with gap.history := pushClass l.loadClass s.gap.history }
  else s

/-- Run Control takes a sample (R46): in STOPPING with the clear timer running, a cavity at or below the empty mark ends
STOPPING. -/
def clearTakes (l : LoadSample) (s : State) : State :=
  if s.run.state = .stopping ∧ s.run.clearTimer.isSome ∧ l.cavity ≤ s.settings.cavityEmpty then finishStopping s else s

/-- A window close of the active monitor (R6, R8, R10). -/
def windowClose (s : State) : State :=
  let v := restoreAll s.monitor
  let l := loadSampleOf s.settings s.monitor v s.freeCount
  let s := openWindow { s with monitor.validity := v, monitor.sample := some l, freeCount := s.freeCount + 5 }
  settle (clearTakes l (historyTakes l s))

/-- WINDOW_CLOSE (R10). -/
def execWindowClose (s : State) : Host.Outcome State Fault Refusal :=
  .next (if s.active then windowClose s else s)

end Sys2Proof.Machine
end

