-- ==== Sys2Proof/Machine/Gap.lean ====
section
/-!
DEFINITION. The Gap Controller's timers (chapters 7 to 9): STALL_TIMER_EXPIRY, SEEK_LIMIT_EXPIRY, SEEK_PULSE_ON_END,
SEEK_PULSE_OFF_END, SETTLE_TIMER_EXPIRY. A timer that is stopped or held does not expire (R93, R101, log entry 1).
-/

namespace Sys2Proof.Machine

/-! ### Stalls -/

/-- The goal of a reversal from the stall gap `g` (R103). -/
def reversalGoal (d : Direction) (g : Nat) : Nat :=
  match d with
  | .closing => g + 20
  | .opening => g - 20

/-- A drive that has stalled ends STUCK (R104, R125, R139): GAP_STALL is reported, W becomes G held within the window and
approach pending is cleared. -/
def stickAt (s : State) : State := setActivity .stuck (restW (report .gapStall false s))

/-- A stall of a running move (R103, R104). A reversal whose goal is met where it starts, that of an opening move at a G of 0,
resumes the move at once. -/
def moveStalls (m : Move) (g : Nat) (s : State) : State :=
  if m.stallCount = 0 then
    if m.noRetry then
      setActivity .holding (restW (endActiveOf .setGap (.stopped .stall) s))
    else
      reversalTest (updateActivity (.moving { m with
        stallCount := 1, mark := g, stall := s.moveTimeoutMs, reversal := some (reversalGoal m.direction g)
        paused := false }) s)
  else stickAt (endActiveOf .setGap (.stopped .stall) s)

/-- A stall of a move, of BACKING or of a re-closing (R102, R125, R139). No other activity has a stall timer, and one that a
pause holds does not expire (R101). -/
def stall (s : State) : State :=
  match s.gap.activity, s.gapEstimate with
  | .moving m, some g => if m.paused then s else settle (moveStalls m g s)
  | .calibrating c, some _ =>
    match c.phase with
    | .backing _ _ => settle (stickAt (endActiveOf .calibrate (.stopped .stall) s))
    | _ => s
  | .recovering r, some _ => if r.paused then s else settle (stickAt s)
  | _, _ => s

/-- STALL_TIMER_EXPIRY (R102). -/
def execStallTimerExpiry (s : State) : Host.Outcome State Fault Refusal :=
  .next (if s.active ∧ s.monitor.positionValid then stall s else s)

/-! ### Calibration timers -/

/-- The seek limit expires in OPENING or SEEKING (R124); it is stopped in BACKING. -/
def seekLimitExpires (s : State) : State :=
  match s.gap.activity with
  | .calibrating c => if c.seekLimit.isSome then settle (calibrationFails c.kind s) else s
  | _ => s

/-- SEEK_LIMIT_EXPIRY (R124). -/
def execSeekLimitExpiry (s : State) : Host.Outcome State Fault Refusal :=
  .next (if s.active ∧ s.monitor.positionValid then seekLimitExpires s else s)

/-- The end of a pulse's on time: both outputs off for the off time (R122). -/
def pulseOnEnds (s : State) : State :=
  match s.gap.activity with
  | .calibrating c =>
    match c.phase with
    | .seeking p =>
      if p.on then
        updateActivity (.calibrating { c with phase := .seeking { p with on := false, left := s.settings.pulseOff * 10 } }) s
      else s
    | _ => s
  | _ => s

/-- SEEK_PULSE_ON_END (R122). -/
def execSeekPulseOnEnd (s : State) : Host.Outcome State Fault Refusal :=
  .next (if s.active ∧ s.monitor.positionValid then pulseOnEnds s else s)

/-- The still count after a pulse (R122). -/
def stillAfter (p : SeekPulse) (position : Nat) : Nat := if position ≤ p.start then p.still + 1 else 0

/-- The end of a pulse's off time: contact by stillness at a still count of 3, otherwise the next pulse (R122). -/
def pulseOffEnds (s : State) : State :=
  match s.gap.activity with
  | .calibrating c =>
    match c.phase with
    | .seeking p =>
      let here := s.monitor.position.getD 0
      if p.on then s
      else if stillAfter p here = 3 then settle (contact c.kind here s)
      else updateActivity (.calibrating { c with phase := .seeking (seekPulse s.settings (stillAfter p here) here) }) s
    | _ => s
  | _ => s

/-- SEEK_PULSE_OFF_END (R122, R123). -/
def execSeekPulseOffEnd (s : State) : Host.Outcome State Fault Refusal :=
  .next (if s.active ∧ s.monitor.positionValid then pulseOffEnds s else s)

/-! ### Settling -/

/-- The relief is over (R138): HOLDING without a gap estimate or with G at or below W, otherwise RECOVERING toward W
(R139). R138 names no row for a G that is absent because no valid position has been read since reset: HOLDING too (log entry 40,
DESIGN CHOICE). -/
def reliefEnds (s : State) : State :=
  match s.gapEstimate with
  | some g =>
    if g ≤ s.gap.setpoint then setActivity .holding s
    else setActivity (.recovering { mark := g, stall := s.moveTimeoutMs, paused := false }) s
  | none => setActivity .holding s

/-- SETTLE_TIMER_EXPIRY (R138). -/
def execSettleTimerExpiry (s : State) : Host.Outcome State Fault Refusal :=
  .next (match s.gap.activity with
    | .relieved (some _) => if s.active then settle (reliefEnds s) else s
    | _ => s)

end Sys2Proof.Machine
end

