-- ==== Sys2Proof/Machine/Peers.lean ====
section
/-!
DEFINITION. The Peer Table (chapter 2): AGEING_EVENT, STATUS_ARRIVAL, and the readings the Share Unit takes of it.
-/

namespace Sys2Proof.Machine

/-- Two group codes agree on every bit set in a mask (R22, R23, R35). -/
def agree (a b mask : Byte) : Bool := decide ((a ^^^ b) &&& mask = 0)

/-! ### Taking a report (section 2.2) -/

/-- An entry placed in number order, in place of the entry of the same number (R17, R21). -/
def enterPeer (e : PeerEntry) : List PeerEntry → List PeerEntry
  | [] => [e]
  | f :: rest =>
    if e.number < f.number then e :: f :: rest
    else if e.number = f.number then e :: rest
    else f :: enterPeer e rest

/-- The entry an accepted report makes (R18, R21), its memberships worked out from this station's kind, group code and
masks (R22, R23). A run state of STARTING or UNCONFIGURED, which R18 does not list, is entered as carried (log entry 37, DESIGN
CHOICE). -/
def peerEntryOf (c : Settings) (source : Nat) (p : StatusPayload) : PeerEntry where
  number := source
  kind := stageOf p.kind
  groupCode := p.groupCode
  runState := (runStateOf p.runState).getD .idle
  reportPeriod := p.periodMs
  capacity := p.capacity.toNat
  throughput := p.throughputEntered
  power := p.powerEntered
  pile := p.pileEntered
  silence := 0
  entryState := .live
  belt := decide (stageOf p.kind = c.kind) && agree p.groupCode c.groupCode c.beltMask
  powerMember := agree p.groupCode c.groupCode c.powerMask

/-- A report period the table can age by: 200..2000 ms and a multiple of 100 ms (R20). -/
def periodAcceptable (ms : Nat) : Bool := within 200 ms 2000 && decide (ms % 100 = 0)

/-- A duplicate-number event (R28): the last duplicate time is recorded and DUPLICATE_NUMBER reported. -/
def duplicateEvent (s : State) : State :=
  report .duplicateNumber true { s with peers.lastDuplicate := some s.seconds }

/-- A STATUS reaches the active table (R20): discarded, a duplicate number, or entered. -/
def takeStatus (source : Nat) (p : StatusPayload) (s : State) : State :=
  if within 1 source 30 = false then s
  else if source = s.stationNumber then duplicateEvent s
  else if periodAcceptable p.periodMs then
    { s with peers.entries := enterPeer (peerEntryOf s.settings source p) s.peers.entries }
  else s

/-- The receiver has read a frame to its end: the next one starts after the line has been idle (R152, log entry 11). -/
def frameEnds (s : State) : State := { s with line.receiver := .waitingIdle }

/-- A frame reaches its end and `act` takes it up (R152). A receiver that waits for the line to be idle has started no frame,
so it takes none. -/
def onFrame (act : State → State) (s : State) : State := if s.line.receiver = .waitingIdle then s else act (frameEnds s)

/-- STATUS_ARRIVAL (R20, R152): not handed on when addressed elsewhere, when this station drove it itself, or when a
code is undefined; discarded while the table is not active (R19). -/
def execStatusArrival (header : Address) (own : Bool) (p : StatusPayload) (s : State) :
    Host.Outcome State Fault Refusal :=
  .next (onFrame (fun s => if s.addressed header ∧ own = false ∧ p.codesDefined ∧ s.active then
    takeStatus header.source.toNat p s else s) s)

/-! ### Ageing (section 2.3) -/

/-- One entry at an ageing event (R24 to R26): 100 ms more of silence; removed beyond the forget time; a LIVE one SILENT
beyond three of its own report periods. -/
def ageEntry (forgetMs : Nat) (e : PeerEntry) : Option PeerEntry :=
  let silence := e.silence + 100
  if forgetMs < silence then none
  else some { e with silence := silence,
                     entryState := if 3 * e.reportPeriod < silence then .silent else e.entryState }

/-- What the ageing timer restarts at, in ms (R24). -/
def ageingPeriod : Nat := 100

/-- AGEING_EVENT (R24). -/
def execAgeingEvent (s : State) : Host.Outcome State Fault Refusal :=
  .next (if s.active then
    { s with peers.entries := s.peers.entries.filterMap (ageEntry (s.settings.forgetTime * 1000)),
             peers.ageing := some ageingPeriod }
  else s)

/-! ### What the table hands on (section 2.5) -/

/-- The entry is LIVE. -/
def PeerEntry.live (e : PeerEntry) : Bool := e.entryState = .live

/-- The lowest-numbered LIVE entry with a pile level (R31): the entries are kept in number order. -/
def peerLevel (entries : List PeerEntry) : Option (Nat × Nat) :=
  (entries.find? (fun e => e.live && e.pile.isSome)).bind (fun e => e.pile.map (fun l => (l, e.number)))

/-- The selected pile level and its source (R31): own input, then peers, then unknown. -/
def selectLevel (s : State) : Option Nat × LevelSource :=
  let own := if s.settings.pileInput then s.monitor.sample.bind (·.pile) else none
  match own, peerLevel s.peers.entries with
  | some l, _ => (some l, .own)
  | none, some (l, n) => (some l, .peer n)
  | none, none => (none, .none)

/-- Belt members that are LIVE. -/
def liveMembers (entries : List PeerEntry) : List PeerEntry := entries.filter (fun e => e.belt && e.live)

/-- Belt members that are SILENT. -/
def silentMembers (entries : List PeerEntry) : List PeerEntry := entries.filter (fun e => e.belt && !e.live)

end Sys2Proof.Machine
end

