-- ==== Sys2Proof/Machine/Control.lean ====
section
/-!
DEFINITION. Demand and Run Control (chapter 3): DEMAND, RUN, STOP, MOTOR_RUNNING_FALL, MOTOR_RUNNING_RISE,
PRIMING_TIMER_EXPIRY, CLEAR_TIMER_EXPIRY.
-/

namespace Sys2Proof.Machine

/-! ### Accepting a demand (section 3.1) -/

/-- A DEMAND matches (R35): its stage is the configured kind, and the group codes agree under the frame's own mask. -/
def demandMatches (c : Settings) (p : DemandPayload) : Bool :=
  decide (stageOf p.stage ≠ .none) && decide (stageOf p.stage = c.kind) && agree p.groupCode c.groupCode p.groupMask

/-- A sequence number is newer than the last accepted one (R36). -/
def sequenceNewer (last : Option Byte) (n : Byte) : Bool :=
  match last with
  | none => true
  | some l => within 1 (n - l).toNat 127

/-- Run Control takes the frame up (R34 to R36): in every run state but STARTING, when it matches and is newer. -/
def State.acceptsDemand (header : Address) (p : DemandPayload) (s : State) : Bool :=
  s.addressed header && decide (s.run.state ≠ .starting) && demandMatches s.settings p &&
  sequenceNewer s.run.lastSequence p.sequence

/-- The fields of an accepted DEMAND are stored or handed on before its command acts (R36). The Gap Controller takes no
arrivals while it is not active (R93). R36 states no order between the two arrivals of one frame: the gap target is taken first,
then the span (log entry 44, DESIGN CHOICE). -/
def storeDemand (p : DemandPayload) (s : State) : State :=
  let s := { s with run.lastSequence := some p.sequence, run.target := p.target?.getD s.run.target }
  let s := match p.gap? with
    | some g => if s.active then gapTargetArrives g s else s
    | none => s
  match p.span? with
  | some a => if s.active then spanArrives a s else s
  | none => s

/-! ### RUN (section 3.3) -/

/-- RUN finds a reference and no calibration in progress (R40). -/
def State.readyToRun (s : State) : Bool := s.gap.reference.present && decide (s.gapState ≠ .calibrating)

/-- RUN from IDLE or STOPPING (R40). -/
def beginRun (s : State) : State := if s.readyToRun then enterRun .running s else changeRun .priming s

/-- What an accepted RUN does, by run state (R40). -/
def actRun (s : State) : State :=
  match s.run.state with
  | .idle => beginRun s
  | .stopping => beginRun s
  | _ => s

/-! ### STOP (section 3.4) -/

/-- Run Control tells the Gap Controller to abort an internal calibration (R45, R126). -/
def abortInternal (s : State) : State :=
  match s.gap.activity with
  | .calibrating c => if c.kind = .internal then stopCalibration s else s
  | _ => s

/-- STOP from RUNNING, HELD or PRIMING (R45). -/
def beginStop (s : State) : State := enterRun .stopping s

/-- What an accepted STOP does, by run state (R45). -/
def actStop (s : State) : State :=
  match s.run.state with
  | .running => beginStop s
  | .held => beginStop s
  | .priming => abortInternal (beginStop s)
  | _ => s

/-- A command acts once, at the acceptance of its DEMAND, and is recorded as the last command (R37). -/
def actCommand (c : Option Command) (s : State) : State :=
  match c with
  | none => s
  | some .run => actRun { s with run.lastCommand := some .run }
  | some .stop => actStop { s with run.lastCommand := some .stop }

/-- What an accepted DEMAND does, its command read as `c` (R36, R37), and what follows at the end of the event. -/
def actDemand (p : DemandPayload) (c : Option Command) (s : State) : State :=
  let s := actCommand c (storeDemand p s)
  if s.active then settle s else s

/-- A DEMAND frame taken whole as one event (R34, R36), its command read as `c`. -/
def takeDemand (header : Address) (p : DemandPayload) (c : Option Command) (s : State) : State :=
  onFrame (fun s => if s.acceptsDemand header p then actDemand p c s else s) s

/-- DEMAND (R36): the frame with whatever command it carries. -/
def execDemand (header : Address) (p : DemandPayload) (s : State) : Host.Outcome State Fault Refusal :=
  .next (takeDemand header p p.command? s)

/-- RUN (R40): a DEMAND frame that carries RUN. -/
def execRun (header : Address) (p : DemandPayload) (s : State) : Host.Outcome State Fault Refusal :=
  .next (takeDemand header p (some .run) s)

/-- STOP (R45): a DEMAND frame that carries STOP. -/
def execStop (header : Address) (p : DemandPayload) (s : State) : Host.Outcome State Fault Refusal :=
  .next (takeDemand header p (some .stop) s)

/-! ### The motor input (section 3.6) -/

/-- MOTOR_RUNNING_FALL (R48): MOTOR_STOPPED is reported while the motor is required. -/
def execMotorRunningFall (s : State) : Host.Outcome State Fault Refusal :=
  .next (let s := { s with motorRunning := false }
    if s.run.state.motorRequired then report .motorStopped true s else s)

/-- MOTOR_RUNNING_RISE (R48, R120): reports nothing, and a waiting internal calibration is tested. -/
def execMotorRunningRise (s : State) : Host.Outcome State Fault Refusal :=
  .next (internalCalibrationTest { s with motorRunning := true })

/-! ### Timers of Run Control -/

/-- PRIMING_TIMER_EXPIRY (R43): CAL_BLOCKED, which trips the station. A timer that does not run cannot expire (log
entry 1). -/
def execPrimingTimerExpiry (s : State) : Host.Outcome State Fault Refusal :=
  .next (if s.run.state = .priming ∧ s.run.primingTimer.isSome then
    report .calBlocked true { s with run.primingTimer := none } else s)

/-- CLEAR_TIMER_EXPIRY (R46): STOPPING ends in IDLE. -/
def execClearTimerExpiry (s : State) : Host.Outcome State Fault Refusal :=
  .next (if s.run.state = .stopping ∧ s.run.clearTimer.isSome then finishStopping s else s)

end Sys2Proof.Machine
end

