-- ==== Sys2Proof/Machine/Requests.lean ====
section
/-!
DEFINITION. Gap requests and answers (chapter 10): the REQUEST rows SET_GAP, CALIBRATE, LINER_CHANGE, CANCEL, HOLD_FEED,
RELEASE_FEED, CLEAR_FAULT, QUERY_FAULT, QUERY_WEAR, QUERY_SHARE, QUERY_QUEUE and BAD_KIND.
-/

namespace Sys2Proof.Machine

/-- A REQUEST reaches the active queue (R142, R143): addressed to this station alone. -/
def State.takesRequest (header : Address) (s : State) : Bool := s.addressedAlone header && s.active

/-- A REQUEST frame ends at the receiver; `act` is done when the queue takes it up, otherwise it is discarded without an
answer (R142, R143). -/
def onRequest (header : Address) (act : State → State) (s : State) : State :=
  onFrame (fun s => if s.takesRequest header then act s else s) s

/-- An immediate answer: one answer, no distances, no data (R143). -/
def answerNow (header : Address) (tag : BitVec 3) (kind : Option RequestKind) (outcome : AnswerOutcome) (s : State) :
    State :=
  s.answer (plainAnswer header.source tag kind outcome)

/-! ### Queued kinds (section 10.2) -/

/-- Why a queued kind is refused at its arrival by the station's state (R143). -/
def stateRefusal (k : QueuedKind) (s : State) : Option RefuseCode :=
  match k with
  | .setGap =>
    if s.run.state = .tripped then some .tripped
    else if s.gap.reference.present then none else some .noReference
  | .calibrate => if s.run.state = .idle ∨ s.run.state = .priming then none else some .notIdle
  | .linerChange => if s.run.state = .idle then none else some .notIdle

/-- An entry of this requester and tag is held (R143). -/
def holdsTag (requester : Byte) (tag : BitVec 3) (queue : List Entry) : Bool :=
  queue.any (fun e => decide (e.requester = requester) && decide (e.tag = tag))

/-- Whether a queued kind is refused, its tests in the order of R143: state, tag, room. -/
def queuedRefusal (k : QueuedKind) (requester : Byte) (tag : BitVec 3) (s : State) : Option RefuseCode :=
  match stateRefusal k s with
  | some r => some r
  | none =>
    if holdsTag requester tag s.queue then some .duplicateTag
    else if 4 ≤ s.queue.length then some .queueFull
    else none

/-- A queued kind arrives (R143): refused, or appended WAITING and answered QUEUED before anything its start may answer. -/
def enqueue (e : Entry) (s : State) : State :=
  let reply := plainAnswer e.requester e.tag (some e.kind.request)
  match queuedRefusal e.kind e.requester e.tag s with
  | some r => s.answer (reply (.refused r))
  | none => settle (State.answer (reply .queued) { s with queue := s.queue ++ [e] })

/-- The entry a request makes (R142). -/
def entryOf (header : Address) (tag : BitVec 3) (k : QueuedKind) (argument : Option Nat) (noRetry : Bool) : Entry where
  requester := header.source
  tag := tag
  kind := k
  argument := argument
  noRetry := noRetry
  active := false

/-- SET_GAP (R143). -/
def execSetGap (header : Address) (tag : BitVec 3) (noRetry : Bool) (argument : Word) (s : State) :
    Host.Outcome State Fault Refusal :=
  .next (onRequest header (enqueue (entryOf header tag .setGap (some argument.toNat) noRetry)) s)

/-- CALIBRATE (R143). -/
def execCalibrate (header : Address) (tag : BitVec 3) (noRetry : Bool) (s : State) :
    Host.Outcome State Fault Refusal :=
  .next (onRequest header (enqueue (entryOf header tag .calibrate none noRetry)) s)

/-- LINER_CHANGE (R143). -/
def execLinerChange (header : Address) (tag : BitVec 3) (noRetry : Bool) (s : State) :
    Host.Outcome State Fault Refusal :=
  .next (onRequest header (enqueue (entryOf header tag .linerChange none noRetry)) s)

/-! ### CANCEL (R146) -/

/-- The entry a CANCEL names: its requester is the CANCEL's own and its tag the argument (R146). -/
def named (requester : Byte) (argument : Word) (e : Entry) : Bool :=
  decide (e.requester = requester) && decide (e.tag.toNat = argument.toNat)

/-- An ACTIVE entry is cancelled (R112, R126, R146): it ends STOPPED(CANCELLED); a SET_GAP's move stops where it stands, a
calibration is aborted, a LINER_CHANGE leaves what it did. -/
def cancelActive (k : QueuedKind) (s : State) : State :=
  let s := endActive (.stopped .cancelled) s
  match k with
  | .setGap =>
    let s := if s.gapState = .moving then setActivity .holding s else s
    restW s
  | .calibrate => if s.gapState = .calibrating then stopCalibration s else s
  | .linerChange => s

/-- CANCEL's effect (R146): the entry's answer before the CANCEL's own, then the start test of R144. -/
def cancelEntry (header : Address) (tag : BitVec 3) (argument : Word) (s : State) : State :=
  match s.queue.find? (named header.source argument) with
  | none => answerNow header tag (some .cancel) (.refused .noSuchTag) s
  | some e =>
    let s := if e.active then cancelActive e.kind s
      else State.answer (plainAnswer e.requester e.tag (some e.kind.request) .cancelled)
        { s with queue := s.queue.filter (fun f => !named header.source argument f) }
    settle (answerNow header tag (some .cancel) .done s)

/-- CANCEL (R146). -/
def execCancel (header : Address) (tag : BitVec 3) (argument : Word) (s : State) : Host.Outcome State Fault Refusal :=
  .next (onRequest header (cancelEntry header tag argument) s)

/-! ### HOLD_FEED and RELEASE_FEED (R47, R147) -/

/-- HOLD_FEED: RUNNING becomes HELD, or the request is refused. -/
def holdFeed (header : Address) (tag : BitVec 3) (s : State) : State :=
  if s.run.state = .running then answerNow header tag (some .holdFeed) .done (enterRun .held s)
  else answerNow header tag (some .holdFeed) (.refused .notRunning) s

/-- RELEASE_FEED: HELD becomes RUNNING, or the request is refused. -/
def releaseFeed (header : Address) (tag : BitVec 3) (s : State) : State :=
  if s.run.state = .held then answerNow header tag (some .releaseFeed) .done (enterRun .running s)
  else answerNow header tag (some .releaseFeed) (.refused .notHeld) s

/-- HOLD_FEED (R47). -/
def execHoldFeed (header : Address) (tag : BitVec 3) (s : State) : Host.Outcome State Fault Refusal :=
  .next (onRequest header (holdFeed header tag) s)

/-- RELEASE_FEED (R47). -/
def execReleaseFeed (header : Address) (tag : BitVec 3) (s : State) : Host.Outcome State Fault Refusal :=
  .next (onRequest header (releaseFeed header tag) s)

/-! ### CLEAR_FAULT (R148) -/

/-- An accepted CLEAR_FAULT (R148): the Fault Record and the tramp list are emptied, TRIPPED becomes IDLE (R50), and STUCK
becomes HOLDING (R105). -/
def clearAccepted (s : State) : State :=
  let s := { s with faults := { first := none, seen := [], further := false }, gap.trampList := [] }
  let s := if s.run.state = .tripped then changeRun .idle s else s
  if s.gapState = .stuck then setActivity .holding s else s

/-- CLEAR_FAULT's effect (R148). -/
def clearFault (header : Address) (tag : BitVec 3) (s : State) : State :=
  if s.conditionPresent then answerNow header tag (some .clearFault) (.refused .conditionPresent) s
  else settle (answerNow header tag (some .clearFault) .done (clearAccepted s))

/-- CLEAR_FAULT (R148). -/
def execClearFault (header : Address) (tag : BitVec 3) (s : State) : Host.Outcome State Fault Refusal :=
  .next (onRequest header (clearFault header tag) s)

/-! ### QUERY (R149) -/

/-- A QUERY is answered DONE with its record; it changes nothing else (R149). -/
def answerQuery (header : Address) (tag : BitVec 3) (data : QueryData) (s : State) : State :=
  s.answer { plainAnswer header.source tag (some .query) .done with data := some data }

/-- QUERY_FAULT (R149). -/
def execQueryFault (header : Address) (tag : BitVec 3) (s : State) : Host.Outcome State Fault Refusal :=
  .next (onRequest header (fun s => answerQuery header tag (.fault s.faults s.monitor.validity) s) s)

/-- QUERY_WEAR (R149, R119). -/
def execQueryWear (header : Address) (tag : BitVec 3) (s : State) : Host.Outcome State Fault Refusal :=
  .next (onRequest header (fun s => answerQuery header tag (.wear s.wearReport) s) s)

/-- QUERY_SHARE (R149, R70): the record as the latest computation formed it, whose c_s stays although the available capacity
may have dropped to 0 since (R56; log entry 38, DESIGN CHOICE). -/
def execQueryShare (header : Address) (tag : BitVec 3) (s : State) : Host.Outcome State Fault Refusal :=
  .next (onRequest header (fun s => answerQuery header tag (.share s.share.record) s) s)

/-- QUERY_QUEUE (R149). -/
def execQueryQueue (header : Address) (tag : BitVec 3) (s : State) : Host.Outcome State Fault Refusal :=
  .next (onRequest header (fun s => answerQuery header tag (.queue s.queue) s) s)

/-- BAD_KIND (R143): refused, with the kind the code names, or 0 for a code outside 1..8. -/
def execBadKind (header : Address) (tag : BitVec 3) (code : Byte) (_argument : Word) (s : State) :
    Host.Outcome State Fault Refusal :=
  .next (onRequest header (answerNow header tag (requestKindOf code) (.refused .badKind)) s)

end Sys2Proof.Machine
end

