-- ==== Sys2Proof/Machine/Line.lean ====
section
/-!
DEFINITION. The Line Port's own events (chapter 11): ANSWER_FRAME_RECEIVED, FRAME_DISCARDED, REPORT_TIMER_EXPIRY,
TRANSMIT_ATTEMPT, FRAME_SENT, COLLISION, LINE_IDLE.
-/

namespace Sys2Proof.Machine

/-! ### Receiving (section 11.2) -/

/-- ANSWER_FRAME_RECEIVED (R152): always discarded. -/
def execAnswerFrameReceived (s : State) : Host.Outcome State Fault Refusal := .next (onFrame id s)

/-- FRAME_DISCARDED (R152): nothing is handed on, and the receiver waits for the line to be idle. -/
def execFrameDiscarded (s : State) : Host.Outcome State Fault Refusal := .next (onFrame id s)

/-- LINE_IDLE (R152): the receiver will start a frame at the next dominant bit; a frame it was reading is discarded. -/
def execLineIdle (s : State) : Host.Outcome State Fault Refusal := .next { s with line.receiver := .ready }

/-! ### The STATUS (section 11.4) -/

/-- The report period in force: 500 ms in UNCONFIGURED (R156). -/
def State.reportPeriodMs (s : State) : Nat := if s.run.state = .unconfigured then 500 else s.settings.reportPeriod

/-- A value that UNCONFIGURED reports as 0. -/
def State.reported (s : State) (n : Nat) : Nat := if s.run.state = .unconfigured then 0 else n

/-- A field that may be absent: its value, or free value `k` of this STATUS (log entry 35). UNCONFIGURED reports every such
measurement absent (R156). -/
def State.reportedIfPresent (s : State) (k : Nat) (v : Option Nat) : Word :=
  match s.run.state, v with
  | .unconfigured, _ => Config.absentField (s.freeCount + k)
  | _, some n => BitVec.ofNat 16 n
  | _, none => Config.absentField (s.freeCount + k)

/-- The STATUS assembled from the fields as they stand (R156). -/
def assembleStatus (s : State) : StatusPayload where
  kind := if s.run.state = .unconfigured then 0 else BitVec.ofNat 8 (stationKindCode s.settings.kind)
  groupCode := s.settings.groupCode
  runState := BitVec.ofNat 8 s.run.state.code
  gapState := BitVec.ofNat 8 (if s.run.state = .unconfigured then GapState.holding.code else s.gapState.code)
  fault := BitVec.ofNat 8 (if s.run.state = .unconfigured then FaultKind.settingInvalid.code
    else match s.faults.first with
      | some f => f.kind.code
      | none => 0)
  flags := s.statusFlags
  reportPeriod := BitVec.ofNat 8 (s.reportPeriodMs / 100)
  capacity := BitVec.ofNat 16 (s.reported s.share.capacity)
  throughput := s.reportedIfPresent 0 (s.monitor.sample.map (·.throughput))
  power := s.reportedIfPresent 1 (s.monitor.sample.map (·.power))
  output := BitVec.ofNat 16 (s.reported s.drive.output)
  gap := s.reportedIfPresent 2 s.gapEstimate
  pile := s.reportedIfPresent 3 (s.monitor.sample.bind (·.pile))
  sequence := match s.run.lastSequence with
    | some n => n
    | none => loByte (Config.absentField (s.freeCount + 4))
  command := BitVec.ofNat 8 (commandCode s.run.lastCommand)

/-- A fresh STATUS replaces any in the slot, with its late-loss mark clear, and an idle transmitter takes it (R153, R156,
R158); the report timer restarts. The five fields that may be absent use five free values. -/
def reportStatus (s : State) : State :=
  let filled : LinePort :=
    { s.line with slot := some { payload := assembleStatus s, lateLoss := false },
                  reportTimer := some s.reportPeriodMs }
  { s with line := filled.takeNext, freeCount := s.freeCount + 5 }

/-- REPORT_TIMER_EXPIRY (R156): the timer is stopped in STARTING. -/
def execReportTimerExpiry (s : State) : Host.Outcome State Fault Refusal :=
  .next (if s.run.state = .starting then s else reportStatus s)

/-! ### Transmitting (section 11.3) -/

/-- An attempt begins: the frame in flight is driven, and the receiver reads it (R152, R154). -/
def beginAttempt (f : InFlight) (l : LinePort) : LinePort :=
  { l with inFlight := some { f with driving := true }, receiver := .reading }

/-- TRANSMIT_ATTEMPT (R154). -/
def execTransmitAttempt (s : State) : Host.Outcome State Fault Refusal :=
  .next (match s.line.inFlight with
    | some f => { s with line := beginAttempt f s.line }
    | none => s)

/-- A sent STATUS that carried LINE_CONGESTED clears the congestion flag if its late-loss mark is clear (R158). -/
def OutFrame.clearsCongestion : OutFrame → Bool
  | .status f => f.payload.lineCongested && !f.lateLoss
  | .answer _ => false

/-- The frame in flight has been sent whole: it leaves the transmitter, which takes its next (R153, R154). The receiver
does not hand it on (R152). -/
def frameSent (f : InFlight) (l : LinePort) : LinePort :=
  LinePort.takeNext { l with inFlight := none, receiver := .waitingIdle,
                             congested := l.congested && !f.frame.clearsCongestion }

/-- FRAME_SENT (R154). -/
def execFrameSent (s : State) : Host.Outcome State Fault Refusal :=
  .next (match s.line.inFlight with
    | some f => if f.driving then { s with line := frameSent f s.line } else s
    | none => s)

/-- The backoff after collision `n`, from a draw of 0..15 (R155): uniform over 0..2^m − 1 with m the smaller of n and 4. -/
def backoffOf (n : Nat) (draw : BitVec 4) : Nat := draw.toNat % 2 ^ min n 4

/-- A collision stops the attempt (R155): a new backoff, or at the eighth the frame is discarded, a loss is taken and the
transmitter takes its next frame. -/
def collide (draw : BitVec 4) (f : InFlight) (l : LinePort) : LinePort :=
  let n := l.collisions + 1
  if n < 8 then
    { l with inFlight := some { f with driving := false }, collisions := n, backoff := backoffOf n draw }
  else LinePort.takeNext (LinePort.lose { l with inFlight := none, collisions := n })

/-- COLLISION (R155). -/
def execCollision (draw : BitVec 4) (s : State) : Host.Outcome State Fault Refusal :=
  .next (match s.line.inFlight with
    | some f => if f.driving then { s with line := collide draw f s.line } else s
    | none => s)

end Sys2Proof.Machine
end

