-- ==== Sys2Proof/Machine/Setting.lean ====
section
/-!
DEFINITION. Reset, the start sequence, the setting memory's campaigns and the supply (chapter 12): RESET,
START_SEQUENCE_END, WORD_READY, READY_TIMER_EXPIRY, SUPPLY_LOW_RISE, SUPPLY_LOW_FALL.
-/

namespace Sys2Proof.Machine

/-! ### Reset (section 12.4) -/

/-- The setting memory through a reset (R167): it finishes the word it has begun (R160), and a campaign that the supply has cut off
before its check word leaves an invalid record (R165). -/
def memoryThroughReset (s : State) : State :=
  let s := { s with memory := s.memory.finish }
  match s.interface.campaign with
  | some c => if c.cutOff ∧ c.word ≠ 71 then cutShort c s else s
  | none => s

/-- RESET (R167): every block holds its values after reset. The level pins stand as they are, the setting memory keeps its words,
and the commands that wait and the model's free-value counter are not the station's. -/
def execReset (s : State) : Host.Outcome State Fault Refusal :=
  .next (let s := memoryThroughReset s
    { State.reset with
      pending := s.pending
      freeCount := s.freeCount
      motorRunning := s.motorRunning
      supplyLow := s.supplyLow
      memory := s.memory })

/-! ### The start sequence (section 12.1) -/

/-- The memory that answers the READs, write-disabled (R161, log entry 3). -/
def startMemory (m : Memory) : StartMemory → Memory
  | .kept => m.finish.setEnabled false
  | .fitted image => { cells := imageCells image, enabled := false, programming := none }

/-- The Gap Controller's reference, wear and totals from the wear record read (R116). -/
def referenceFromRecord (valid : Bool) (r : WearRecord) (s : State) : State :=
  if valid then
    { s with gap.reference := (match r.contact with
               | some c => .provisional c
               | none => .unreferenced)
             gap.wearAcc := r.wearAcc
             gap.linerTonnes := r.linerTonnes
             gap.linerWear := r.linerWear
             gap.calCount := r.calCount
             gap.wearUnknown := false }
  else
    { s with gap.reference := .unreferenced, gap.wearAcc := 0, gap.linerTonnes := 0, gap.linerWear := 0,
             gap.calCount := 0, gap.wearUnknown := true }

/-- G_t at the start gap and W at G_t held within the window, approach pending clear (R94, R114). -/
def startTarget (s : State) : State :=
  let s := { s with gap.target := clampGap s.settings s.settings.startGap }
  { s with gap.setpoint := s.heldInWindow s.gap.target, gap.approach := false }

/-- A valid configuration makes the station IDLE and its blocks active, each starting its timer, and the monitor opening
its first window (R1, R8, R19, R38, R53, R85). -/
def startConfigured (recordValid : Bool) (r : WearRecord) (s : State) : State :=
  let s := startTarget (referenceFromRecord recordValid r s)
  openWindow { s with
    run.state := .idle
    peers.ageing := some ageingPeriod
    share.timer := some s.settings.sharePeriod
    drive.timer := some rampPeriod }

/-- An invalid configuration makes the station UNCONFIGURED and reports SETTING_INVALID (R38, R162). The Gap Controller is not
active and keeps its values, with 0 standing in for G_t and W (log entry 6, DESIGN CHOICE). -/
def startUnconfigured (s : State) : State := report .settingInvalid false { s with run.state := .unconfigured }

/-- A supply that is low at the end of the start sequence is reported after the run state has changed (R161, R165). -/
def reportLowSupply (s : State) : State := if s.supplyLow then report .supplyLow true s else s

/-- The end of the start sequence (R161 to R163): the straps and the words read are judged and the results handed on in one
event. The first STATUS is assembled with the run state that the verdict gives (R156, R159), before a low supply is reported (log
entry 26). -/
def startSequenceEnd (straps : Nat) (memory : StartMemory) (s : State) : State :=
  let m := startMemory s.memory memory
  let s := { s with memory := m, stationNumber := straps, settings := decodeSettings m.read }
  let s := if configurationValid straps m.read then
      startConfigured (wearRecordValid straps m.read) (decodeWearRecord m.read) s
    else startUnconfigured s
  reportLowSupply (reportStatus s)

/-- START_SEQUENCE_END (R161): there is a sequence to end only in STARTING. -/
def execStartSequenceEnd (straps : BitVec 5) (memory : StartMemory) (s : State) : Host.Outcome State Fault Refusal :=
  .next (if s.run.state = .starting then startSequenceEnd straps.toNat memory s else s)

/-! ### Campaigns (section 12.2) -/

/-- How a campaign ends (R164). -/
inductive CampaignEnd where
  | completed
  | timedOut
  | cutShort
  deriving DecidableEq, Repr

/-- The outcome a campaign's end gives an ACTIVE LINER_CHANGE that awaits it (R128): none when it was cut short, since the
SUPPLY_LOW trip has answered it. -/
def CampaignEnd.outcome : CampaignEnd → Option AnswerOutcome
  | .completed => some .done
  | .timedOut => some (.stopped .memory)
  | .cutShort => none

/-- The Gap Controller takes the end of a campaign (R128, R164). -/
def linerChangeTakes (e : CampaignEnd) (forLiner : Bool) (s : State) : State :=
  match e.outcome with
  | some o => if forLiner then endActiveOf .linerChange o s else s
  | none => s

/-- A campaign ends (R164): WRITE_DISABLE; MEMORY_TIMEOUT if it timed out; the end is handed on; the campaign state is
IDLE; and a pending record starts the next campaign in the same event. -/
def campaignEnds (e : CampaignEnd) (c : Campaign) (s : State) : State :=
  let s := { s with memory := s.memory.setEnabled false }
  let s := if e = .timedOut then report .memoryTimeout false s else s
  let s := linerChangeTakes e c.forLiner s
  settle (startPending { s with interface.campaign := none })

/-- The word in progress is ready (R164): the campaign ends after word 71 or at a cut-off, or writes its next word. -/
def wordReady (c : Campaign) (s : State) : State :=
  if c.word = 71 then campaignEnds .completed c s
  else if c.cutOff then campaignEnds .cutShort c (cutShort c s)
  else campaignWord c (c.word + 1) s

/-- WORD_READY (R160, R164): the memory finishes its word. -/
def execWordReady (s : State) : Host.Outcome State Fault Refusal :=
  .next (let s := { s with memory := s.memory.finish }
    match s.interface.campaign with
    | some c => wordReady c s
    | none => s)

/-- READY_TIMER_EXPIRY (R164): the word in progress is given up, and the campaign ends. -/
def execReadyTimerExpiry (s : State) : Host.Outcome State Fault Refusal :=
  .next (match s.interface.campaign with
    | some c => campaignEnds .timedOut c (giveUpWord c s)
    | none => s)

/-! ### The supply (R165) -/

/-- SUPPLY_LOW_RISE (R165): SUPPLY_LOW is reported and a running campaign is cut off; in STARTING the input is only held. -/
def execSupplyLowRise (s : State) : Host.Outcome State Fault Refusal :=
  .next (let s := { s with supplyLow := true }
    if s.run.state = .starting then s
    else report .supplyLow true
      { s with interface.campaign := s.interface.campaign.map (fun c => { c with cutOff := true }) })

/-- SUPPLY_LOW_FALL (R165): a pending record starts its campaign if none runs. -/
def execSupplyLowFall (s : State) : Host.Outcome State Fault Refusal :=
  .next (startPending { s with supplyLow := false })

end Sys2Proof.Machine
end

