-- ==== Sys2Proof/Machine/Share.lean ====
section
/-!
DEFINITION. The Share Unit and its Power Trim (chapters 4 and 5): SHARE_PERIOD_EXPIRY, one definition per stage.
-/

namespace Sys2Proof.Machine

/-! ### Stage 0: Power Trim (chapter 5) -/

/-- The station's own power (R75): the latest sample's, or 0 before the first. -/
def ownPower (s : State) : Nat :=
  match s.monitor.sample with
  | some l => l.power
  | none => 0

/-- The power sum (R74): own power and every power member's, LIVE or SILENT, held at 65535. -/
def powerSum (own : Nat) (entries : List PeerEntry) : Nat :=
  min 65535 (own + ((entries.filter (·.powerMember)).map (·.power)).sum)

/-- The recovery mark (R76). -/
def recoveryMark (c : Settings) : Nat := c.powerBudget * (1000 - c.trimBand) / 1000

/-- The trim factor after Stage 0 (R76, R77). -/
def trimUpdate (c : Settings) (q sum : Nat) : Nat :=
  if c.powerBudget = 0 then 1000
  else if c.powerBudget < sum then max c.trimFloor (q * c.powerBudget / sum)
  else if sum < recoveryMark c then min 1000 (q + c.trimStep)
  else q

/-! ### Stage 1: level factor (section 4.2) -/

/-- PILE_FULL after a known level (R57). -/
def pileFullAfter (c : Settings) (was : Bool) (level : Nat) : Bool :=
  if c.hwHi ≤ level then true else if level ≤ c.hwLo then false else was

/-- PILE_EMPTY after a known level (R58). -/
def pileEmptyAfter (c : Settings) (was : Bool) (level : Nat) : Bool :=
  if level ≤ c.lwLo then true else if c.lwHi ≤ level then false else was

/-- A PRIMARY station's level factor from its updated latch (R57). -/
def primaryFactor (c : Settings) (full : Bool) (level : Nat) : Nat :=
  if full then 0
  else if level ≤ c.hwLo then 1000
  else 1000 * (c.hwHi - level) / (c.hwHi - c.hwLo)

/-- A SECONDARY station's level factor from its updated latch (R58). -/
def secondaryFactor (c : Settings) (empty : Bool) (level : Nat) : Nat :=
  if empty then 0
  else if c.lwHi ≤ level then 1000
  else 1000 * (level - c.lwLo) / (c.lwHi - c.lwLo)

/-- What Stage 1 leaves: the two latches and L. -/
structure LevelResult where
  full   : Bool
  empty  : Bool
  factor : Nat
  deriving DecidableEq, Repr

/-- Stage 1 (R57 to R59). With the level unknown both latches keep their state; a set latch still gives L = 0, otherwise
L is the blind factor. A PRIMARY station leaves PILE_EMPTY as it is, a SECONDARY one PILE_FULL. -/
def stage1 (c : Settings) (full empty : Bool) (level : Option Nat) : LevelResult :=
  match level with
  | some l =>
    if c.kind = .primary then
      let full' := pileFullAfter c full l
      { full := full', empty := empty, factor := primaryFactor c full' l }
    else
      let empty' := pileEmptyAfter c empty l
      { full := full, empty := empty', factor := secondaryFactor c empty' l }
  | none =>
    let latched := if c.kind = .primary then full else empty
    { full := full, empty := empty, factor := if latched then 0 else c.blindFactor }

/-! ### Stages 2 to 6 (sections 4.3 and 4.4) -/

/-- Stage 2: the group demand (R60). -/
def groupDemand (c : Settings) (target factor : Nat) : Nat := min target c.beltLimit * factor / 1000

/-- A belt member whose throughput is committed flow (R61). -/
def PeerEntry.committed (e : PeerEntry) : Bool :=
  e.belt && (!e.live || e.runState = .held || e.runState = .stopping)

/-- Stage 3: the committed flow, held at 65535 (R61). -/
def committedFlow (entries : List PeerEntry) : Nat :=
  min 65535 ((entries.filter (·.committed)).map (·.throughput)).sum

/-- What the crusher passes at a gap, the feeder delivers and the ceiling allows (R62). -/
def capacityAt (c : Settings) (g : Nat) : Nat :=
  min (min c.feederCapacity (c.capacityCoeff * g / 100)) c.capacityCeiling

/-- Stage 4: the own available capacity (R62). -/
def ownCapacity (s : State) : Nat :=
  match s.gapEstimate with
  | some g => if s.feedPermitted then capacityAt s.settings g else 0
  | none => 0

/-- Stage 5: the capacity sum, in full (R63). -/
def capacitySum (own : Nat) (entries : List PeerEntry) : Nat := own + ((liveMembers entries).map (·.capacity)).sum

/-- Stage 6: the own share (R64). -/
def ownShare (available own sum : Nat) : Nat := if sum = 0 then 0 else available * own / sum

/-! ### Stages 7 to 11 (sections 4.5 to 4.7) -/

/-- Stage 7: the trimmed share (R65). -/
def trimmedShare (share trim : Nat) : Nat := share * trim / 1000

/-- Stage 9: the raw rate, rounded to the nearest with ties up, at most 1000 (R67). -/
def rawRate (capped capacity : Nat) : Nat := min 1000 ((capped * 1000 + capacity / 2) / capacity)

/-- Stage 10: the rate after the minimum, and SHARE_FLUSHED (R68). -/
def minimumRate (c : Settings) (capped raw : Nat) : Nat × Bool :=
  if capped = 0 then (0, false)
  else if raw < c.rMin then
    match c.flushMode with
    | .stop => (0, true)
    | .hold => (c.rMin, false)
  else (raw, false)

/-- The cavity level the guard takes (R69): the latest sample's average, or the high mark before the first sample. -/
def guardCavity (s : State) : Nat :=
  match s.monitor.sample with
  | some l => l.cavity
  | none => s.settings.cavityHigh

/-- Stage 11: the cavity guard, and CAVITY_FULL (R69). -/
def cavityGuard (c : Settings) (cavity output rate : Nat) : Nat × Bool :=
  if c.cavityFull ≤ cavity then (0, true)
  else if c.cavityHigh ≤ cavity then (min rate output, false)
  else (rate, false)

/-! ### The computation -/

/-- The share record of one computation (R54, R70), its inputs read as they stand. -/
def shareRecordOf (s : State) : ShareRecord :=
  let c := s.settings
  let es := s.peers.entries
  let trim := trimUpdate c s.share.trim (powerSum (ownPower s) es)
  let level := selectLevel s
  let factor := (stage1 c s.share.pileFull s.share.pileEmpty level.1).factor
  let demand := groupDemand c s.run.target factor
  let committed := committedFlow es
  let available := demand - committed
  let capacity := ownCapacity s
  let sum := capacitySum capacity es
  let share := ownShare available capacity sum
  let capped := min (trimmedShare share trim) capacity
  let raw := minimumRate c capped (rawRate capped c.feederCapacity)
  let guarded := cavityGuard c (guardCavity s) s.drive.output raw.1
  { target := s.run.target
    beltLimit := c.beltLimit
    level := level.1
    source := level.2
    factor := factor
    demand := demand
    committed := committed
    available := available
    capacity := capacity
    capacitySum := sum
    share := share
    trim := trim
    capped := capped
    rate := guarded.1
    flushed := raw.2
    cavityFull := guarded.2
    levelUnknown := level.1.isNone
    liveMembers := (liveMembers es).length
    silentMembers := (silentMembers es).length }

/-- One share computation (R53 to R56, R70): the record replaces the previous one, its c_s becomes the available
capacity, and its r is written to the Feeder Drive when the run state read was RUNNING. -/
def shareComputation (s : State) : State :=
  let r := shareRecordOf s
  let level := selectLevel s
  let latches := stage1 s.settings s.share.pileFull s.share.pileEmpty level.1
  { s with
    share := { timer := some s.settings.sharePeriod, pileFull := latches.full, pileEmpty := latches.empty,
               record := some r, capacity := r.capacity, trim := r.trim }
    peers.selected := level.1
    peers.source := level.2
    drive.setpoint := if s.run.state = .running then r.rate else s.drive.setpoint }

/-- SHARE_PERIOD_EXPIRY (R54): no computation is made while the Share Unit is not active (R53). -/
def execSharePeriodExpiry (s : State) : Host.Outcome State Fault Refusal :=
  .next (if s.active then shareComputation s else s)

end Sys2Proof.Machine
end

