-- ==== Sys2Proof/Machine/Dispatch.lean ====
section
/-!
DEFINITION. exec: one arm per command of the opcode table, each a call of its meaning.
-/

namespace Sys2Proof.Machine

def exec (i : Instr) (s : State) : Host.Outcome State Fault Refusal :=
  match i with
  | .reset => Sys2Proof.Machine.execReset s
  | .startSequenceEnd straps memory => Sys2Proof.Machine.execStartSequenceEnd straps memory s
  | .readingEvent r => Sys2Proof.Machine.execReadingEvent r s
  | .beltScalePulse => Sys2Proof.Machine.execBeltScalePulse s
  | .windowClose => Sys2Proof.Machine.execWindowClose s
  | .ageingEvent => Sys2Proof.Machine.execAgeingEvent s
  | .statusArrival header own p => Sys2Proof.Machine.execStatusArrival header own p s
  | .demand header p => Sys2Proof.Machine.execDemand header p s
  | .run header p => Sys2Proof.Machine.execRun header p s
  | .stop header p => Sys2Proof.Machine.execStop header p s
  | .setGap header tag noRetry argument => Sys2Proof.Machine.execSetGap header tag noRetry argument s
  | .calibrate header tag noRetry => Sys2Proof.Machine.execCalibrate header tag noRetry s
  | .linerChange header tag noRetry => Sys2Proof.Machine.execLinerChange header tag noRetry s
  | .cancel header tag argument => Sys2Proof.Machine.execCancel header tag argument s
  | .holdFeed header tag => Sys2Proof.Machine.execHoldFeed header tag s
  | .releaseFeed header tag => Sys2Proof.Machine.execReleaseFeed header tag s
  | .clearFault header tag => Sys2Proof.Machine.execClearFault header tag s
  | .queryFault header tag => Sys2Proof.Machine.execQueryFault header tag s
  | .queryWear header tag => Sys2Proof.Machine.execQueryWear header tag s
  | .queryShare header tag => Sys2Proof.Machine.execQueryShare header tag s
  | .queryQueue header tag => Sys2Proof.Machine.execQueryQueue header tag s
  | .badKind header tag code argument => Sys2Proof.Machine.execBadKind header tag code argument s
  | .answerFrameReceived => Sys2Proof.Machine.execAnswerFrameReceived s
  | .frameDiscarded => Sys2Proof.Machine.execFrameDiscarded s
  | .sharePeriodExpiry => Sys2Proof.Machine.execSharePeriodExpiry s
  | .rampInterval => Sys2Proof.Machine.execRampInterval s
  | .motorRunningFall => Sys2Proof.Machine.execMotorRunningFall s
  | .motorRunningRise => Sys2Proof.Machine.execMotorRunningRise s
  | .primingTimerExpiry => Sys2Proof.Machine.execPrimingTimerExpiry s
  | .clearTimerExpiry => Sys2Proof.Machine.execClearTimerExpiry s
  | .stallTimerExpiry => Sys2Proof.Machine.execStallTimerExpiry s
  | .seekLimitExpiry => Sys2Proof.Machine.execSeekLimitExpiry s
  | .seekPulseOnEnd => Sys2Proof.Machine.execSeekPulseOnEnd s
  | .seekPulseOffEnd => Sys2Proof.Machine.execSeekPulseOffEnd s
  | .settleTimerExpiry => Sys2Proof.Machine.execSettleTimerExpiry s
  | .readyTimerExpiry => Sys2Proof.Machine.execReadyTimerExpiry s
  | .wordReady => Sys2Proof.Machine.execWordReady s
  | .supplyLowRise => Sys2Proof.Machine.execSupplyLowRise s
  | .supplyLowFall => Sys2Proof.Machine.execSupplyLowFall s
  | .reportTimerExpiry => Sys2Proof.Machine.execReportTimerExpiry s
  | .transmitAttempt => Sys2Proof.Machine.execTransmitAttempt s
  | .frameSent => Sys2Proof.Machine.execFrameSent s
  | .collision draw => Sys2Proof.Machine.execCollision draw s
  | .lineIdle => Sys2Proof.Machine.execLineIdle s

end Sys2Proof.Machine
end

