-- ==== Sys2Proof/Machine/Time.lean ====
section
/-!
DEFINITION. The passing of time (log entry 2, DESIGN CHOICE): an idle step is one millisecond. It advances the time count
and takes one millisecond from every timer that runs. What a timer does at its expiry is a command of its own.
-/

namespace Sys2Proof.Machine

/-- One millisecond less on a timer that runs. -/
def Timer.tick (t : Timer) : Timer := t.map (· - 1)

/-- The timers of the activity in progress: stall, seek limit and pulse timers hold while the position reading is invalid
(R93), a stall timer also while its drive is paused (R101); the settle timer runs on (R137). -/
def Activity.tick (positionValid : Bool) : Activity → Activity
  | .moving m => if positionValid ∧ m.paused = false then .moving { m with stall := m.stall - 1 } else .moving m
  | .calibrating c =>
    if positionValid then
      .calibrating { c with
        seekLimit := Timer.tick c.seekLimit
        phase := match c.phase with
          | .opening p => .opening p
          | .seeking p => .seeking { p with left := p.left - 1 }
          | .backing mark stall => .backing mark (stall - 1) }
    else .calibrating c
  | .relieved t => .relieved (Timer.tick t)
  | .recovering r =>
    if positionValid ∧ r.paused = false then .recovering { r with stall := r.stall - 1 } else .recovering r
  | .holding => .holding
  | .stuck => .stuck

/-- One millisecond passes. -/
def tick (s : State) : State :=
  { s with
    millis := if s.millis + 1 < 1000 then s.millis + 1 else 0
    seconds := if s.millis + 1 < 1000 then s.seconds else s.seconds + 1
    monitor.window := Timer.tick s.monitor.window
    peers.ageing := Timer.tick s.peers.ageing
    run.primingTimer := Timer.tick s.run.primingTimer
    run.clearTimer := Timer.tick s.run.clearTimer
    share.timer := Timer.tick s.share.timer
    drive.timer := Timer.tick s.drive.timer
    gap.activity := s.gap.activity.tick s.monitor.positionValid
    line.reportTimer := Timer.tick s.line.reportTimer
    interface.campaign := s.interface.campaign.map (fun c => { c with ready := c.ready - 1 }) }

end Sys2Proof.Machine
end

