-- ==== Sys2Proof/Machine/Frames.lean ====
section
/-!
DEFINITION. Which row of the table a run of received bytes stands for: the receiver's checks of R152 and the layouts of
section 12.6. The rows carry a frame already taken apart; this is how it comes apart.
-/

namespace Sys2Proof.Machine

/-- Kind code of a frame: bits 7..5 of its first byte. -/
def frameKind (b : Byte) : Nat := b.toNat / 32

/-- Payload length of a frame: bits 4..0 of its first byte. -/
def frameLength (b : Byte) : Nat := b.toNat % 32

/-- The lengths a kind allows (section 12.6). An ANSWER has 2 bytes, 6 with STOPPED, or 2 and the data of a QUERY: 15 of
FAULT, 17 of WEAR, none or 22 of SHARE, 1 and 5 an entry of QUEUE. -/
def lengthAllowed (kind length : Nat) : Bool :=
  match kind with
  | 1 => length = 21
  | 2 => length = 11
  | 3 => length = 4
  | 4 => [2, 6, 17, 19, 24, 3, 8, 13, 18, 23].contains length
  | _ => false

/-- The bytes make a complete frame (R152): as many as the header gives, a length the kind allows and not above 24, and the
carried CRC the one over header and payload. -/
def frameComplete (bytes : List Byte) : Bool :=
  match bytes with
  | b :: _ =>
    decide (bytes.length = frameLength b + 5) && decide (frameLength b ≤ 24) &&
    lengthAllowed (frameKind b) (frameLength b) &&
    decide (bytes.drop (frameLength b + 3) =
      [hiByte (crc16 (bytes.take (frameLength b + 3))), loByte (crc16 (bytes.take (frameLength b + 3)))])
  | [] => false

/-- The row of a REQUEST's four payload bytes: tag and NO_RETRY, kind, argument (section 12.6, R143, R149). -/
def requestCommand (header : Address) (flags code : Byte) (argument : Word) : Instr :=
  let tag := flags.extractLsb' 0 3
  let noRetry := flags.getLsbD 7
  match requestKindOf code with
  | some .setGap => .setGap header tag noRetry argument
  | some .calibrate => .calibrate header tag noRetry
  | some .linerChange => .linerChange header tag noRetry
  | some .cancel => .cancel header tag argument
  | some .holdFeed => .holdFeed header tag
  | some .releaseFeed => .releaseFeed header tag
  | some .clearFault => .clearFault header tag
  | some .query =>
    match argument.toNat with
    | 1 => .queryFault header tag
    | 2 => .queryWear header tag
    | 3 => .queryShare header tag
    | 4 => .queryQueue header tag
    | _ => .badKind header tag code argument
  | none => .badKind header tag code argument

/-- The row of a DEMAND: RUN and STOP stand under their own rows (log entry 17). -/
def demandCommand (header : Address) (p : DemandPayload) : Instr :=
  match p.command? with
  | some .run => .run header p
  | some .stop => .stop header p
  | none => .demand header p

/-- The row of a payload under its kind. -/
def payloadCommand (own : Bool) (header : Address) (kind : Nat) (payload : List Byte) : Instr :=
  match kind with
  | 1 => (statusOfBytes payload).elim .frameDiscarded (.statusArrival header own)
  | 2 => (demandOfBytes payload).elim .frameDiscarded (demandCommand header)
  | 3 =>
    match payload with
    | [flags, code, hi, lo] => requestCommand header flags code (joinBytes hi lo)
    | _ => .frameDiscarded
  | 4 => .answerFrameReceived
  | _ => .frameDiscarded

/-- The row a run of received bytes stands for; `own`: this station drove them all (R152). -/
def commandOfFrame (own : Bool) (bytes : List Byte) : Instr :=
  match bytes with
  | b :: source :: destination :: rest =>
    if frameComplete bytes then
      payloadCommand own { source := source, destination := destination } (frameKind b) (rest.take (frameLength b))
    else .frameDiscarded
  | _ => .frameDiscarded

end Sys2Proof.Machine
end

