-- ==== Sys2Proof/Safety.lean ====
section
/-!
DEFINITION. What a safe station is: the properties of a state that the spec promises at every moment, one per kind of
state. Each is stated of any state whatever, so that it can be an invariant of `step`.
-/

namespace Sys2Proof.Machine

/-- A feeder rate of the legal set (R82): 0, or from the minimum rate up to 1000 per-mille. -/
abbrev LegalRate (rMin rate : Nat) : Prop := rate = 0 ∨ (rMin ≤ rate ∧ rate ≤ 1000)

/-- The feeder is safe (R82, R85, R87): output and setpoint lie in the legal set, both are 0 while the drive is not active,
and the output is 0 in every run state and gap state that forbids feeding. An active station has a valid configuration. -/
abbrev FeederSafe (s : State) : Prop :=
  (s.active = true → settingsInRange s.settings = true) ∧
  (s.active = false → s.drive.output = 0 ∧ s.drive.setpoint = 0) ∧
  LegalRate s.settings.rMin s.drive.output ∧ LegalRate s.settings.rMin s.drive.setpoint ∧
  (s.driveMode = .zeroed → s.drive.output = 0)

/-- No capacity is offered while feeding is not permitted (R56). -/
abbrev CapacitySafe (s : State) : Prop := s.feedPermitted = false → s.share.capacity = 0

/-- The trim factor is within its bounds (R73): 1000 before the unit is active and without a power budget, otherwise from
the trim floor to 1000. -/
abbrev TrimSafe (s : State) : Prop :=
  (s.active = true → settingsInRange s.settings = true) ∧
  (s.active = false → s.share.trim = 1000) ∧
  (s.active = true → s.settings.trimFloor ≤ s.share.trim ∧ s.share.trim ≤ 1000) ∧
  (s.active = true → s.settings.powerBudget = 0 → s.share.trim = 1000)

/-- The working setpoint is safe (R94 to R97): G_t within the gap limits, the span at most 200, and W within the working
window. -/
abbrev SetpointSafe (s : State) : Prop :=
  s.gap.span ≤ 200 ∧
  (s.active = true → settingsInRange s.settings = true) ∧
  (s.active = true → s.settings.gapMin ≤ s.gap.target ∧ s.gap.target ≤ s.settings.gapMax) ∧
  (s.active = true →
    windowLower s.settings s.gap.reference s.gap.target s.gap.span ≤ s.gap.setpoint ∧
    s.gap.setpoint ≤ windowUpper s.settings s.gap.reference s.gap.target s.gap.span)

/-- Run Control is consistent: a motor that is required is running (R48); a TRIPPED station holds no request, no move and no
calibration (R49, R150); the priming timer runs exactly in PRIMING (R43) and the clear timer only in STOPPING (R46); and a
station with a reference does not wait in PRIMING at HOLDING (R42). -/
abbrev RunSafe (s : State) : Prop :=
  (s.run.state.motorRequired = true → s.motorRunning = true) ∧
  (s.run.state = .tripped → s.queue = [] ∧ s.gapState ≠ .moving ∧ s.gapState ≠ .calibrating) ∧
  (s.run.state = .priming ↔ s.run.primingTimer.isSome = true) ∧
  (s.run.clearTimer.isSome = true → s.run.state = .stopping) ∧
  ¬ (s.run.state = .priming ∧ s.gap.reference.present = true ∧ s.gapState = .holding)

/-- Requester and tag of an entry: the key by which it is cancelled (R146). -/
def Entry.key (e : Entry) : Byte × BitVec 3 := (e.requester, e.tag)

/-- The Request Queue is consistent (R142, R144): at most 4 entries, none but the head ACTIVE, no two of one requester and
tag, none before the queue is active, and no head left waiting that could start. -/
abbrev QueueSafe (s : State) : Prop :=
  s.queue.length ≤ 4 ∧ (∀ e ∈ s.queue.drop 1, e.active = false) ∧ (s.queue.map Entry.key).Nodup ∧
  (s.active = false → s.queue = []) ∧ s.headStartable = false

/-- The Line Port is consistent (R153, R155, R157): at most 6 answers wait, nothing waits while no frame is in flight, the
backoff is one of 16 and a frame in flight has had fewer than 8 collisions. -/
abbrev LineSafe (s : State) : Prop :=
  s.line.answers.length ≤ 6 ∧ (s.line.inFlight = none → s.line.answers = [] ∧ s.line.slot = none) ∧
  s.line.backoff ≤ 15 ∧ (s.line.inFlight ≠ none → s.line.collisions ≤ 7)

/-- The setting memory is consistent (R160, R164): its list keeps its form; a campaign writes one of words 64 to 71; after the
start sequence the memory is write-enabled exactly while a campaign runs; none runs and none is pending before. -/
abbrev MemorySafe (s : State) : Prop :=
  s.memory.wf = true ∧
  (∀ c ∈ s.interface.campaign, 64 ≤ c.word ∧ c.word ≤ 71) ∧
  (s.run.state ≠ .starting → s.memory.enabled = s.interface.campaign.isSome) ∧
  (s.run.state = .starting → s.interface.campaign = none ∧ s.interface.pending = none)

/-- The Peer Table is consistent (R17): entries in rising order of number, each of a valid number that is not the
station's own, and none before the table is active. -/
abbrev PeersSafe (s : State) : Prop :=
  s.peers.entries.Pairwise (fun a b => a.number < b.number) ∧
  (∀ e ∈ s.peers.entries, 1 ≤ e.number ∧ e.number ≤ 30 ∧ e.number ≠ s.stationNumber) ∧
  (s.active = false → s.peers.entries = [])

/-- The Fault Record is consistent (R166): each kind at most once in the seen set, and nothing seen and no further fault
while the first-fault record is empty. -/
abbrev FaultsSafe (s : State) : Prop :=
  s.faults.seen.Nodup ∧ (s.faults.first = none → s.faults.seen = [] ∧ s.faults.further = false)

/-- The load history and the jump window are consistent (R107, R108, R133): at most 16 classes, none out of RUNNING; no gap
in the jump window while OPEN is asked for or G is absent. -/
abbrev HistorySafe (s : State) : Prop :=
  s.gap.history.length ≤ 16 ∧ (s.run.state ≠ .running → s.gap.history = []) ∧
  (s.active = false → s.gap.jumpWindow = []) ∧
  (s.gapEstimate = none → s.gap.jumpWindow = []) ∧ (s.gap.activity.asks = .opening → s.gap.jumpWindow = [])

end Sys2Proof.Machine
end

