-- ==== Sys2Proof/WellFormed.lean ====
section
/-!
DEFINITION. Which operands fit a row: a frame stands under the row its command or kind names, and a fitted memory lists
each word once.
-/

namespace Sys2Proof

open Machine

/-- The addresses of a fitted memory's image rise strictly: each word is listed once. -/
def imageRising : List (BitVec 8 × Word) → Bool
  | (a, _) :: (b, w) :: rest => decide (a.toNat < b.toNat) && imageRising ((b, w) :: rest)
  | _ => true

/-- A REQUEST of kind `code` and argument `argument` is none of the eight kinds, or a QUERY of no defined item (R143). -/
def requestUndefined (code : Byte) (argument : Word) : Bool :=
  match requestKindOf code with
  | none => true
  | some .query => !within 1 argument.toNat 4
  | some _ => false

/-- A well-formed command. A DEMAND frame with RUN stands under RUN, one with STOP under STOP, any other under DEMAND; a
REQUEST under BAD_KIND is one no other row takes. -/
def Instr.wellFormed : Instr → Bool
  | .startSequenceEnd _ (.fitted image) => imageRising image
  | .demand _ p => decide (p.command? = none)
  | .run _ p => decide (p.command? = some .run)
  | .stop _ p => decide (p.command? = some .stop)
  | .badKind _ _ code argument => requestUndefined code argument
  | _ => true

end Sys2Proof
end

