-- ==== Sys2Proof/Certificates/Slice0/Obligations.lean ====
section
/-!
DEFINITION. The statements about this model that the provers are asked to settle, block by block in the manual's order. A
statement that rests on a choice of the model's says so and names the log entry.
-/

open Sys2Proof Sys2Proof.Machine

/-! ### The machine -/

/-- Every step takes the command at the front of the queue and runs it on the state with the queue's rest. -/
def Obligations.StepRunsTheFrontCommand : Prop :=
  ∀ (c : Instr) (rest : List Instr) (s : State), s.pending = c :: rest → step s = exec c { s with pending := rest }

/-- The model's choice (log entry 2): with no command waiting one millisecond passes. The time count advances and every timer
that runs loses a millisecond: a stall timer, that of a move, of BACKING or of a re-closing, only while its drive is neither
paused nor held by an invalid position; the seek limit and the seek pulse only while the position is valid; the settle timer
always. -/
def Obligations.IdleStepPassesOneMillisecond : Prop :=
  ∀ s : State, s.pending = [] → s.millis < 1000 →
    ∃ t, step s = .next t ∧ t.millis < 1000 ∧ t.seconds * 1000 + t.millis = s.seconds * 1000 + s.millis + 1 ∧
      t.monitor = { s.monitor with window := s.monitor.window.map (· - 1) } ∧
      t.peers = { s.peers with ageing := s.peers.ageing.map (· - 1) } ∧
      t.run = { s.run with primingTimer := s.run.primingTimer.map (· - 1)
                           clearTimer := s.run.clearTimer.map (· - 1) } ∧
      t.share = { s.share with timer := s.share.timer.map (· - 1) } ∧
      t.drive = { s.drive with timer := s.drive.timer.map (· - 1) } ∧
      t.line = { s.line with reportTimer := s.line.reportTimer.map (· - 1) } ∧
      (∀ m, s.gap.activity = .moving m → s.monitor.positionValid = true → m.paused = false →
        t.gap.activity = .moving { m with stall := m.stall - 1 }) ∧
      (∀ m, s.gap.activity = .moving m → s.monitor.positionValid = false ∨ m.paused = true →
        t.gap.activity = .moving m) ∧
      (∀ c, s.gap.activity = .calibrating c → s.monitor.positionValid = true →
        t.gap.activity = .calibrating { c with
          seekLimit := c.seekLimit.map (· - 1)
          phase := match c.phase with
            | .opening start => .opening start
            | .seeking p => .seeking { p with left := p.left - 1 }
            | .backing mark stall => .backing mark (stall - 1) }) ∧
      (∀ c, s.gap.activity = .calibrating c → s.monitor.positionValid = false → t.gap.activity = .calibrating c) ∧
      (∀ settle, s.gap.activity = .relieved settle → t.gap.activity = .relieved (settle.map (· - 1))) ∧
      (∀ r, s.gap.activity = .recovering r → s.monitor.positionValid = true → r.paused = false →
        t.gap.activity = .recovering { r with stall := r.stall - 1 }) ∧
      (∀ r, s.gap.activity = .recovering r → s.monitor.positionValid = false ∨ r.paused = true →
        t.gap.activity = .recovering r) ∧
      t.gapState = s.gapState ∧ t.gap = { s.gap with activity := t.gap.activity } ∧
      t.queue = s.queue ∧ t.faults = s.faults ∧ t.memory = s.memory ∧ t.settings = s.settings ∧
      t.interface.pending = s.interface.pending ∧
      t.interface.campaign = s.interface.campaign.map (fun c => { c with ready := c.ready - 1 })

/-- What a command may change: no command touches the waiting commands, and every block changes only at the commands that are about
it. The configuration at the start sequence; the time count at none of them but RESET; the inputs at their edges; sample, validity
states, peers, accepted demand with the span, share record with latches and trim factor (R73), and tramp list, each at its own
events. The feeder output moves at a ramp interval and otherwise only to 0, its setpoint at a computation and otherwise only to 0;
the queue gains entries only by a queued request; the receiver, the report timer and the clearing of the congestion flag have their
own events; and the events listed last leave the queue, the Fault Record, the setting memory and its interface as they are. While
no LINER_CHANGE waits, reference, wear and totals change only at a start, a contact, a tonnage and that request's own row; G_t,
while no SET_GAP waits, only at a start, a DEMAND and a SET_GAP; and the run state stays at every event that is not about it, but
for PRIMING, which the end of an event may let run, and for STOPPING at a window close. RESET changes every block and is stated
apart; that it, too, keeps the waiting commands and the levels of the inputs is the model's choice (log entries 5 and 18). -/
def Obligations.CommandsChangeOnlyWhatTheyOwn : Prop :=
  ∀ (c : Instr) (s t : State), exec c s = .next t →
    t.pending = s.pending ∧
    (match c with
     | .motorRunningFall => t.motorRunning = false
     | .motorRunningRise => t.motorRunning = true
     | _ => t.motorRunning = s.motorRunning) ∧
    (match c with
     | .supplyLowRise => t.supplyLow = true
     | .supplyLowFall => t.supplyLow = false
     | _ => t.supplyLow = s.supplyLow) ∧
    (c ≠ .reset →
      t.seconds = s.seconds ∧ t.millis = s.millis ∧
      (match c with
       | .startSequenceEnd _ _ => True
       | _ => t.settings = s.settings ∧ t.stationNumber = s.stationNumber) ∧
      (c ≠ .windowClose → t.monitor.sample = s.monitor.sample) ∧
      (match c with
       | .readingEvent _ => True
       | .windowClose => True
       | _ => t.monitor.validity = s.monitor.validity ∧ t.monitor.position = s.monitor.position ∧
         t.monitor.positionValid = s.monitor.positionValid ∧ t.gap.readingClock = s.gap.readingClock ∧
         t.gap.armed = s.gap.armed ∧ t.gap.lastDetection = s.gap.lastDetection) ∧
      (match c with
       | .ageingEvent => True
       | .statusArrival _ _ _ => True
       | _ => t.peers.entries = s.peers.entries ∧ t.peers.lastDuplicate = s.peers.lastDuplicate) ∧
      (match c with
       | .demand _ _ => True
       | .run _ _ => True
       | .stop _ _ => True
       | _ => t.run.lastSequence = s.run.lastSequence ∧ t.run.target = s.run.target ∧
         t.run.lastCommand = s.run.lastCommand ∧ t.gap.span = s.gap.span) ∧
      (c ≠ .sharePeriodExpiry →
        t.share.record = s.share.record ∧ t.share.trim = s.share.trim ∧ t.share.pileFull = s.share.pileFull ∧
        t.share.pileEmpty = s.share.pileEmpty ∧ t.peers.selected = s.peers.selected ∧
        t.peers.source = s.peers.source) ∧
      (match c with
       | .readingEvent _ => True
       | .clearFault _ _ => True
       | _ => t.gap.trampList = s.gap.trampList) ∧
      (c ≠ .rampInterval → t.drive.output = s.drive.output ∨ t.drive.output = 0) ∧
      (c ≠ .sharePeriodExpiry → t.drive.setpoint = s.drive.setpoint ∨ t.drive.setpoint = 0) ∧
      (match c with
       | .rampInterval => True
       | .startSequenceEnd _ _ => True
       | _ => t.drive.timer = s.drive.timer) ∧
      (match c with
       | .setGap _ _ _ _ => True
       | .calibrate _ _ _ => True
       | .linerChange _ _ _ => True
       | _ => (t.queue.map Entry.key).Sublist (s.queue.map Entry.key)) ∧
      (match c with
       | .lineIdle => t.line.receiver = .ready
       | .transmitAttempt => t.line.receiver = s.line.receiver ∨ t.line.receiver = .reading
       | .startSequenceEnd _ _ => t.line.receiver = s.line.receiver
       | _ => t.line.receiver = s.line.receiver ∨ t.line.receiver = .waitingIdle) ∧
      (match c with
       | .reportTimerExpiry => True
       | .startSequenceEnd _ _ => True
       | _ => t.line.reportTimer = s.line.reportTimer) ∧
      (c ≠ .frameSent → s.line.congested = true → t.line.congested = true) ∧
      (match c with
       | .lineIdle | .frameDiscarded | .answerFrameReceived | .transmitAttempt | .frameSent | .collision _
       | .reportTimerExpiry | .ageingEvent | .sharePeriodExpiry | .rampInterval | .motorRunningRise | .seekPulseOnEnd
       | .holdFeed _ _ | .releaseFeed _ _ | .queryFault _ _ | .queryWear _ _ | .queryShare _ _ | .queryQueue _ _
       | .badKind _ _ _ _ =>
         t.queue = s.queue ∧ t.faults = s.faults ∧ t.interface = s.interface ∧ t.memory = s.memory
       | _ => True) ∧
      ((∀ e ∈ s.queue, e.kind = .linerChange → e.active = true) →
        (match c with
         | .startSequenceEnd _ _ | .linerChange _ _ _ | .readingEvent _ | .seekPulseOffEnd => True
         | _ => t.gap.reference = s.gap.reference ∧ t.gap.linerWear = s.gap.linerWear ∧ t.gap.calCount = s.gap.calCount ∧
           t.gap.lastShift = s.gap.lastShift) ∧
        (match c with
         | .startSequenceEnd _ _ | .linerChange _ _ _ | .readingEvent _ | .seekPulseOffEnd | .beltScalePulse => True
         | _ => t.gap.wearAcc = s.gap.wearAcc) ∧
        (match c with
         | .startSequenceEnd _ _ | .linerChange _ _ _ | .readingEvent _ | .beltScalePulse => True
         | _ => t.gap.linerTonnes = s.gap.linerTonnes) ∧
        (match c with
         | .startSequenceEnd _ _ | .linerChange _ _ _ => True
         | _ => t.gap.wearUnknown = s.gap.wearUnknown) ∧
        (match c with
         | .windowClose => s.run.state ≠ .priming → s.run.state ≠ .stopping → t.run.state = s.run.state
         | .beltScalePulse | .stallTimerExpiry | .seekPulseOffEnd | .settleTimerExpiry | .wordReady
         | .readyTimerExpiry | .setGap _ _ _ _ | .calibrate _ _ _ | .linerChange _ _ _ | .cancel _ _ _ =>
           s.run.state ≠ .priming → t.run.state = s.run.state
         | _ => True)) ∧
      ((∀ e ∈ s.queue, e.kind = .setGap → e.active = true) →
        (match c with
         | .startSequenceEnd _ _ | .demand _ _ | .run _ _ | .stop _ _ | .setGap _ _ _ _ => True
         | _ => t.gap.target = s.gap.target)) ∧
      (match c with
       | .lineIdle | .frameDiscarded | .answerFrameReceived | .transmitAttempt | .frameSent | .collision _
       | .reportTimerExpiry | .ageingEvent | .sharePeriodExpiry | .rampInterval | .motorRunningRise | .seekPulseOnEnd
       | .supplyLowFall | .queryFault _ _ | .queryWear _ _ | .queryShare _ _ | .queryQueue _ _ | .badKind _ _ _ _ =>
         t.run.state = s.run.state
       | _ => True))

/-- States that only certain commands leave: UNCONFIGURED is left only by reset (R38); TRIPPED only by CLEAR_FAULT or reset (R49,
R50); a filled first-fault record stays as it is, and every kind seen stays seen, until CLEAR_FAULT or reset (R166). At every
step the Fault Record stays consistent: no kind is seen twice, and none at all while the first-fault record is empty. -/
def Obligations.StandingStatesAreLeftOnlyAsTold : Prop :=
  (∀ (c : Instr) (s t : State), exec c s = .next t → c ≠ .reset →
    (s.run.state = .unconfigured → t.run.state = .unconfigured) ∧
    ((∀ header tag, c ≠ .clearFault header tag) →
      (s.run.state = .tripped → t.run.state = .tripped) ∧
      (∀ f, s.faults.first = some f → t.faults.first = some f) ∧
      (∀ k ∈ s.faults.seen, k ∈ t.faults.seen))) ∧
  ∀ s t : State, FaultsSafe s → step s = .next t → FaultsSafe t

/-- An event of a block that is not active, or of a timer that does not run, changes nothing (R1, R19, R53, R85, R93): the report
timer in STARTING (R156), a stall timer with no move, BACKING or re-closing, or held by a pause (R101, R102), the seek limit when
it is stopped, as in BACKING (R124), a seek pulse's end outside SEEKING or in its other part (R122), and the timers of Run Control,
of relief and of the setting memory. That the expiry of a stopped or held timer is an event without effect is the model's reading
(log entry 1). -/
def Obligations.EventsOfIdleBlocksDoNothing : Prop :=
  ∀ (r : Readings) (s : State),
    (s.active = false →
      exec (.readingEvent r) s = .next s ∧ exec .beltScalePulse s = .next s ∧ exec .windowClose s = .next s ∧
      exec .ageingEvent s = .next s ∧ exec .sharePeriodExpiry s = .next s ∧ exec .rampInterval s = .next s) ∧
    (s.run.state ≠ .priming ∨ s.run.primingTimer = none → exec .primingTimerExpiry s = .next s) ∧
    (s.run.state ≠ .stopping ∨ s.run.clearTimer = none → exec .clearTimerExpiry s = .next s) ∧
    (s.active = false ∨ s.monitor.positionValid = false → exec .stallTimerExpiry s = .next s ∧
      exec .seekLimitExpiry s = .next s ∧ exec .seekPulseOnEnd s = .next s ∧ exec .seekPulseOffEnd s = .next s) ∧
    (s.run.state = .starting → exec .reportTimerExpiry s = .next s) ∧
    ((∀ m, s.gap.activity = .moving m → m.paused = true) → (∀ d, s.gap.activity = .recovering d → d.paused = true) →
      (∀ c mark left, s.gap.activity = .calibrating c → c.phase ≠ .backing mark left) →
      exec .stallTimerExpiry s = .next s) ∧
    ((∀ c, s.gap.activity = .calibrating c → c.seekLimit = none) → exec .seekLimitExpiry s = .next s) ∧
    ((∀ c p, s.gap.activity = .calibrating c → c.phase = .seeking p → p.on = false) →
      exec .seekPulseOnEnd s = .next s) ∧
    ((∀ c p, s.gap.activity = .calibrating c → c.phase = .seeking p → p.on = true) →
      exec .seekPulseOffEnd s = .next s) ∧
    ((∀ left, s.gap.activity ≠ .relieved (some left)) → exec .settleTimerExpiry s = .next s) ∧
    (s.interface.campaign = none → exec .readyTimerExpiry s = .next s)

/-- What the spec fixes from other state: the gap estimate G (R92), the drive mode from the run state and the gap state (R84), and
the two feeder terminals from the output (R89). -/
def Obligations.EstimateModeAndTerminals : Prop :=
  ∀ s : State,
    (s.gap.reference = .unreferenced ∨ s.monitor.position = none → s.gapEstimate = none) ∧
    (∀ c p, s.gap.reference = .provisional c ∨ s.gap.reference = .referenced c → s.monitor.position = some p →
      ∃ g : Nat, s.gapEstimate = some g ∧
        (g : Int) = max 0 (((c : Int) - (p : Int)) + ((s.gap.wearAcc / 100 : Nat) : Int))) ∧
    (let feeds := s.gapState = .holding ∨ s.gapState = .moving ∨ s.gapState = .stuck
     (s.driveMode = .feeding ↔ s.run.state = .running ∧ feeds) ∧
     (s.driveMode = .frozen ↔ s.run.state = .held ∧ feeds) ∧
     (s.driveMode = .rundown ↔ s.run.state = .stopping ∧ feeds)) ∧
    s.rateTerminal = 4000 + 16 * s.drive.output ∧ (s.runPermit = true ↔ 0 < s.drive.output)

/-! ### Reset and start -/

/-- RESET puts every block at its values after reset, whatever was in progress (R16, R33, R51, R72, R81, R91, R114, R130,
R141, R159, R165, R166, R167). The model's choices: the inputs stand as they are (log entry 5), the commands waiting stay (18), the
setting memory finishes a word it has begun (16), the marks of the window that R16 does not list are true and the NOFEED latch clear
(34), and what the supply cut off before its check word is found invalid at the next start (42). -/
def Obligations.ResetRestoresEveryBlock : Prop :=
  ∀ s : State, ∃ t, exec .reset s = .next t ∧
    t.run = { state := .starting, lastSequence := none, target := 0, lastCommand := none, primingTimer := none,
              clearTimer := none } ∧
    t.seconds = 0 ∧ t.active = false ∧ t.standingRequest = false ∧ t.feedPermitted = false ∧
    t.drive = { setpoint := 0, output := 0, timer := none } ∧ t.driveMode = .zeroed ∧ t.rateTerminal = 4000 ∧
    t.runPermit = false ∧
    t.share = { timer := none, pileFull := false, pileEmpty := false, record := none, capacity := 0, trim := 1000 } ∧
    t.peers = { entries := [], ageing := none, lastDuplicate := none, selected := none, source := .none } ∧
    t.monitor.window = none ∧ t.monitor.sample = none ∧ t.presentPressure = none ∧ t.monitor.position = none ∧
    t.monitor.power = ⟨0, 0⟩ ∧ t.monitor.pressure = ⟨0, 0⟩ ∧ t.monitor.cavity = ⟨0, 0⟩ ∧
     t.monitor.pile = ⟨0, 0⟩ ∧
    t.monitor.output = ⟨0, 0⟩ ∧ t.monitor.pulseCount = 0 ∧ t.monitor.peak = none ∧
    t.monitor.inRange = ⟨true, true, true, true, true⟩ ∧ t.monitor.nofeed = false ∧
    t.monitor.validity = ⟨.valid, .valid, .valid, .valid, .valid⟩ ∧ t.monitor.calibrationKg = 0 ∧
    t.monitor.linerKg = 0 ∧ t.monitor.remainder = 0 ∧
    t.gapState = .holding ∧ t.valve = .off ∧ t.gapEstimate = none ∧ t.gap.span = 0 ∧ t.gap.approach = false ∧
    t.gap.history = [] ∧ t.gap.reference = .unreferenced ∧ t.gap.wearAcc = 0 ∧ t.gap.linerTonnes = 0 ∧
    t.gap.linerWear = 0 ∧ t.gap.calCount = 0 ∧ t.linerWorn = false ∧ t.gap.wearUnknown = false ∧ t.gap.lastShift = none ∧
    t.gap.armed = true ∧ t.gap.jumpWindow = [] ∧ t.gap.lastDetection = none ∧ t.gap.readingClock = none ∧
    t.gap.trampList = [] ∧ t.queue = [] ∧
    t.line = { receiver := .waitingIdle, inFlight := none, collisions := 0, backoff := 0, slot := none, answers := []
               reportTimer := none, congested := false } ∧
    t.interface = { campaign := none, pending := none } ∧
    t.faults = { first := none, seen := [], further := false } ∧
    t.supplyLow = s.supplyLow ∧ t.motorRunning = s.motorRunning ∧ t.pending = s.pending ∧
    ((∀ c, s.interface.campaign = some c → c.cutOff = false ∨ c.word = 71) → t.memory = s.memory.finish) ∧
    (∀ c, s.interface.campaign = some c → c.cutOff = true → c.word ≠ 71 → s.memory.wf = true → 64 ≤ c.word →
      c.word ≤ 71 → (∀ a, a ≠ c.word → t.memory.read a = s.memory.finish.read a) ∧
      ∀ straps, wearRecordValid straps t.memory.read = false)

/-- The machine right after reset meets every one of the safety properties that the statements below say each step keeps. -/
def Obligations.SafeAtReset : Prop :=
  FeederSafe State.reset ∧ CapacitySafe State.reset ∧ SetpointSafe State.reset ∧ RunSafe State.reset ∧
    QueueSafe State.reset ∧ LineSafe State.reset ∧ MemorySafe State.reset ∧ PeersSafe State.reset ∧
    TrimSafe State.reset ∧ FaultsSafe State.reset ∧ HistorySafe State.reset

/-- The end of a start sequence (R38, R116, R156, R159, R161, R162). With a valid configuration the station is IDLE, or TRIPPED at
once with SUPPLY_LOW while the supply is low, and every block becomes active with its timers started, the reference and the wear
taken from the wear record. With an invalid one it is UNCONFIGURED with SETTING_INVALID, reporting every 500 ms, and no block is
active. The first STATUS reports IDLE or UNCONFIGURED, no sequence number and no command, and an idle transmitter takes it at
once. That a low supply is reported after that STATUS is assembled, that there is no sequence to end out of STARTING, what may
answer the READs, and that UNCONFIGURED keeps the values that stand in for G_t and W, are the model's choices (log entries 26, 3 and
6). -/
def Obligations.StartEndsIdleOrUnconfigured : Prop :=
  ∀ (straps : BitVec 5) (source : StartMemory) (s : State),
    (s.run.state ≠ .starting → exec (.startSequenceEnd straps source) s = .next s) ∧
    (s.run.state = .starting →
     let m : Memory := match source with
        | .kept => { s.memory.finish with enabled := false }
        | .fitted image => { cells := imageCells image, enabled := false, programming := none }
     ∃ t, exec (.startSequenceEnd straps source) s = .next t ∧
      t.stationNumber = straps.toNat ∧ t.settings = decodeSettings m.read ∧ t.memory = m ∧
      (s.line.inFlight = none → s.line.answers = [] → s.queue = [] → ∃ h : HeldStatus,
        t.line.inFlight = some { frame := .status h, driving := false } ∧ t.line.collisions = 0 ∧ t.line.backoff = 0 ∧
        h.payload.runState = (if configurationValid straps.toNat m.read = true then 3 else 2) ∧
        (s.run.lastSequence = none → h.payload.flags.getLsbD 6 = false) ∧
        (s.run.lastCommand = none → h.payload.command = 0)) ∧
      (configurationValid straps.toNat m.read = true →
        t.run.state = (if s.supplyLow = true then .tripped else .idle) ∧
        (s.supplyLow = true → .supplyLow ∈ t.faults.seen) ∧ (s.supplyLow = false → t.faults = s.faults) ∧
        t.monitor.window = some t.settings.sampleWindow ∧ t.peers.ageing = some 100 ∧
        t.share.timer = some t.settings.sharePeriod ∧ t.drive.timer = some 100 ∧
        t.line.reportTimer = some t.settings.reportPeriod ∧
        t.gap.target = min (max t.settings.startGap t.settings.gapMin) t.settings.gapMax ∧
        (if wearRecordValid straps.toNat m.read = true then
          t.gap.reference = (match (decodeWearRecord m.read).contact with
            | some c => .provisional c
            | none => .unreferenced) ∧
          t.gap.wearAcc = (m.read 67).toNat ∧ t.gap.linerTonnes = (m.read 65).toNat ∧
          t.gap.linerWear = (m.read 66).toNat ∧ t.gap.calCount = (m.read 68).toNat ∧ t.gap.wearUnknown = false
         else
          t.gap.reference = .unreferenced ∧ t.gap.wearAcc = 0 ∧ t.gap.linerTonnes = 0 ∧ t.gap.linerWear = 0 ∧
          t.gap.calCount = 0 ∧ t.gap.wearUnknown = true)) ∧
      (configurationValid straps.toNat m.read = false →
        t.run = { s.run with state := .unconfigured } ∧ .settingInvalid ∈ t.faults.seen ∧
        t.line.reportTimer = some 500 ∧ t.gap = s.gap ∧ t.monitor = s.monitor ∧ t.peers = s.peers ∧
        t.share = s.share ∧ t.drive = s.drive ∧ t.queue = s.queue ∧ t.interface = s.interface))

/-! ### Field Monitor -/

/-- A reading event sums every input into the open window (R1, R2, R3, R8, R13, R133): each in-range loop is scaled and
counted, an out-of-range one clears its in-range mark, the output noted at the reading is summed, the peak is raised, the
position and the reading clock taken. A pressure in range is the present pressure while the input is VALID, and out of range there
is none (R2, R15). Without a belt scale the estimate's whole kilograms go to both counters, each with its hundred-tonne event, and
the remainder is carried (R13, R14, R117, R118); a contact at the same reading is taken first, which is the model's order (log entry
8). The liner's counts and the wear are stated while no LINER_CHANGE waits. -/
def Obligations.ReadingEventSumsEveryInput : Prop :=
  ∀ (r : Readings) (s : State), s.active = true →
    (let summed : Accumulator → Nat → Nat → Accumulator := fun a span i =>
        if 3600 ≤ i ∧ i ≤ 21000 then ⟨a.sum + min ((i - 4000) * span / 16000) span, a.count + 1⟩ else a
     let c := s.settings
     let m := s.monitor
     ∃ t, exec (.readingEvent r) s = .next t ∧
      t.monitor.power = summed m.power c.powerSpan r.power ∧
      t.monitor.pressure = summed m.pressure c.pressureSpan r.pressure ∧
      t.monitor.cavity = summed m.cavity 1000 r.cavity ∧
      t.monitor.pile = (if c.pileInput = true then summed m.pile 1000 r.pile else m.pile) ∧
      t.monitor.output = ⟨m.output.sum + s.drive.output, m.output.count + 1⟩ ∧
      t.monitor.peak = (if 3600 ≤ r.pressure ∧ r.pressure ≤ 21000 then
        some (max (m.peak.getD 0) (min ((r.pressure - 4000) * c.pressureSpan / 16000) c.pressureSpan)) else m.peak) ∧
      (if r.positionMarked = true ∧ r.position ≤ 4095 then
        t.monitor.position = some r.position ∧ t.monitor.positionValid = true
       else t.monitor.position = m.position ∧ t.monitor.positionValid = false) ∧
      t.gap.readingClock = some (match s.gap.readingClock with
        | none => 0
        | some k => k + 10) ∧
      t.monitor.remainder = (if c.pulseWeight = 0 then (m.remainder + s.drive.output * c.feederCapacity) % 360000
        else m.remainder) ∧
      (let pressure := min ((r.pressure - 4000) * c.pressureSpan / 16000) c.pressureSpan
       let inRange : Prop := 3600 ≤ r.pressure ∧ r.pressure ≤ 21000
       let contacts : Prop := (∃ k pulse, s.gap.activity = .calibrating k ∧ k.phase = .seeking pulse) ∧ inRange ∧
          c.contactMark < pressure ∧ r.positionMarked = true ∧ r.position ≤ 4095
       let kg := if c.pulseWeight = 0 then (m.remainder + s.drive.output * c.feederCapacity) / 360000 else 0
       let passes : Nat → Prop := fun n => c.pulseWeight = 0 ∧ 100000 ≤ n + kg
       let counted : Nat → Nat := fun n => if passes n then n + kg - 100000 else n + kg
       let noLiner : Prop := ∀ e ∈ s.queue, e.kind ≠ .linerChange
       let weighs : Nat → Nat → Prop := fun kilograms wear => t.monitor.calibrationKg = counted kilograms ∧
          (noLiner → t.gap.wearAcc = (if passes kilograms then min 65535 (wear + c.wearRate) else wear))
       (if inRange then t.monitor.latestPressure = some pressure ∧
          t.presentPressure = (if m.validity.pressure = .valid then some pressure else none)
        else t.monitor.latestPressure = m.latestPressure ∧ t.presentPressure = none) ∧
       (contacts → weighs 0 0) ∧ (¬ contacts → weighs m.calibrationKg s.gap.wearAcc) ∧
       (noLiner → t.monitor.linerKg = counted m.linerKg ∧
          t.gap.linerTonnes = (if passes m.linerKg then min 65535 (s.gap.linerTonnes + 1) else s.gap.linerTonnes))) ∧
      (let ok : Nat → Bool := fun i => decide (3600 ≤ i) && decide (i ≤ 21000)
       t.monitor.inRange =
        { power := m.inRange.power && ok r.power
          pressure := m.inRange.pressure && ok r.pressure
          cavity := m.inRange.cavity && ok r.cavity
          pile := m.inRange.pile && (ok r.pile || !c.pileInput)
          position := m.inRange.position && (r.positionMarked && decide (r.position ≤ 4095)) }) ∧
      t.monitor.window = m.window ∧ t.monitor.pulseCount = m.pulseCount)

/-- An out-of-range reading breaks its input (R5, R49): the input is BROKEN, its fault kind is in the seen set when it was
VALID, and a break of the pressure or the position leaves the station TRIPPED with the feeder at 0 and the queue empty. -/
def Obligations.OutOfRangeReadingBreaksItsInput : Prop :=
  ∀ (r : Readings) (s : State), s.active = true →
    (let bad : Nat → Bool := fun i => decide (i < 3600) || decide (21000 < i)
     let v := s.monitor.validity
     let badPosition := !(r.positionMarked && decide (r.position ≤ 4095))
     ∃ t, exec (.readingEvent r) s = .next t ∧
      t.monitor.validity =
        { power := if bad r.power = true then .broken else v.power
          pressure := if bad r.pressure = true then .broken else v.pressure
          cavity := if bad r.cavity = true then .broken else v.cavity
          pile := if s.settings.pileInput = true ∧ bad r.pile = true then .broken else v.pile
          position := if badPosition = true then .broken else v.position } ∧
      (v.power = .valid → bad r.power = true → .powerLoop ∈ t.faults.seen) ∧
      (v.cavity = .valid → bad r.cavity = true → .cavityLoop ∈ t.faults.seen) ∧
      (v.pile = .valid → s.settings.pileInput = true → bad r.pile = true → .pileLoop ∈ t.faults.seen) ∧
      (v.pressure = .valid → bad r.pressure = true → .pressureLoop ∈ t.faults.seen) ∧
      (v.position = .valid → badPosition = true → .positionLoop ∈ t.faults.seen) ∧
      ((v.pressure = .valid ∧ bad r.pressure = true) ∨ (v.position = .valid ∧ badPosition = true) →
        t.run.state = .tripped ∧ (s.run.state ≠ .tripped → t.queue = [] ∧ t.drive.output = 0)))

/-- A belt-scale pulse is counted and weighed (R4, R13, R14, R117, R118): the pulse weight goes to both counters, a counter
that reaches 100000 kg loses 100000 kg and raises the wear accumulator or the liner tonnes. With no scale fitted it is
ignored. The liner's counts are stated while no LINER_CHANGE waits, whose start would set them to 0. -/
def Obligations.PulseWeighsIntoBothCounters : Prop :=
  ∀ s : State,
    (s.settings.pulseWeight = 0 → exec .beltScalePulse s = .next s) ∧
    (s.active = true → s.settings.pulseWeight ≠ 0 →
      ∃ t, exec .beltScalePulse s = .next t ∧ t.monitor.pulseCount = s.monitor.pulseCount + 1 ∧
        (let cal := s.monitor.calibrationKg + s.settings.pulseWeight
         let liner := s.monitor.linerKg + s.settings.pulseWeight
         t.monitor.calibrationKg = (if 100000 ≤ cal then cal - 100000 else cal) ∧
         ((∀ e ∈ s.queue, e.kind ≠ .linerChange) →
          t.monitor.linerKg = (if 100000 ≤ liner then liner - 100000 else liner) ∧
          t.gap.wearAcc = (if 100000 ≤ cal then min 65535 (s.gap.wearAcc + s.settings.wearRate) else s.gap.wearAcc) ∧
          t.gap.linerTonnes = (if 100000 ≤ liner then min 65535 (s.gap.linerTonnes + 1) else s.gap.linerTonnes)))) 

/-- A window close restores, forms the sample and opens the next window (R6 to R8, R10 to R12): a BROKEN input all of whose readings
were in range is VALID again; each average is its sum over its count rounded down, or its substitute; the throughput is the pulses
weighed over the window, or the average output of the feeder's capacity; the class is OVER by power or by peak pressure, otherwise
UNDER by power, otherwise NORMAL, a BROKEN input playing no part; the NOFEED latch becomes the marker, and the new window's latch is
set exactly where the output is 0 at the opening or becomes 0 in what follows in the same event (R8, R9), as it does not in RUNNING
or HELD with no request queued. What an average over no readings would be the manual does not say, and nothing is stated of it. -/
def Obligations.WindowCloseFormsTheSample : Prop :=
  ∀ s : State, s.active = true →
    (let m := s.monitor
     let c := s.settings
     let restored : Validity → Bool → Validity := fun v ok => if ok = true then .valid else v
     ∃ t l, exec .windowClose s = .next t ∧ t.monitor.sample = some l ∧
      l.validity = ⟨restored m.validity.power m.inRange.power, restored m.validity.pressure m.inRange.pressure,
        restored m.validity.cavity m.inRange.cavity, restored m.validity.pile m.inRange.pile,
        restored m.validity.position m.inRange.position⟩ ∧
      t.monitor.validity = l.validity ∧
      (l.validity.power = .broken → l.power = c.ratedPower) ∧
      (l.validity.power = .valid → m.power.count ≠ 0 → l.power = m.power.sum / m.power.count) ∧
      (l.validity.cavity = .broken → l.cavity = c.cavityHigh) ∧
      (l.validity.cavity = .valid → m.cavity.count ≠ 0 → l.cavity = m.cavity.sum / m.cavity.count) ∧
      (l.validity.pressure = .broken → l.pressure = none ∧ l.peak = none) ∧
      (l.validity.pressure = .valid → l.peak = m.peak ∧
        (m.pressure.count ≠ 0 → l.pressure = some (m.pressure.sum / m.pressure.count))) ∧
      (c.pileInput = false ∨ l.validity.pile = .broken → l.pile = none) ∧
      (c.pileInput = true → l.validity.pile = .valid → m.pile.count ≠ 0 →
        l.pile = some (m.pile.sum / m.pile.count)) ∧
      l.nofeed = m.nofeed ∧
      (c.pulseWeight ≠ 0 → l.throughput = min 65535 (m.pulseCount * c.pulseWeight * 3600 / c.sampleWindow)) ∧
      (c.pulseWeight = 0 → m.output.count ≠ 0 →
        l.throughput = min 65535 (m.output.sum / m.output.count * c.feederCapacity / 1000)) ∧
      (let level := l.power * 1000 / c.ratedPower
       let overByPower := l.validity.power = .valid ∧ c.overPower < level
       let overByPressure := l.validity.pressure = .valid ∧ ∃ p, l.peak = some p ∧ c.pressureOver < p
       (overByPower ∨ overByPressure → l.loadClass = .over) ∧
       (¬ (overByPower ∨ overByPressure) → l.validity.power = .valid → level < c.underPower →
         l.loadClass = .under) ∧
       (¬ (overByPower ∨ overByPressure) → ¬ (l.validity.power = .valid ∧ level < c.underPower) →
         l.loadClass = .normal)) ∧
      t.monitor.window = some c.sampleWindow ∧ t.monitor.power = ⟨0, 0⟩ ∧ t.monitor.pressure = ⟨0, 0⟩ ∧
      t.monitor.cavity = ⟨0, 0⟩ ∧ t.monitor.pile = ⟨0, 0⟩ ∧ t.monitor.output = ⟨0, 0⟩ ∧ t.monitor.peak = none ∧
      t.monitor.pulseCount = 0 ∧ t.monitor.inRange = ⟨true, true, true, true, true⟩ ∧
      (t.monitor.nofeed = true ↔ s.drive.output = 0 ∨ t.drive.output = 0) ∧
      (s.run.state = .running ∨ s.run.state = .held → s.queue = [] → t.drive.output = s.drive.output))

/-! ### Peer Table -/

/-- A STATUS that the table takes (R20 to R23, R28). From another number it makes or refreshes the sender's entry and touches no
other: every field from the report, its run state as carried whatever code it is (log entry 37), silence 0, LIVE, memberships
afresh; nothing but the entries and the receiver changes. From this station's own number it is a duplicate: its time is recorded,
DUPLICATE_NUMBER reported and the station TRIPPED. -/
def Obligations.ReportEntersThePeerOrIsADuplicate : Prop :=
  ∀ (header : Address) (p : StatusPayload) (s : State), s.active = true → s.line.receiver ≠ .waitingIdle →
    s.addressed header = true → p.codesDefined = true → 1 ≤ header.source.toNat → header.source.toNat ≤ 30 →
    (header.source.toNat ≠ s.stationNumber → 200 ≤ p.reportPeriod.toNat * 100 → p.reportPeriod.toNat * 100 ≤ 2000 →
     ∃ t, exec (.statusArrival header false p) s = .next t ∧
      t = { s with peers.entries := t.peers.entries, line.receiver := .waitingIdle } ∧
      (∀ e : PeerEntry, e.number ≠ header.source.toNat → (e ∈ t.peers.entries ↔ e ∈ s.peers.entries)) ∧
      ∃ e ∈ t.peers.entries, e.number = header.source.toNat ∧
        (p.kind = 1 → e.kind = .primary) ∧ (p.kind = 2 → e.kind = .secondary) ∧ e.groupCode = p.groupCode ∧
        e.runState.code = p.runState.toNat ∧ e.reportPeriod = p.reportPeriod.toNat * 100 ∧
        e.capacity = p.capacity.toNat ∧ e.silence = 0 ∧ e.entryState = .live ∧
        e.throughput = (if p.flags.getLsbD 3 = true then p.throughput.toNat else 0) ∧
        e.power = (if p.flags.getLsbD 3 = true then p.power.toNat else 0) ∧
        e.pile = (if p.flags.getLsbD 5 = true ∧ p.pile.toNat ≤ 1000 then some p.pile.toNat else none) ∧
        (e.belt = true ↔ e.kind = s.settings.kind ∧
          (p.groupCode ^^^ s.settings.groupCode) &&& s.settings.beltMask = 0) ∧
        (e.powerMember = true ↔ (p.groupCode ^^^ s.settings.groupCode) &&& s.settings.powerMask = 0)) ∧
    (header.source.toNat = s.stationNumber →
     ∃ t, exec (.statusArrival header false p) s = .next t ∧ t.peers.lastDuplicate = some s.seconds ∧
      .duplicateNumber ∈ t.faults.seen ∧ t.run.state = .tripped ∧ t.peers.entries = s.peers.entries)

/-- Ageing (R25, R26): an entry is removed when its silence time exceeds the forget time; otherwise a LIVE one becomes SILENT
when it exceeds three of its own report periods. An entry stays, changed so, exactly when it is not removed. -/
def Obligations.AgeingRemovesAndSilences : Prop :=
  ∀ s : State, s.active = true →
    ∃ t, exec .ageingEvent s = .next t ∧
      t = { s with peers.entries := t.peers.entries, peers.ageing := some 100 } ∧
      ∀ e' : PeerEntry, e' ∈ t.peers.entries ↔
        ∃ e ∈ s.peers.entries, e.silence + 100 ≤ s.settings.forgetTime * 1000 ∧
          e' = { e with silence := e.silence + 100
                        entryState := if 3 * e.reportPeriod < e.silence + 100 then .silent else e.entryState }

/-- The Peer Table stays in number order, one entry per valid number and none of the station's own (R17), at every step. -/
def Obligations.PeerTableStaysOrdered : Prop :=
  ∀ s t : State, PeersSafe s → step s = .next t → PeersSafe t

/-! ### Demand and Run Control -/

/-- A DEMAND is accepted when it is addressed to the station out of STARTING, its stage and group match, and its sequence
number is newer (R34 to R36). One that is not accepted changes nothing but the receiver, under any of the three rows. -/
def Obligations.DemandIsAcceptedWhenItMatchesAndIsNewer : Prop :=
  ∀ (header : Address) (p : DemandPayload) (s : State),
    (s.acceptsDemand header p = true ↔
      s.addressed header = true ∧ s.run.state ≠ .starting ∧
      ((p.stage = 1 ∧ s.settings.kind = .primary) ∨ (p.stage = 2 ∧ s.settings.kind = .secondary)) ∧
      (p.groupCode ^^^ s.settings.groupCode) &&& p.groupMask = 0 ∧
      ∀ last ∈ s.run.lastSequence, 1 ≤ (p.sequence - last).toNat ∧ (p.sequence - last).toNat ≤ 127) ∧
    (s.acceptsDemand header p = false → s.line.receiver ≠ .waitingIdle →
      exec (.demand header p) s = .next { s with line.receiver := .waitingIdle } ∧
      exec (.run header p) s = .next { s with line.receiver := .waitingIdle } ∧
      exec (.stop header p) s = .next { s with line.receiver := .waitingIdle })

/-- An accepted DEMAND is stored under each of the three rows that its frame may stand under, DEMAND, RUN and STOP (R36, R94, R95,
log entry 17): its sequence number, its stage target held at 4000, its span held at 200, its gap target clamped into the gap limits,
and its command as the last command. Fields it leaves out stay. A gap target sets W afresh and
empties the load history, or while STUCK holds W within the window (R97, R108), ends an ACTIVE SET_GAP STOPPED(SUPERSEDED) with the
distances as they were before, and leaves no move its NO_RETRY flag (R113). What it does to the gap is stated with no other request
queued, since a SET_GAP that starts in the same event sets G_t again. Where a frame carries both, the gap target is taken before
the span, which is the model's choice (log entry 44). -/
def Obligations.DemandStoresItsFields : Prop :=
  ∀ (header : Address) (p : DemandPayload) (s : State), s.acceptsDemand header p = true → s.line.receiver ≠ .waitingIdle →
   ∀ (row : Instr) (command : Option Command),
    (row = .demand header p ∧ command =
      (if p.presence.getLsbD 3 = true ∧ p.command = 1 then some .run
       else if p.presence.getLsbD 3 = true ∧ p.command = 2 then some .stop else none)) ∨
    (row = .run header p ∧ command = some .run) ∨ (row = .stop header p ∧ command = some .stop) →
    ∃ t, exec row s = .next t ∧
      t.run.lastSequence = some p.sequence ∧
      t.run.target = (if p.presence.getLsbD 0 = true then min p.stageTarget.toNat 4000 else s.run.target) ∧
      t.run.lastCommand = (if command = none then s.run.lastCommand else command) ∧
      t.gap.span = (if p.presence.getLsbD 2 = true ∧ s.active = true then min p.span.toNat 200 else s.gap.span) ∧
      (s.queue = [] → t.gap.target =
        (if p.presence.getLsbD 1 = true ∧ s.active = true then
          min (max p.gapTarget.toNat s.settings.gapMin) s.settings.gapMax else s.gap.target)) ∧
      (s.active = true → p.presence.getLsbD 1 = true →
        s.queue = [] ∨ (∃ e, s.queue = [e] ∧ e.active = true ∧ e.kind = .setGap) →
        t.queue = [] ∧
        t.gap.target = min (max p.gapTarget.toNat s.settings.gapMin) s.settings.gapMax ∧
        (s.gapState ≠ .stuck → t.gap.setpoint = t.heldInWindow t.gap.target ∧ t.gap.history = []) ∧
        (s.gapState = .stuck → p.presence.getLsbD 2 = false → t.gap.setpoint = t.heldInWindow s.gap.setpoint) ∧
        (∀ m, t.gap.activity = .moving m → m.noRetry = false) ∧
        (∀ e, s.queue = [e] → t.line = LinePort.push { s.line with receiver := .waitingIdle }
          { requester := e.requester, tag := e.tag, kind := some .setGap, outcome := .stopped .superseded
            remaining := s.gapEstimate.map (fun g => gapDistance g s.gap.setpoint), reached := s.gapEstimate
            data := none })) ∧
      (s.active = false → t.run.state = s.run.state)

/-- An accepted RUN (R40, R48). From IDLE or STOPPING: RUNNING with a reference and no calibration in progress, or the trip for
a motor that is not running when it becomes required; otherwise PRIMING with the priming timer started and the feeder at 0.
A queue that could start an entry in the same event, and a gap target or span that could end BACKING in it, are left out. PRIMING
without a reference stays, its timer not restarted; RUNNING and HELD stay, with no request queued; TRIPPED and UNCONFIGURED
ignore it. -/
def Obligations.RunEntersRunningOrPriming : Prop :=
  ∀ (header : Address) (p : DemandPayload) (s : State), s.acceptsDemand header p = true → s.line.receiver ≠ .waitingIdle →
    (s.run.state = .priming → s.gap.reference = .unreferenced → ∃ t, exec (.run header p) s = .next t ∧
      t.run.lastCommand = some .run ∧ t.run.state = .priming ∧ t.run.primingTimer = s.run.primingTimer) ∧
    (s.run.state = .running ∨ s.run.state = .held → s.queue = [] → ∃ t, exec (.run header p) s = .next t ∧
      t.run = { s.run with lastSequence := some p.sequence, lastCommand := some .run, target := t.run.target }) ∧
    (s.run.state = .tripped ∨ s.run.state = .unconfigured → ∃ t, exec (.run header p) s = .next t ∧
      t.run.lastCommand = some .run ∧ t.run.state = s.run.state) ∧
    (s.run.state = .idle ∨ s.run.state = .stopping →
     s.queue = [] ∨ (p.gap? = none ∧ p.span? = none ∧ s.headStartable = false) →
     s.gapState ≠ .calibrating ∨ (p.gap? = none ∧ p.span? = none) →
     let ready := s.gap.reference.present = true ∧ s.gapState ≠ .calibrating
     ∃ t, exec (.run header p) s = .next t ∧ t.run.lastCommand = some .run ∧
      t.run.lastSequence = some p.sequence ∧
      (ready → s.motorRunning = true ∨ s.run.state = .stopping →
        t.run.state = .running ∧ t.run.clearTimer = none ∧ t.drive.setpoint = s.drive.setpoint ∧
        (s.run.state = .stopping → s.gapState.feeds = true → t.drive.output = s.drive.output)) ∧
      (ready → s.motorRunning = false → s.run.state = .idle →
        t.run.state = .tripped ∧ .motorStopped ∈ t.faults.seen ∧ t.drive.output = 0) ∧
      (¬ ready → t.run.state = .priming ∧ t.run.primingTimer = some (s.settings.primingTimeout * 1000) ∧
        t.drive.output = 0 ∧ t.drive.setpoint = 0))

/-- An accepted STOP (R45, R48): RUNNING and HELD become STOPPING, PRIMING does too or trips for a motor that is not running,
and an internal calibration is aborted while a requested one runs on, its entry unanswered, as long as the frame brings no gap
target or span that could end its BACKING. In STOPPING the clear timer is not restarted, and there, in IDLE, TRIPPED and
UNCONFIGURED Run Control keeps all but what the frame stores. The clear timer starts at once with the output at 0. -/
def Obligations.StopEntersStopping : Prop :=
  ∀ (header : Address) (p : DemandPayload) (s : State), s.acceptsDemand header p = true → s.line.receiver ≠ .waitingIdle →
    ∃ t, exec (.stop header p) s = .next t ∧ t.run.lastCommand = some .stop ∧ t.run.lastSequence = some p.sequence ∧
      (s.run.state = .running ∨ s.run.state = .held ∨ (s.run.state = .priming ∧ s.motorRunning = true) →
        t.run.state = .stopping ∧ t.run.primingTimer = none ∧ t.drive.setpoint = s.drive.setpoint ∧
        (s.run.state = .running → t.gap.history = []) ∧
        (s.drive.output = 0 → t.run.clearTimer = some (s.settings.clearTime * 1000))) ∧
      (s.run.state = .priming → s.motorRunning = false →
        t.run.state = .tripped ∧ .motorStopped ∈ t.faults.seen) ∧
      (s.run.state = .priming → s.queue = [] → (∀ c, s.gap.activity = .calibrating c → c.kind = .internal) →
        t.gapState ≠ .calibrating) ∧
      (∀ c, s.run.state = .priming → s.motorRunning = true → s.gap.activity = .calibrating c → c.kind = .requested →
        (∀ mark left, c.phase ≠ .backing mark left) ∨ (p.gap? = none ∧ p.span? = none) →
        t.gap.activity = .calibrating c ∧
        (∀ e rest, s.queue = e :: rest → e.active = true → e.kind = .calibrate →
          t.queue = s.queue ∧ t.line = { s.line with receiver := .waitingIdle })) ∧
      (s.run.state = .stopping ∨ s.run.state = .idle ∨ s.run.state = .tripped ∨ s.run.state = .unconfigured →
        t.run = { s.run with lastSequence := some p.sequence, lastCommand := some .stop, target := t.run.target })

/-- Run Control's two timers (R43, R46, R49, R55, R129, R164): the priming timer trips the station with CAL_BLOCKED; the clear
timer ends STOPPING in IDLE and requests the run's wear record, whose campaign starts at once when none runs and the supply is
good, and which otherwise becomes the pending record. A window close ends STOPPING too, with the same request, while the clear timer
runs and the cavity average is at or below the empty mark (R46), and otherwise leaves Run Control in STOPPING, and the Setting
Memory Interface, as they were. -/
def Obligations.RunControlTimersExpire : Prop :=
  ∀ s : State,
   (let stored : State → Prop := fun t =>
      let r : WearRecord := { contact := s.gap.reference.contact?, linerTonnes := s.gap.linerTonnes
                              linerWear := s.gap.linerWear, wearAcc := s.gap.wearAcc, calCount := s.gap.calCount }
      if s.interface.campaign = none ∧ s.supplyLow = false then
        (∃ c, t.interface.campaign = some c ∧ c.record = r ∧ c.word = 64 ∧ c.ready = 25 ∧ c.cutOff = false) ∧
        t.interface.pending = s.interface.pending ∧ t.memory.enabled = true ∧
        t.memory.programming = some (64, r.word s.stationNumber 64)
      else t.interface = { s.interface with pending := some r } ∧ t.memory = s.memory
    (s.run.state = .priming → s.run.primingTimer.isSome = true →
      ∃ t, exec .primingTimerExpiry s = .next t ∧ t.run.state = .tripped ∧ .calBlocked ∈ t.faults.seen ∧
        t.run.primingTimer = none ∧ t.drive.output = 0 ∧ t.drive.setpoint = 0 ∧ t.queue = [] ∧
        t.gapState ≠ .moving ∧ t.gapState ≠ .calibrating ∧ t.gap.reference = s.gap.reference) ∧
    (s.run.state = .stopping → s.run.clearTimer.isSome = true →
      ∃ t, exec .clearTimerExpiry s = .next t ∧ t.run.state = .idle ∧ t.run.clearTimer = none ∧
        t.drive.output = 0 ∧ t.drive.setpoint = 0 ∧ t.faults = s.faults ∧ t.queue = s.queue ∧ stored t) ∧
    (s.run.state = .stopping → s.queue = [] →
      ∃ t l, exec .windowClose s = .next t ∧ t.monitor.sample = some l ∧
        (s.run.clearTimer.isSome = true → l.cavity ≤ s.settings.cavityEmpty →
          t.run.state = .idle ∧ t.run.clearTimer = none ∧ t.drive.output = 0 ∧ t.drive.setpoint = 0 ∧ stored t) ∧
        (s.run.clearTimer = none ∨ s.settings.cavityEmpty < l.cavity →
          t.run = s.run ∧ t.interface = s.interface ∧ t.memory = s.memory)))

/-- The two level inputs. Motor (R48, R49): a fall while the motor is required trips the station with MOTOR_STOPPED; any other
fall, and a rise with no internal calibration waiting, changes nothing but the input; a rise reports nothing and moves no run
state. Supply (R165, R49): a rise in STARTING is only held; elsewhere it reports SUPPLY_LOW, cuts off a running campaign and trips
the station unless that is UNCONFIGURED; a fall starts the pending record when no campaign runs, and otherwise changes nothing but
the input. -/
def Obligations.MotorAndSupplyEdges : Prop :=
  ∀ s : State,
    (s.run.state = .running ∨ s.run.state = .held ∨ s.run.state = .stopping →
      ∃ t, exec .motorRunningFall s = .next t ∧ t.run.state = .tripped ∧ .motorStopped ∈ t.faults.seen ∧
        t.motorRunning = false ∧ t.drive.output = 0 ∧ t.queue = []) ∧
    (¬ (s.run.state = .running ∨ s.run.state = .held ∨ s.run.state = .stopping) →
      exec .motorRunningFall s = .next { s with motorRunning := false }) ∧
    (∃ t, exec .motorRunningRise s = .next t ∧ t.motorRunning = true ∧ t.faults = s.faults ∧
      t.run.state = s.run.state) ∧
    (s.standingRequest = false → exec .motorRunningRise s = .next { s with motorRunning := true }) ∧
    (s.run.state = .starting → exec .supplyLowRise s = .next { s with supplyLow := true }) ∧
    (s.run.state ≠ .starting → ∃ t, exec .supplyLowRise s = .next t ∧ t.supplyLow = true ∧
      .supplyLow ∈ t.faults.seen ∧ t.interface.pending = s.interface.pending ∧ t.memory = s.memory ∧
      t.interface.campaign = s.interface.campaign.map (fun c => { c with cutOff := true }) ∧
      t.run.state = (if s.run.state = .unconfigured then .unconfigured else .tripped) ∧
      (s.run.state.trippable = true → t.queue = [] ∧ t.drive.output = 0)) ∧
    (s.interface.pending = none ∨ s.interface.campaign ≠ none →
      exec .supplyLowFall s = .next { s with supplyLow := false }) ∧
    (∀ r, s.interface.pending = some r → s.interface.campaign = none → ∃ t, exec .supplyLowFall s = .next t ∧
      t = { s with supplyLow := false, interface := t.interface, memory := t.memory } ∧
      t.interface.pending = none ∧ t.memory.enabled = true ∧
      t.memory.programming = some (64, r.word s.stationNumber 64) ∧
      ∃ c, t.interface.campaign = some c ∧ c.record = r ∧ c.word = 64 ∧ c.ready = 25)

/-- HOLD_FEED and RELEASE_FEED (R47, R147): taken in RUNNING and in HELD and answered DONE, refused in every other run state with
nothing else changed. Neither touches the queue. -/
def Obligations.HoldAndReleaseFeed : Prop :=
  ∀ (header : Address) (tag : BitVec 3) (s : State), s.addressedAlone header = true → s.active = true →
    s.line.receiver ≠ .waitingIdle →
    (let reply : RequestKind → AnswerOutcome → LinePort := fun k o =>
        LinePort.push { s.line with receiver := .waitingIdle }
          { requester := header.source, tag := tag, kind := some k, outcome := o, remaining := none, reached := none
            data := none }
     (s.run.state = .running →
       ∃ t, exec (.holdFeed header tag) s = .next t ∧ t.run.state = .held ∧ t.line = reply .holdFeed .done ∧
        t.queue = s.queue ∧ t.share.capacity = 0 ∧ t.gap.history = [] ∧ t.drive.setpoint = s.drive.setpoint ∧
        (s.gapState.feeds = true → t.drive.output = s.drive.output)) ∧
     (s.run.state ≠ .running →
       exec (.holdFeed header tag) s = .next { s with line := reply .holdFeed (.refused .notRunning) }) ∧
     (s.run.state = .held →
       ∃ t, exec (.releaseFeed header tag) s = .next t ∧ t.run.state = .running ∧
        t.line = reply .releaseFeed .done ∧ t.queue = s.queue ∧ t.drive.setpoint = s.drive.setpoint ∧
        (s.gapState.feeds = true → t.drive.output = s.drive.output)) ∧
     (s.run.state ≠ .held →
       exec (.releaseFeed header tag) s = .next { s with line := reply .releaseFeed (.refused .notHeld) }))

/-- Run Control stays consistent at every step: a required motor runs, a TRIPPED station holds no request, move or calibration,
the priming timer runs exactly in PRIMING, the clear timer only in STOPPING (R42, R43, R46, R48, R49, R150). -/
def Obligations.RunControlStaysConsistent : Prop :=
  ∀ s t : State, RunSafe s → step s = .next t → RunSafe t

/-! ### Share Unit and Power Trim -/

/-- Stages 2 to 11 of a share computation and what becomes of it (R54 to R56, R60 to R69, R71, R83): the new record relates target,
belt limit, level factor, committed flow, own capacity, capacity sum, share, trim and cap as the stages lay down; the rate is
rounded to the nearest, held to the minimum rate by flush mode and guarded by the latest cavity average or the high mark. The
record's c_s is the available capacity, its r is written to the Feeder Drive only in RUNNING, and nothing else of the station
changes. -/
def Obligations.ShareStagesAreWorkedInOrder : Prop :=
  ∀ s : State, s.active = true →
    (let c := s.settings
     let es := s.peers.entries
     let cavity := match s.monitor.sample with
       | some l => l.cavity
       | none => c.cavityHigh
     ∃ t r, exec .sharePeriodExpiry s = .next t ∧ t.share.record = some r ∧
      r.target = s.run.target ∧ r.beltLimit = c.beltLimit ∧
      r.demand = min r.target r.beltLimit * r.factor / 1000 ∧
      r.committed = min 65535 ((es.filter (fun e => e.belt = true ∧ (e.entryState = .silent ∨
        (e.entryState = .live ∧ (e.runState = .held ∨ e.runState = .stopping))))).map (·.throughput)).sum ∧
      r.available = (if r.committed < r.demand then r.demand - r.committed else 0) ∧
      (∀ g, s.gapEstimate = some g → r.capacity = (if s.run.state = .running ∧
          (s.gapState = .holding ∨ s.gapState = .moving ∨ s.gapState = .stuck) then
        min c.feederCapacity (min (c.capacityCoeff * g / 100) c.capacityCeiling) else 0)) ∧
      (s.gapEstimate = none → r.capacity = 0) ∧
      r.capacitySum = r.capacity +
        ((es.filter (fun e => e.belt = true ∧ e.entryState = .live)).map (·.capacity)).sum ∧
      r.share = (if r.capacitySum = 0 then 0 else r.available * r.capacity / r.capacitySum) ∧
      r.trim = t.share.trim ∧ r.capped = min (r.share * r.trim / 1000) r.capacity ∧
      r.liveMembers = (es.filter (fun e => e.belt = true ∧ e.entryState = .live)).length ∧
      r.silentMembers = (es.filter (fun e => e.belt = true ∧ e.entryState = .silent)).length ∧
      (let raw := min 1000 ((r.capped * 1000 + c.feederCapacity / 2) / c.feederCapacity)
       let low : Prop := 0 < r.capped ∧ raw < c.rMin
       let rate := if r.capped = 0 then 0
         else if raw < c.rMin then (if c.flushMode = .hold then c.rMin else 0) else raw
       (r.flushed = true ↔ low ∧ c.flushMode = .stop) ∧
       (r.cavityFull = true ↔ c.cavityFull ≤ cavity) ∧
       (r.levelUnknown = true ↔ r.level = none) ∧
       r.rate = (if c.cavityFull ≤ cavity then 0
         else if c.cavityHigh ≤ cavity then min rate s.drive.output else rate)) ∧
      t.share.capacity = r.capacity ∧ t.share.timer = some c.sharePeriod ∧
      t.drive = { s.drive with setpoint := if s.run.state = .running then r.rate else s.drive.setpoint } ∧
      t.peers = { s.peers with selected := r.level, source := r.source } ∧
      t = { s with share := t.share, drive := t.drive, peers := t.peers })

/-- The pile level and its factor. The level is the own input's, else the lowest-numbered LIVE peer's that has one, else unknown
(R31). While it is known, a PRIMARY station updates PILE_FULL and then works L from HW_lo and HW_hi, a SECONDARY one updates
PILE_EMPTY and works L from LW_lo and LW_hi, and neither touches the other's latch (R57, R58). While it is unknown both latches
keep their state, and L is the blind factor unless the station's own latch is set (R59). -/
def Obligations.LevelFactorFollowsThePileLevel : Prop :=
  ∀ s : State, s.active = true →
    (let c := s.settings
     let reporting : PeerEntry → Prop := fun e => e ∈ s.peers.entries ∧ e.entryState = .live ∧ e.pile.isSome = true
     ∃ t r, exec .sharePeriodExpiry s = .next t ∧ t.share.record = some r ∧
      (∀ l x, s.monitor.sample = some l → s.settings.pileInput = true → l.pile = some x →
        r.level = some x ∧ r.source = .own) ∧
      (s.peers.entries.Pairwise (fun a b => a.number < b.number) →
        (s.settings.pileInput = false ∨ s.monitor.sample = none ∨ ∃ l, s.monitor.sample = some l ∧ l.pile = none) →
        (∀ e, reporting e → (∀ e', reporting e' → e.number ≤ e'.number) →
          r.level = e.pile ∧ r.source = .peer e.number) ∧
        ((∀ e, ¬ reporting e) → r.level = none ∧ r.source = .none)) ∧
      (r.levelUnknown = true ↔ r.level = none) ∧ t.peers.selected = r.level ∧ t.peers.source = r.source ∧
      (r.level = none → t.share.pileFull = s.share.pileFull ∧ t.share.pileEmpty = s.share.pileEmpty ∧
        r.factor = (if (if s.settings.kind = .primary then s.share.pileFull else s.share.pileEmpty) = true then 0
          else s.settings.blindFactor)) ∧
      (c.kind = .primary → c.hwLo < c.hwHi → t.share.pileEmpty = s.share.pileEmpty ∧
        ∀ level, r.level = some level →
          t.share.pileFull = (if c.hwHi ≤ level then true else if level ≤ c.hwLo then false else s.share.pileFull) ∧
          r.factor = (if t.share.pileFull = true then 0 else if level ≤ c.hwLo then 1000
            else 1000 * (c.hwHi - level) / (c.hwHi - c.hwLo))) ∧
      (c.kind = .secondary → c.lwLo < c.lwHi → t.share.pileFull = s.share.pileFull ∧
        ∀ level, r.level = some level →
          t.share.pileEmpty = (if level ≤ c.lwLo then true else if c.lwHi ≤ level then false
            else s.share.pileEmpty) ∧
          r.factor = (if t.share.pileEmpty = true then 0 else if c.lwHi ≤ level then 1000
            else 1000 * (level - c.lwLo) / (c.lwHi - c.lwLo))))

/-- Power Trim's update (R74 to R77): the power sum is the own power and every power member's, LIVE or SILENT, held at 65535;
Q falls by the ratio to no less than the floor, rises by the step to no more than 1000, or stays; without a budget it is 1000. -/
def Obligations.PowerTrimUpdate : Prop :=
  ∀ s : State, s.active = true →
    (let c := s.settings
     let own := match s.monitor.sample with
       | some l => l.power
       | none => 0
     let sum := min 65535 (own + ((s.peers.entries.filter (fun e => e.powerMember = true)).map (·.power)).sum)
     let q := s.share.trim
     ∃ t, exec .sharePeriodExpiry s = .next t ∧
      (c.powerBudget = 0 → t.share.trim = 1000) ∧
      (c.powerBudget ≠ 0 → c.powerBudget < sum → t.share.trim = max c.trimFloor (q * c.powerBudget / sum)) ∧
      (sum < c.powerBudget * (1000 - c.trimBand) / 1000 → t.share.trim = min 1000 (q + c.trimStep)) ∧
      (c.powerBudget ≠ 0 → sum ≤ c.powerBudget → c.powerBudget * (1000 - c.trimBand) / 1000 ≤ sum →
        t.share.trim = q))

/-! ### Feeder Drive -/

/-- One ramp interval (R85, R86, R90): from rest to r_min, by the up step to the setpoint, by the down step but never through
the range below r_min; nothing while FROZEN or ZEROED. An output that reaches 0 sets the NOFEED latch and starts the clear
timer in STOPPING. Nothing else changes. -/
def Obligations.RampIntervalMovesTheOutput : Prop :=
  ∀ s : State, s.active = true →
    (let c := s.settings
     let a := s.drive.output
     let up := max 1 (c.rampUp / 10)
     let down := max 1 (c.rampDown / 10)
     let lowered : Nat → Nat := fun target =>
       if target = 0 then (if c.rMin < a then max c.rMin (a - down) else 0) else max target (a - down)
     let a' := match s.driveMode with
       | .feeding =>
         if a < s.drive.setpoint then
           (if a = 0 ∧ 0 < c.rMin then c.rMin else min s.drive.setpoint (a + up))
         else if s.drive.setpoint < a then lowered s.drive.setpoint else a
       | .rundown => if 0 < a then lowered 0 else a
       | _ => a
     exec .rampInterval s = .next { s with
       drive := { s.drive with output := a', timer := some 100 }
       monitor.nofeed := s.monitor.nofeed || (decide (a' = 0) && decide (0 < a))
       run.clearTimer := if a' = 0 ∧ 0 < a ∧ s.run.state = .stopping then some (c.clearTime * 1000)
         else s.run.clearTimer })

/-- Feeding stays safe at every step: output and setpoint stay in the legal set and the output is 0 wherever feeding is forbidden
(R82, R87), no capacity is offered while feeding is not permitted (R56), and the trim factor stays within its bounds (R73). -/
def Obligations.FeedingStaysSafe : Prop :=
  ∀ s t : State, step s = .next t →
    (FeederSafe s → FeederSafe t) ∧ (CapacitySafe s → CapacitySafe t) ∧ (TrimSafe s → TrimSafe t)

/-! ### Gap Controller -/

/-- At every step G_t stays within the gap limits, the span within 200 and W within the working window (R94 to R97); the load
history holds at most 16 classes and none out of RUNNING (R107, R108), and the jump window no gap while OPEN is asked for or G is
absent (R133). -/
def Obligations.WorkingSetpointStaysInItsWindow : Prop :=
  ∀ s t : State, step s = .next t → (SetpointSafe s → SetpointSafe t) ∧ (HistorySafe s → HistorySafe t)

/-- Load history and step decisions at a window close (R107 to R110): while RUNNING the class of a sample not marked NOFEED is
pushed, at most 16 kept; in HOLDING with a span above 0 the open step is tried and then the close step, each emptying the
history; otherwise the history and W stay. -/
def Obligations.LoadHistoryAndStepDecisions : Prop :=
  ∀ s : State, s.active = true → s.headStartable = false → s.run.state ≠ .priming →
    ∃ t l, exec .windowClose s = .next t ∧ t.monitor.sample = some l ∧
      (let c := s.settings
       let w := s.gap.setpoint
       let h := (l.loadClass :: s.gap.history).take 16
       if s.run.state = .running ∧ s.monitor.nofeed = false then
        (if 0 < s.gap.span ∧ s.gapState = .holding ∧ c.openCount ≤ h.length ∧
            (∀ k ∈ h.take c.openCount, k = LoadClass.over) then
          t.gap.history = [] ∧
          t.gap.setpoint = min (w + c.stepSize) (windowUpper c s.gap.reference s.gap.target s.gap.span)
         else if 0 < s.gap.span ∧ s.gapState = .holding ∧ h.length = 16 ∧
            c.closeCount ≤ h.count LoadClass.under ∧ LoadClass.over ∉ h then
          t.gap.history = [] ∧
          t.gap.setpoint = max (w - c.stepSize) (windowLower c s.gap.reference s.gap.target s.gap.span)
         else t.gap.history = h ∧ t.gap.setpoint = w)
       else t.gap.history = s.gap.history ∧ t.gap.setpoint = w)

/-- What a stall does (R102 to R104, R112, R125, R139). The first stall of a move reverses it by 2 mm with mark and timer started
afresh, and changes nothing else but the jump window, which OPEN empties; an opening move at a G of 0 has its goal of 0 already
and resumes at once. With NO_RETRY the first ends the move without a fault; the second ends it with GAP_STALL and the gap STUCK,
as a stall of BACKING and of a re-closing that is not paused does; the expiry of a timer that a pause holds is without effect (the
model's reading, log entry 1). Where a drive ends, W becomes G held within the window, and an
ACTIVE SET_GAP, or in BACKING a CALIBRATE, is answered STOPPED(STALL). No other request is queued, whose start would set W again. -/
def Obligations.StallsReverseOrEndTheMove : Prop :=
  ∀ (s : State) (g : Nat), s.active = true → s.monitor.positionValid = true → s.gapEstimate = some g →
    (let answered : Entry → LinePort := fun e => s.line.push
        { requester := e.requester, tag := e.tag, kind := some e.kind.request, outcome := .stopped .stall
          remaining := some (gapDistance g s.gap.setpoint), reached := some g, data := none }
     let atRest : State → Prop := fun t => t.gap.setpoint = s.heldInWindow g ∧ t.gap.approach = false ∧
        t.gap.target = s.gap.target ∧ t.gap.reference = s.gap.reference ∧ t.queue = []
     let stuck : State → Prop := fun t => t.gapState = .stuck ∧ t.valve = .off ∧ .gapStall ∈ t.faults.seen ∧
        t.run.state = s.run.state
     (∀ m, s.gap.activity = .moving m → m.paused = true → exec .stallTimerExpiry s = .next s) ∧
     (∀ m, s.gap.activity = .moving m → m.paused = false → m.stallCount = 0 → m.noRetry = false →
       exec .stallTimerExpiry s = .next { s with
        gap.activity := .moving { m with
          stallCount := 1, mark := g, stall := s.settings.moveTimeout * 1000
          reversal := if m.direction = .closing then some (g + 20) else if g = 0 then none else some (g - 20) }
        gap.jumpWindow := if m.direction = .closing ∨ g = 0 then [] else s.gap.jumpWindow }) ∧
     (∀ m, s.gap.activity = .moving m → m.paused = false → m.stallCount ≠ 0 ∨ m.noRetry = true →
       s.queue = [] ∨ (∃ e, s.queue = [e] ∧ e.active = true ∧ e.kind = .setGap) →
       ∃ t, exec .stallTimerExpiry s = .next t ∧ atRest t ∧ (s.queue = [] → t.line = s.line) ∧
        (∀ e, s.queue = [e] → t.line = answered e) ∧
        (m.stallCount ≠ 0 → stuck t) ∧
        (m.stallCount = 0 → s.run.state ≠ .priming → t.gapState ≠ .stuck ∧ t.faults = s.faults)) ∧
     (∀ c mark left, s.gap.activity = .calibrating c → c.phase = .backing mark left →
       s.queue = [] ∨ (∃ e, s.queue = [e] ∧ e.active = true ∧ e.kind = .calibrate) →
       ∃ t, exec .stallTimerExpiry s = .next t ∧ atRest t ∧ stuck t ∧ (s.queue = [] → t.line = s.line) ∧
        (∀ e, s.queue = [e] → t.line = answered e)) ∧
     (∀ r, s.gap.activity = .recovering r → r.paused = true → exec .stallTimerExpiry s = .next s) ∧
     (∀ r, s.gap.activity = .recovering r → r.paused = false → s.queue = [] →
       ∃ t, exec .stallTimerExpiry s = .next t ∧ atRest t ∧ stuck t ∧ t.line = s.line))

/-- A move that crosses W at a reading ends its SET_GAP (R100, R112): DONE when W is the argument as carried, otherwise
DONE_CLAMPED; approach pending is cleared and W stays. The tramp tests come after the answer (R131): a detection, which takes an
armed station and a pressure above the tramp mark or a G above the smallest of the last second by the tramp jump (R132, R133),
leaves the gap RELIEVED. Without one the gap is MOVING again exactly where the move has run past W by more than the hold band
(R99), and HOLDING otherwise, as long as the reading's own tonnage leaves the wear. -/
def Obligations.CrossingTheSetpointEndsSetGap : Prop :=
  ∀ (r : Readings) (s : State) (m : Move) (e : Entry) (contact g p now : Nat), s.active = true →
    s.gap.activity = .moving m → s.queue = [e] → e.active = true → e.kind = .setGap →
    3600 ≤ r.pressure → r.pressure ≤ 21000 → r.positionMarked = true → r.position ≤ 4095 →
    s.gap.reference.contact? = some contact → g = (contact + s.gap.wearAcc / 100) - r.position →
    (m.direction = .opening → s.gap.setpoint ≤ g) → (m.direction = .closing → g ≤ s.gap.setpoint) →
    p = min ((r.pressure - 4000) * s.settings.pressureSpan / 16000) s.settings.pressureSpan →
    now = (match s.gap.readingClock with
      | none => 0
      | some k => k + 10) →
    (let c := s.settings
     let detects : Prop := s.gap.armed = true ∧ (c.trampMark < p ∨ (c.trampJump ≠ 0 ∧
        ∃ e ∈ s.gap.jumpWindow, now ≤ e.1 + 1000 ∧ e.2 + c.trampJump ≤ g))
     ∃ t, exec (.readingEvent r) s = .next t ∧ t.queue = [] ∧ t.gap.setpoint = s.gap.setpoint ∧
      t.gap.approach = false ∧ (t.gapState = .relieved ↔ detects) ∧
      (t.gapState = .holding ∨ t.gapState = .moving ∨ t.gapState = .relieved) ∧
      (¬ detects → s.run.state ≠ .tripped → t.gap.wearAcc = s.gap.wearAcc →
        t.gapState = (if c.holdBand < gapDistance g s.gap.setpoint then .moving else .holding)) ∧
      t.line = s.line.push { requester := e.requester, tag := e.tag, kind := some .setGap
                             outcome := if e.argument = some s.gap.setpoint then .done else .doneClamped
                             remaining := none, reached := none, data := none })

/-- The readings of a move that has not crossed W (R101 to R103), while no tramp is detected. A reversal at its goal resumes the
move in its own direction, with mark and timer afresh. Otherwise a drive that closes is paused above the over mark and driven at or
below it, an opening one is never paused, and a gain of 5 in the driven direction moves the mark and restarts the timer. That the
reading at which a reversal ends is not itself tested against the over mark is the model's choice (log entry 45). A wear rise at a
belt-scale pulse that brings G to the goal of a reversal resumes the move at that event. -/
def Obligations.MoveReadingsPauseAndProgress : Prop :=
  ∀ (s : State) (m : Move) (contact : Nat), s.active = true → s.gap.activity = .moving m →
    s.gap.reference.contact? = some contact →
    (let timeout := s.settings.moveTimeout * 1000
     let now : Nat := match s.gap.readingClock with
        | none => 0
        | some k => k + 10
     let opens : Bool := decide (m.direction = .opening) != m.reversal.isSome
     let ahead : Nat → Prop := fun g => (m.direction = .opening → g < s.gap.setpoint) ∧
        (m.direction = .closing → s.gap.setpoint < g)
     let reached : Nat → Prop := fun g => ∃ goal, m.reversal = some goal ∧ (if opens = true then goal ≤ g else g ≤ goal)
     (∀ (r : Readings) (g p : Nat), 3600 ≤ r.pressure → r.pressure ≤ 21000 → r.positionMarked = true →
      r.position ≤ 4095 →
       p = min ((r.pressure - 4000) * s.settings.pressureSpan / 16000) s.settings.pressureSpan →
       g = (contact + s.gap.wearAcc / 100) - r.position → ahead g →
       (s.gap.armed = true → p ≤ s.settings.trampMark ∧ (s.settings.trampJump = 0 ∨
         ∀ e ∈ s.gap.jumpWindow, now ≤ e.1 + 1000 → g < e.2 + s.settings.trampJump)) →
       ∃ t, exec (.readingEvent r) s = .next t ∧ (t.gap.wearAcc = s.gap.wearAcc →
        (reached g → t.gap.activity = .moving { m with reversal := none, mark := g, stall := timeout, paused := false }) ∧
        (¬ reached g → opens = false → s.settings.pressureOver < p → t.gap.activity = .moving { m with paused := true }) ∧
        (¬ reached g → opens = true ∨ p ≤ s.settings.pressureOver →
          (let gained : Prop := if opens = true then m.mark + 5 ≤ g else g + 5 ≤ m.mark
           (gained → t.gap.activity = .moving { m with paused := false, mark := g, stall := timeout }) ∧
           (¬ gained → t.gap.activity = .moving { m with paused := false }))))) ∧
     (∀ g p : Nat, s.settings.pulseWeight ≠ 0 → 100000 ≤ s.monitor.calibrationKg + s.settings.pulseWeight →
       s.monitor.position = some p → g = (contact + min 65535 (s.gap.wearAcc + s.settings.wearRate) / 100) - p → ahead g →
       reached g → ∃ t, exec .beltScalePulse s = .next t ∧
        t.gap.activity = .moving { m with reversal := none, mark := g, stall := timeout, paused := false }))

/-! ### Calibration -/

/-- The seek pulses (R122, R123): the end of the on time turns the valve off for the off time; the end of the off time counts
stillness and begins the next pulse from the present position, and nothing else changes; at the third still pulse the contact
result is taken and BACKING begins. Approach pending is then set where W differs from the G of 0, and a W of 0 that was kept keeps
its mark (R97, log entry 13). -/
def Obligations.SeekPulsesFindTheContact : Prop :=
  ∀ (s : State) (c : Calibration) (p : SeekPulse) (here : Nat), s.active = true → s.monitor.positionValid = true →
    s.gap.activity = .calibrating c → c.phase = .seeking p → s.monitor.position = some here →
    (p.on = true → exec .seekPulseOnEnd s = .next { s with
      gap.activity := .calibrating { c with
        phase := .seeking { p with on := false, left := s.settings.pulseOff * 10 } } }) ∧
    (p.on = false → p.start < here ∨ p.still < 2 → exec .seekPulseOffEnd s = .next { s with
      gap.activity := .calibrating { c with
        phase := .seeking { on := true, left := s.settings.pulseOn * 10, start := here
                            still := if p.start < here then 0 else p.still + 1 } } }) ∧
    (p.on = false → p.still = 2 → here ≤ p.start →
      ∃ t, exec .seekPulseOffEnd s = .next t ∧ t.gap.reference = .referenced here ∧ t.gap.wearAcc = 0 ∧
        t.monitor.calibrationKg = 0 ∧ t.gap.calCount = min 65535 (s.gap.calCount + 1) ∧
        t.gap.lastShift = s.gap.reference.contact?.map (fun old => (here : Int) - (old : Int)) ∧
        t.gap.linerWear = (match s.gap.reference.contact? with
          | some old => if old < here then min 65535 (s.gap.linerWear + (here - old))
              else min 65535 s.gap.linerWear
          | none => s.gap.linerWear) ∧
        t.gapEstimate = some 0 ∧ t.gap.jumpWindow = [] ∧ t.gap.setpoint = t.heldInWindow s.gap.setpoint ∧
        (t.gap.setpoint ≠ 0 → t.gap.approach = true) ∧
        (t.gap.setpoint = 0 → t.gap.approach = (s.gap.approach && decide (s.gap.setpoint = 0))) ∧
        t.gap.activity = .calibrating { kind := c.kind, seekLimit := none
                                        phase := .backing 0 (s.settings.moveTimeout * 1000) } ∧
        t.gap.linerTonnes = s.gap.linerTonnes ∧ t.queue = s.queue ∧ t.faults = s.faults ∧ t.run = s.run ∧
        (s.interface.campaign ≠ none ∨ s.supplyLow = true →
          t.interface = { s.interface with pending := some t.wearRecord }))

/-- A calibration that finds no contact by the seek limit fails (R124): CAL_NO_CONTACT, the reference and the wear as they were. An
internal one trips the PRIMING station; a requested one ends its entry STOPPED(NO_CONTACT) and trips nothing. A PRIMING station
that is still without a reference then holds its standing request, and the internal calibration starts at once where its conditions
hold (R41, R120); one with a reference runs or finds its motor stopped (R42, R48). That the PRIMING test comes after the move test,
so that a station which moves first stays PRIMING until the move has ended, is the model's reading (log entry 12). -/
def Obligations.SeekLimitFailsTheCalibration : Prop :=
  ∀ (s : State) (c : Calibration), s.active = true → s.monitor.positionValid = true →
    s.gap.activity = .calibrating c → c.seekLimit.isSome = true →
    (c.kind = .internal → s.run.state = .priming →
      ∃ t, exec .seekLimitExpiry s = .next t ∧ t.run.state = .tripped ∧ .calNoContact ∈ t.faults.seen ∧
        t.gapState = .holding ∧ t.gap.reference = s.gap.reference ∧ t.gap.wearAcc = s.gap.wearAcc ∧
        t.gap.linerWear = s.gap.linerWear ∧ t.queue = []) ∧
    (c.kind = .requested → s.run.state = .idle ∨ s.run.state = .stopping ∨ s.run.state = .priming →
      ∀ e, s.queue = [e] → e.active = true → e.kind = .calibrate →
      (let conditions := s.motorRunning = true ∧ ∃ l, s.monitor.sample = some l ∧ l.cavity ≤ s.settings.cavityEmpty
       ∃ t, exec .seekLimitExpiry s = .next t ∧ .calNoContact ∈ t.faults.seen ∧ t.gap.reference = s.gap.reference ∧
        t.gap.wearAcc = s.gap.wearAcc ∧ t.gap.linerWear = s.gap.linerWear ∧ t.queue = [] ∧
        t.line = s.line.push { requester := e.requester, tag := e.tag, kind := some .calibrate
                               outcome := .stopped .noContact
                               remaining := s.gapEstimate.map (fun g => gapDistance g s.gap.setpoint)
                               reached := s.gapEstimate, data := none } ∧
        (s.run.state ≠ .priming → t.run = s.run ∧ t.gapState ≠ .calibrating) ∧
        (s.run.state = .priming → s.gap.reference = .unreferenced → t.run = s.run ∧ t.standingRequest = true ∧
          (conditions → ∀ p, s.monitor.position = some p → t.gap.activity = .calibrating
            { kind := .internal, seekLimit := some (s.settings.seekLimit * 1000), phase := .opening p }) ∧
          (¬ conditions → t.gapState = .holding)) ∧
        (s.run.state = .priming → s.gap.reference ≠ .unreferenced →
          (t.gapState = .moving ∧ t.run = s.run) ∨ (t.gapState = .holding ∧
            (s.motorRunning = true → t.run.state = .running) ∧
            (s.motorRunning = false → t.run.state = .tripped ∧ .motorStopped ∈ t.faults.seen)))))

/-- The readings of a calibration (R121 to R126). OPENING ends 5 mm below its start, or at 0, with the first seek pulse; the model
tests that reading no further (log entry 39). In SEEKING a pressure above the contact mark takes the contact result, which stands
whatever a tramp at the same reading does, and begins BACKING; a position of 4095 without contact fails with CAL_NO_CONTACT. In
BACKING the mark follows each gain of 5 until G is at or above W, which ends a CALIBRATE DONE and lets a PRIMING station run. All
but the contact result is stated while no tramp is detected: by pressure, or by jump where OPEN is off (R132, R133). -/
def Obligations.ReadingsMoveTheCalibration : Prop :=
  ∀ (r : Readings) (s : State) (c : Calibration) (p : Nat), s.active = true → s.gap.activity = .calibrating c →
    3600 ≤ r.pressure → r.pressure ≤ 21000 → r.positionMarked = true → r.position ≤ 4095 →
    p = min ((r.pressure - 4000) * s.settings.pressureSpan / 16000) s.settings.pressureSpan →
    (let now : Nat := match s.gap.readingClock with
        | none => 0
        | some k => k + 10
     let quiet : Prop := s.gap.armed = true → p ≤ s.settings.trampMark
     let calm : Prop := quiet ∧ (s.gap.armed = true → s.settings.trampJump = 0 ∨ ∀ k, s.gap.reference.contact? = some k →
        ∀ e ∈ s.gap.jumpWindow, now ≤ e.1 + 1000 →
          (k + s.gap.wearAcc / 100) - r.position < e.2 + s.settings.trampJump)
     let timeout := s.settings.moveTimeout * 1000
     ∃ t, exec (.readingEvent r) s = .next t ∧
      (∀ start, c.phase = .opening start →
        (r.position ≤ start - 50 → calm → t.gap.activity = .calibrating { c with
          phase := .seeking { on := true, left := s.settings.pulseOn * 10, still := 0, start := r.position } }) ∧
        (start - 50 < r.position → quiet → t.gap.activity = .calibrating c)) ∧
      (∀ pulse, c.phase = .seeking pulse → s.settings.contactMark < p →
        t.gap.reference = .referenced r.position ∧ t.gap.calCount = min 65535 (s.gap.calCount + 1) ∧
        t.gap.lastShift = s.gap.reference.contact?.map (fun old => (r.position : Int) - (old : Int)) ∧
        t.gap.linerWear = (match s.gap.reference.contact? with
          | some old => min 65535 (s.gap.linerWear + (r.position - old))
          | none => s.gap.linerWear) ∧
        (quiet → t.gap.activity = .calibrating { kind := c.kind, seekLimit := none, phase := .backing 0 timeout } ∧
          t.valve = .opening ∧ t.queue = s.queue ∧ t.run = s.run) ∧
        (s.gap.armed = true → s.settings.trampMark < p → t.gap.activity = .relieved none)) ∧
      (∀ pulse, c.phase = .seeking pulse → p ≤ s.settings.contactMark → calm →
        (r.position ≠ 4095 → t.gap.activity = .calibrating c) ∧
        (r.position = 4095 → .calNoContact ∈ t.faults.seen ∧
          (s.queue = [] → t.gap.reference = s.gap.reference) ∧
          (c.kind = .internal → s.run.state = .priming → t.run.state = .tripped ∧ t.gapState = .holding))) ∧
      (∀ mark left contact g, c.phase = .backing mark left → s.gap.reference.contact? = some contact →
        g = (contact + s.gap.wearAcc / 100) - r.position →
        (g < s.gap.setpoint → quiet → t.gap.activity = .calibrating { c with
          phase := if mark + 5 ≤ g then .backing g timeout else .backing mark left }) ∧
        (s.gap.setpoint ≤ g →
          (∀ e, s.queue = [e] → e.active = true → e.kind = .calibrate → t.queue = [] ∧
            t.gap.reference = s.gap.reference ∧
            t.line = s.line.push (plainAnswer e.requester e.tag (some .calibrate) .done)) ∧
          (calm → s.queue = [] → t.gap.reference = s.gap.reference ∧ t.gap.setpoint = s.gap.setpoint ∧
            t.gap.approach = false ∧ t.gapState ≠ .calibrating ∧
            (s.run.state = .priming → s.motorRunning = true → g ≤ s.gap.setpoint + s.settings.holdBand →
              t.gap.wearAcc = s.gap.wearAcc →
              t.run.state = .running ∧ t.run.primingTimer = none ∧ t.gapState = .holding)))))

/-- A station in PRIMING calibrates and then runs (R41, R42, R44, R120). Unreferenced in HOLDING with no request queued, its
standing request starts an internal calibration at the event that meets the last start condition: the acceptance of RUN, the rise
of the motor input, or the close of a window with an empty cavity. With a reference it enters RUNNING at its change to HOLDING, or
trips for a motor that is not running. A LINER_CHANGE that starts in RUNNING or HELD takes the reference, and the station is
PRIMING with its timer started, its feeder at 0 and its load history empty. -/
def Obligations.PrimingCalibratesAndRuns : Prop :=
  ∀ (s : State), s.active = true →
    (let empty : Prop := ∃ l, s.monitor.sample = some l ∧ l.cavity ≤ s.settings.cavityEmpty
     let opening : Nat → Activity := fun p => .calibrating
        { kind := .internal, seekLimit := some (s.settings.seekLimit * 1000), phase := .opening p }
     (∀ p, s.gap.reference = .unreferenced → s.gap.activity = .holding → s.queue = [] → s.monitor.position = some p →
       s.monitor.positionValid = true → s.drive.output = 0 →
       (s.run.state = .priming → empty → ∃ t, exec .motorRunningRise s = .next t ∧ t.gap.activity = opening p ∧
         t.valve = .opening ∧ t.run = s.run) ∧
       (s.run.state = .priming → s.motorRunning = true → ∃ t l, exec .windowClose s = .next t ∧
         t.monitor.sample = some l ∧
         (l.cavity ≤ s.settings.cavityEmpty → t.gap.activity = opening p ∧ t.run = s.run) ∧
         (s.settings.cavityEmpty < l.cavity → t.gap.activity = .holding ∧ t.run = s.run)) ∧
       (∀ header d, s.run.state = .idle → s.motorRunning = true → empty → s.acceptsDemand header d = true →
         s.line.receiver ≠ .waitingIdle → ∃ t, exec (.run header d) s = .next t ∧ t.run.state = .priming ∧
         t.run.primingTimer = some (s.settings.primingTimeout * 1000) ∧ t.gap.activity = opening p)) ∧
     (∀ left g, s.gap.activity = .relieved (some left) → s.gapEstimate = some g → g ≤ s.gap.setpoint →
       (s.run.state = .priming → s.queue = [] → s.gap.setpoint ≤ g + s.settings.holdBand →
         s.gap.approach = false ∨ g = s.gap.setpoint → ∃ t, exec .settleTimerExpiry s = .next t ∧
         t.gapState = .holding ∧ t.run.primingTimer = none ∧
         (s.motorRunning = true → t.run.state = .running ∧ t.faults = s.faults) ∧
         (s.motorRunning = false → t.run.state = .tripped ∧ .motorStopped ∈ t.faults.seen)) ∧
       (∀ e, s.run.state = .running ∨ s.run.state = .held → s.queue = [e] → e.active = false → e.kind = .linerChange →
         ∃ t, exec .settleTimerExpiry s = .next t ∧ t.gap.reference = .unreferenced ∧ t.gapEstimate = none ∧
         t.run.state = .priming ∧ t.run.primingTimer = some (s.settings.primingTimeout * 1000) ∧
         t.drive.output = 0 ∧ t.drive.setpoint = 0 ∧ t.gap.history = (if s.run.state = .running then [] else s.gap.history) ∧
         t.queue = [{ e with active := true }] ∧ t.gapState = .holding)))

/-! ### Tramp -/

/-- A tramp by pressure (R131, R132, R135, R136): detection is disarmed, the gap RELIEVED with its settle timer stopped, feeder and
capacity at 0, the history empty, an ACTIVE SET_GAP or CALIBRATE ended, STOPPED(TRAMP) with its distances as measured at the
detecting reading (R112, R126), and a STUCK gap left with W set afresh (R105); three in the window trip the station. Where the
activity's own tests come first (R131), the entry is one that they do not end, and a contact at that reading is measured from. The
model's readings: TRAMP_REPEAT is reported after the relief (log entry 19), an ACTIVE SET_GAP without a move ends too (log entry
32), and the detecting reading adds nothing to the jump window (log entry 14). -/
def Obligations.TrampRelievesTheCrusher : Prop :=
  ∀ (r : Readings) (s : State), s.active = true → s.gap.armed = true → 3600 ≤ r.pressure → r.pressure ≤ 21000 →
    s.settings.trampMark < min ((r.pressure - 4000) * s.settings.pressureSpan / 16000) s.settings.pressureSpan →
    (∀ e ∈ s.queue.drop 1, e.active = false) →
    (let kept := s.gap.trampList.filter (fun e => s.seconds - e ≤ s.settings.trampWindow * 60)
     let p := min ((r.pressure - 4000) * s.settings.pressureSpan / 16000) s.settings.pressureSpan
     let here : Option Nat := s.gap.reference.contact?.map (fun k => (k + s.gap.wearAcc / 100) - r.position)
     let answered : Entry → Option Nat → Nat → LinePort := fun e reached w => s.line.push
        { requester := e.requester, tag := e.tag, kind := some e.kind.request, outcome := .stopped .tramp
          remaining := reached.map (fun g => gapDistance g w), reached := reached, data := none }
     ∃ t, exec (.readingEvent r) s = .next t ∧ t.gap.activity = .relieved none ∧ t.valve = .off ∧
      t.gap.armed = false ∧ t.gap.lastDetection = t.gap.readingClock ∧ t.gap.jumpWindow = [] ∧ t.gap.history = [] ∧
      t.drive.output = 0 ∧ t.share.capacity = 0 ∧ (s.gapState = .stuck → t.gap.setpoint = s.heldInWindow s.gap.target) ∧
      t.activeKind .setGap = false ∧ t.activeKind .calibrate = false ∧
      t.gap.trampList = (if kept.length = 3 then kept.drop 1 else kept) ++ [s.seconds] ∧
      (t.gap.trampList.length = 3 → t.run.state = .tripped ∧ .trampRepeat ∈ t.faults.seen) ∧
      (∀ e, s.queue = [e] → e.active = true → r.positionMarked = true → r.position ≤ 4095 →
        (e.kind = .setGap → (s.gap.activity = .holding ∨ ∃ m, s.gap.activity = .moving m ∧
            ∀ g, here = some g → if m.direction = .opening then g < s.gap.setpoint else s.gap.setpoint < g) →
          t.queue = [] ∧ t.line = answered e here s.gap.setpoint) ∧
        (∀ c, e.kind = .calibrate → s.gap.activity = .calibrating c →
          (match c.phase with
           | .opening _ => True
           | .seeking _ => p ≤ s.settings.contactMark ∧ r.position ≠ 4095
           | .backing _ _ => ∀ g, here = some g → g < s.gap.setpoint) →
          t.queue = [] ∧ t.line = answered e here s.gap.setpoint) ∧
        (∀ c pulse, e.kind = .calibrate → s.gap.activity = .calibrating c → c.phase = .seeking pulse →
          s.settings.contactMark < p →
          t.queue = [] ∧ t.gap.reference = .referenced r.position ∧ t.line = answered e (some 0) t.gap.setpoint)))

/-- The jump test and the arming of detection (R131 to R135), at a reading with both values in range that leaves OPEN off: in
HOLDING, STUCK, RELIEVED and RECOVERING, in a move that drives CLOSE, paused or not, and in SEEKING below the contact mark. Armed,
a G that exceeds the smallest in the window of the last second by the tramp jump, or a pressure above the tramp mark, is a
detection, whatever was going on: an ACTIVE SET_GAP that has not crossed W, and a CALIBRATE short of 4095, end STOPPED(TRAMP) with
the distances at that reading (R112, R126); a STUCK gap is left with W set afresh from G_t (R105), and W stays otherwise. Without a
detection the reading's G joins the window. Disarmed, a pressure below the settle mark
1000 ms or more after the last detection arms it again and empties the window. A move or calibration that then begins to open
empties the window. No request waits behind the ACTIVE one. The model's readings: the detecting and the re-arming reading add
nothing to the window (log entry 14), and a reading in range re-arms although its input is not restored yet (log entry 43). -/
def Obligations.JumpTestAndArming : Prop :=
  ∀ (r : Readings) (s : State) (contact g p now : Nat), s.active = true →
    s.queue = [] ∨ (∃ e, s.queue = [e] ∧ e.active = true) →
    s.gapState = .holding ∨ s.gapState = .stuck ∨ s.gapState = .relieved ∨ s.gapState = .recovering ∨
      (∃ m, s.gap.activity = .moving m ∧ ((m.direction = .closing ∧ m.reversal = none) ∨
        (m.direction = .opening ∧ ∃ goal, m.reversal = some goal ∧ (goal < g ∨ s.gap.setpoint ≤ g)))) ∨
      (∃ c pulse, s.gap.activity = .calibrating c ∧ c.phase = .seeking pulse ∧ p ≤ s.settings.contactMark) →
    3600 ≤ r.pressure → r.pressure ≤ 21000 → r.positionMarked = true → r.position ≤ 4095 →
    p = min ((r.pressure - 4000) * s.settings.pressureSpan / 16000) s.settings.pressureSpan →
    s.gap.reference.contact? = some contact → g = (contact + s.gap.wearAcc / 100) - r.position →
    now = (match s.gap.readingClock with
      | none => 0
      | some k => k + 10) →
    (let c := s.settings
     let kept := s.gap.jumpWindow.filter (fun e => now ≤ e.1 + 1000)
     let detects : Prop := c.trampMark < p ∨ (c.trampJump ≠ 0 ∧ ∃ e ∈ kept, e.2 + c.trampJump ≤ g)
     let rearms : Prop := (∀ k, s.gap.lastDetection = some k → k + 1000 ≤ now) ∧ p < c.settleMark
     let onTheWay : Entry → Prop := fun e =>
        (e.kind = .setGap ∧ ∃ m, s.gap.activity = .moving m ∧
          if m.direction = .opening then g < s.gap.setpoint else s.gap.setpoint < g) ∨
        (e.kind = .calibrate ∧ s.gapState = .calibrating ∧ r.position ≠ 4095)
     ∃ t, exec (.readingEvent r) s = .next t ∧
      (s.gap.armed = true → detects → t.gap.activity = .relieved none ∧ t.valve = .off ∧ t.gap.armed = false ∧
        t.gap.lastDetection = some now ∧ t.gap.jumpWindow = [] ∧ t.gap.history = [] ∧ s.seconds ∈ t.gap.trampList ∧
        t.drive.output = 0 ∧ t.share.capacity = 0 ∧
        t.gap.setpoint = (if s.gapState = .stuck then s.heldInWindow s.gap.target else s.gap.setpoint) ∧
        (∀ e, s.queue = [e] → onTheWay e → t.queue = [] ∧ t.line = s.line.push
          { requester := e.requester, tag := e.tag, kind := some e.kind.request, outcome := .stopped .tramp
            remaining := some (gapDistance g s.gap.setpoint), reached := some g, data := none })) ∧
      (s.gap.armed = false ∨ ¬ detects → t.gap.lastDetection = s.gap.lastDetection ∧ t.gap.trampList = s.gap.trampList ∧
        (s.gapState ≠ .relieved → t.gapState ≠ .relieved) ∧
        (t.gap.armed = true ↔ s.gap.armed = true ∨ rearms) ∧
        t.gap.jumpWindow = (if t.gap.activity.asks = .opening ∨ (s.gap.armed = false ∧ t.gap.armed = true) then []
          else kept ++ [(now, g)])))

/-- The readings of relief and re-closing (R137, R139), while no tramp is detected. RELIEVED: a pressure in range and below the
settle mark starts the settle timer or leaves it running, and any other reading stops it. RECOVERING at a valid position: G at or
below W ends the re-closing with approach pending cleared; otherwise a pressure above the over mark pauses it, and below that a
gain of 5 toward W moves the mark and restarts the timer. At an invalid position nothing of it changes (log entry 29), and a reading
in range starts the settle timer although its input is not restored yet (log entry 43). -/
def Obligations.ReliefAndReclosingReadings : Prop :=
  ∀ (r : Readings) (s : State) (p : Nat), s.active = true →
    p = min ((r.pressure - 4000) * s.settings.pressureSpan / 16000) s.settings.pressureSpan →
    (let inRange : Prop := 3600 ≤ r.pressure ∧ r.pressure ≤ 21000
     let valid : Prop := r.positionMarked = true ∧ r.position ≤ 4095
     let now : Nat := match s.gap.readingClock with
        | none => 0
        | some k => k + 10
     let calm : Prop := s.gap.armed = true → p ≤ s.settings.trampMark ∧ (valid → s.settings.trampJump = 0 ∨
        ∀ k, s.gap.reference.contact? = some k → ∀ e ∈ s.gap.jumpWindow, now ≤ e.1 + 1000 →
          (k + s.gap.wearAcc / 100) - r.position < e.2 + s.settings.trampJump)
     let timeout := s.settings.moveTimeout * 1000
     ∃ t, exec (.readingEvent r) s = .next t ∧
      (∀ settle, s.gap.activity = .relieved settle →
        (inRange → p < s.settings.settleMark → calm →
          t.gap.activity = .relieved (some (settle.getD (s.settings.settleTime * 1000)))) ∧
        (¬ inRange ∨ s.settings.settleMark ≤ p → t.gap.activity = .relieved none)) ∧
      (∀ d contact g, s.gap.activity = .recovering d → inRange → valid → calm →
        s.gap.reference.contact? = some contact → g = (contact + s.gap.wearAcc / 100) - r.position →
        (g ≤ s.gap.setpoint → s.queue = [] → t.gapState ≠ .recovering ∧ t.gap.approach = false ∧
          t.gap.setpoint = s.gap.setpoint ∧ t.gap.reference = s.gap.reference) ∧
        (s.gap.setpoint < g → s.settings.pressureOver < p → t.gap.activity = .recovering { d with paused := true }) ∧
        (s.gap.setpoint < g → p ≤ s.settings.pressureOver → t.gap.activity = .recovering
          (if g + 5 ≤ d.mark then { mark := g, stall := timeout, paused := false } else { d with paused := false }))) ∧
      (∀ d, s.gap.activity = .recovering d → ¬ valid → inRange → calm → t.gap.activity = .recovering d ∧
       t.valve = .off))

/-- The settle timer's expiry ends the relief (R138, R139): RECOVERING with CLOSE asked for when G is above W, otherwise HOLDING,
which is the model's choice where G is absent under a PROVISIONAL reference (log entry 40). With no request queued, what follows
HOLDING in the same event is a move where one is due (R99), or the internal calibration that a PRIMING station waits for (R120);
else the gap stays HOLDING. A queued request that starts then leaves it in none of STUCK, RELIEVED and RECOVERING. -/
def Obligations.SettledReliefRecovers : Prop :=
  ∀ (s : State) (left : Nat), s.active = true → s.gap.activity = .relieved (some left) →
    (∀ g, s.gapEstimate = some g → s.gap.setpoint < g → ∃ t, exec .settleTimerExpiry s = .next t ∧
      t = { s with gap.activity := .recovering { mark := g, stall := s.settings.moveTimeout * 1000, paused := false }
                   drive := t.drive, share.capacity := 0, monitor.nofeed := t.monitor.nofeed
                   run.clearTimer := t.run.clearTimer } ∧
      t.drive.output = 0 ∧ t.gap.activity.asks = .closing) ∧
    ((∀ g, s.gapEstimate = some g → g ≤ s.gap.setpoint) → ∃ t, exec .settleTimerExpiry s = .next t ∧
      t.gapState ≠ .relieved ∧ t.gapState ≠ .recovering ∧ t.gapState ≠ .stuck ∧
      (let due : Prop := s.monitor.positionValid = true ∧ s.run.state ≠ .tripped ∧ ∃ g, s.gapEstimate = some g ∧
          (s.settings.holdBand < gapDistance g s.gap.setpoint ∨ (s.gap.approach = true ∧ g ≠ s.gap.setpoint))
       let calibrates : Prop := s.run.state = .priming ∧ s.gap.reference = .unreferenced ∧ s.motorRunning = true ∧
          s.monitor.positionValid = true ∧ ∃ l, s.monitor.sample = some l ∧ l.cavity ≤ s.settings.cavityEmpty
       s.queue = [] → t.gap.reference = s.gap.reference ∧ t.gap.setpoint = s.gap.setpoint ∧
        (due → t.gapState = .moving) ∧ (calibrates → t.gapState = .calibrating) ∧
        (¬ due → ¬ calibrates → t.gapState = .holding)))

/-! ### Request Queue -/

/-- A queued kind at its arrival (R143, R144): refused by the station's state, then by its tag, then for want of room, with
nothing else changed; otherwise, while the gap is neither HOLDING nor STUCK, it waits at the tail and is answered QUEUED. -/
def Obligations.QueuedRequestsAtArrival : Prop :=
  ∀ (header : Address) (tag : BitVec 3) (noRetry : Bool) (argument : Word) (s : State),
    s.addressedAlone header = true → s.active = true → s.line.receiver ≠ .waitingIdle →
    (let command : QueuedKind → Instr := fun k => match k with
        | .setGap => .setGap header tag noRetry argument
        | .calibrate => .calibrate header tag noRetry
        | .linerChange => .linerChange header tag noRetry
     let forbidden : QueuedKind → Option RefuseCode := fun k => match k with
        | .setGap => if s.run.state = .tripped then some .tripped
            else if s.gap.reference = .unreferenced then some .noReference else none
        | .calibrate => if s.run.state = .idle ∨ s.run.state = .priming then none else some .notIdle
        | .linerChange => if s.run.state = .idle then none else some .notIdle
     let answered : QueuedKind → AnswerOutcome → LinePort := fun k o =>
        LinePort.push { s.line with receiver := .waitingIdle } (plainAnswer header.source tag (some k.request) o)
     let entry : QueuedKind → Entry := fun k =>
        { requester := header.source, tag := tag, kind := k
          argument := if k = .setGap then some argument.toNat else none, noRetry := noRetry, active := false }
     ∀ k : QueuedKind,
      (∀ code, forbidden k = some code → exec (command k) s = .next { s with line := answered k (.refused code) }) ∧
      (forbidden k = none →
        if ∃ e ∈ s.queue, e.requester = header.source ∧ e.tag = tag then
          exec (command k) s = .next { s with line := answered k (.refused .duplicateTag) }
        else if 4 ≤ s.queue.length then
          exec (command k) s = .next { s with line := answered k (.refused .queueFull) }
        else s.gapState ≠ .holding → s.gapState ≠ .stuck →
          exec (command k) s = .next { s with queue := s.queue ++ [entry k], line := answered k .queued }))

/-- What starts a move (R97, R99, R105, R111, R112). A SET_GAP that starts at once in HOLDING: G_t is the argument clamped, W that
moved into the window, the history empty; with W at G it ends DONE or DONE_CLAMPED, and otherwise it is ACTIVE and a move toward W
starts. One that starts in STUCK sets G_t, holds W within the window and ends STOPPED(STALL), with nothing else changed. In HOLDING
with moves allowed and nothing queued, a reading (in range, without a tramp, its own tonnage leaving the wear), a belt-scale pulse,
a window close without a span, and an accepted CLEAR_FAULT start a move from G toward W when G is off W by more than the hold band,
or at all while approach is pending, and leave the gap at rest otherwise. That a closing move is not paused at its start, whatever
the pressure of the reading that starts it, is the model's choice (log entry 45). -/
def Obligations.MovesStartTowardTheSetpoint : Prop :=
  (∀ (header : Address) (tag : BitVec 3) (noRetry : Bool) (argument : Word) (s : State),
    s.addressedAlone header = true → s.active = true → s.line.receiver ≠ .waitingIdle → s.run.state ≠ .tripped →
    s.queue = [] →
    (let c := s.settings
     let asked := min (max argument.toNat c.gapMin) c.gapMax
     let inWindow : Nat → Nat := fun n => min (max n (windowLower c s.gap.reference asked s.gap.span))
        (windowUpper c s.gap.reference asked s.gap.span)
     let w := inWindow asked
     let queued := LinePort.push { s.line with receiver := .waitingIdle }
        (plainAnswer header.source tag (some .setGap) .queued)
     (∀ g, s.gapState = .holding → s.gapEstimate = some g → s.monitor.positionValid = true →
      ∃ t, exec (.setGap header tag noRetry argument) s = .next t ∧
       t.gap.target = asked ∧ t.gap.setpoint = w ∧ t.gap.history = [] ∧ t.gap.reference = s.gap.reference ∧
       (g = w → t.queue = [] ∧ t.line = queued.push (plainAnswer header.source tag (some .setGap)
         (if argument.toNat = w then .done else .doneClamped))) ∧
       (g ≠ w → t.line = queued ∧
         t.queue = [{ requester := header.source, tag := tag, kind := .setGap, argument := some argument.toNat
                      noRetry := noRetry, active := true }] ∧
         t.gap.activity = .moving
           { direction := if g < w then .opening else .closing, noRetry := noRetry, stallCount := 0, mark := g
             stall := c.moveTimeout * 1000, reversal := none, paused := false })) ∧
     (s.gapState = .stuck → s.gap.reference.present = true →
      ∃ t, exec (.setGap header tag noRetry argument) s = .next t ∧
       t = { s with
         gap := { s.gap with target := asked, setpoint := inWindow s.gap.setpoint, approach := t.gap.approach }
         line := queued.push { requester := header.source, tag := tag, kind := some .setGap, outcome := .stopped .stall
                               remaining := s.gapEstimate.map (fun g => gapDistance g s.gap.setpoint)
                               reached := s.gapEstimate, data := none } } ∧
       (inWindow s.gap.setpoint = s.gap.setpoint → t.gap.approach = s.gap.approach)))) ∧
  ∀ (s : State) (contact : Nat), s.active = true → s.gap.activity = .holding → s.queue = [] →
    s.gap.reference.contact? = some contact →
    (let c := s.settings
     let w := s.gap.setpoint
     let now : Nat := match s.gap.readingClock with
        | none => 0
        | some k => k + 10
     let tested : Nat → State → Prop := fun g t =>
        let due := c.holdBand < gapDistance g w ∨ (s.gap.approach = true ∧ g ≠ w)
        (due → t.gap.activity = .moving
          { direction := if g < w then .opening else .closing, noRetry := false, stallCount := 0, mark := g
            stall := c.moveTimeout * 1000, reversal := none, paused := false }) ∧
        (¬ due → t.gap.activity = .holding)
     (∀ (r : Readings) (g p : Nat), s.run.state ≠ .tripped → 3600 ≤ r.pressure → r.pressure ≤ 21000 →
       r.positionMarked = true → r.position ≤ 4095 → p = min ((r.pressure - 4000) * c.pressureSpan / 16000) c.pressureSpan →
       g = (contact + s.gap.wearAcc / 100) - r.position →
       (s.gap.armed = true → p ≤ c.trampMark ∧ (c.trampJump = 0 ∨
         ∀ e ∈ s.gap.jumpWindow, now ≤ e.1 + 1000 → g < e.2 + c.trampJump)) →
       ∃ t, exec (.readingEvent r) s = .next t ∧ (t.gap.wearAcc = s.gap.wearAcc → tested g t)) ∧
     (∀ p, s.monitor.position = some p → s.monitor.positionValid = true →
       (s.run.state ≠ .tripped → c.pulseWeight ≠ 0 → ∃ t, exec .beltScalePulse s = .next t ∧
         tested ((contact + (if 100000 ≤ s.monitor.calibrationKg + c.pulseWeight
           then min 65535 (s.gap.wearAcc + c.wearRate) else s.gap.wearAcc) / 100) - p) t) ∧
       (s.run.state ≠ .tripped → s.gap.span = 0 → ∃ t, exec .windowClose s = .next t ∧ t.gap.setpoint = w ∧
         tested ((contact + s.gap.wearAcc / 100) - p) t) ∧
       (∀ header tag, s.addressedAlone header = true → s.line.receiver ≠ .waitingIdle → s.conditionPresent = false →
         ∃ t, exec (.clearFault header tag) s = .next t ∧ tested ((contact + s.gap.wearAcc / 100) - p) t)))

/-- A CALIBRATE that is started at once (R120, R121): with every start condition met it is ACTIVE and the calibration is in
OPENING with the seek limit running, the feeder at 0 and OPEN driven; a STUCK gap is left with W set afresh from G_t and the load
history empty (R105). Otherwise it ends STOPPED(BLOCKED), the reference stays, and a STUCK gap stays as it was. -/
def Obligations.CalibrateStartsOrIsBlocked : Prop :=
  ∀ (header : Address) (tag : BitVec 3) (noRetry : Bool) (s : State) (p : Nat),
    s.addressedAlone header = true → s.active = true → s.line.receiver ≠ .waitingIdle →
    s.run.state = .idle ∨ s.run.state = .priming → s.gapState = .holding ∨ s.gapState = .stuck → s.queue = [] →
    s.monitor.position = some p →
    (let ready := s.motorRunning = true ∧ s.drive.output = 0 ∧ s.monitor.positionValid = true ∧
        ∃ l, s.monitor.sample = some l ∧ l.cavity ≤ s.settings.cavityEmpty
     let queued := LinePort.push { s.line with receiver := .waitingIdle }
        (plainAnswer header.source tag (some .calibrate) .queued)
     ∃ t, exec (.calibrate header tag noRetry) s = .next t ∧ t.gap.reference = s.gap.reference ∧
      (ready → t.line = queued ∧ t.run.state = s.run.state ∧ t.drive.output = 0 ∧ t.valve = .opening ∧
        t.queue = [{ requester := header.source, tag := tag, kind := .calibrate, argument := none
                     noRetry := noRetry, active := true }] ∧
        t.gap.activity = .calibrating { kind := .requested, seekLimit := some (s.settings.seekLimit * 1000)
                                        phase := .opening p } ∧
        (if s.gapState = .stuck then t.gap.setpoint = s.heldInWindow s.gap.target ∧ t.gap.history = []
         else t.gap.setpoint = s.gap.setpoint ∧ t.gap.history = s.gap.history)) ∧
      (¬ ready → t.queue = [] ∧ (s.gapState = .stuck → t.gap = s.gap) ∧
        t.line = queued.push { requester := header.source, tag := tag, kind := some .calibrate
                               outcome := .stopped .blocked
                               remaining := s.gapEstimate.map (fun g => gapDistance g s.gap.setpoint)
                               reached := s.gapEstimate, data := none }))

/-- A LINER_CHANGE that starts at once in IDLE (R128, R129): the liner totals, the wear and the liner kilograms are 0, the
reference is lost, WEAR_UNKNOWN clear, the gap state as it was, and a record with its contact absent is requested. That its
campaign carries the mark of the LINER_CHANGE that awaits it is the model's own bookkeeping (log entry 27). -/
def Obligations.LinerChangeClearsTheTotals : Prop :=
  ∀ (header : Address) (tag : BitVec 3) (noRetry : Bool) (s : State),
    s.addressedAlone header = true → s.line.receiver ≠ .waitingIdle → s.run.state = .idle →
    s.gapState = .holding ∨ s.gapState = .stuck → s.queue = [] →
    ∃ t, exec (.linerChange header tag noRetry) s = .next t ∧
      t.queue = [{ requester := header.source, tag := tag, kind := .linerChange, argument := none
                   noRetry := noRetry, active := true }] ∧
      t.line = LinePort.push { s.line with receiver := .waitingIdle }
        (plainAnswer header.source tag (some .linerChange) .queued) ∧
      t.gap.linerTonnes = 0 ∧ t.gap.linerWear = 0 ∧ t.gap.calCount = 0 ∧ t.gap.wearAcc = 0 ∧
      t.gap.wearUnknown = false ∧ t.gap.lastShift = none ∧ t.gap.reference = .unreferenced ∧
      t.gapEstimate = none ∧ t.gap.activity = s.gap.activity ∧ t.monitor.linerKg = 0 ∧
      t.monitor.calibrationKg = s.monitor.calibrationKg ∧ t.run = s.run ∧ t.faults = s.faults ∧
      (let r : WearRecord := { contact := none, linerTonnes := 0, linerWear := 0, wearAcc := 0, calCount := 0 }
       if s.interface.campaign = none ∧ s.supplyLow = false then
        ∃ c, t.interface.campaign = some c ∧ c.record = r ∧ c.word = 64 ∧ c.forLiner = true
       else t.interface.pending = some r)

/-- CANCEL (R112, R126, R144, R146). Naming no entry it is refused NO_SUCH_TAG and changes nothing else. A WAITING entry leaves the
queue, answered CANCELLED before the CANCEL's own DONE. An ACTIVE entry ends STOPPED(CANCELLED) with its distances: a SET_GAP's
move stops and W becomes G held within the window, also where its move had not started (the model's reading, log entry 32); a
calibration is aborted and the reference stands; a LINER_CHANGE leaves what it did. The next head is started in the same event. -/
def Obligations.CancelEndsTheNamedEntry : Prop :=
  ∀ (header : Address) (tag : BitVec 3) (argument : Word) (s : State),
    s.addressedAlone header = true → s.active = true → s.line.receiver ≠ .waitingIdle →
    (let names : Entry → Prop := fun e => e.requester = header.source ∧ e.tag.toNat = argument.toNat
     let l : LinePort := { s.line with receiver := .waitingIdle }
     let own : AnswerOutcome → Answer := plainAnswer header.source tag (some .cancel)
     let ended : Entry → LinePort := fun e => (l.push
        { requester := e.requester, tag := e.tag, kind := some e.kind.request, outcome := .stopped .cancelled
          remaining := s.gapEstimate.map (fun g => gapDistance g s.gap.setpoint), reached := s.gapEstimate
          data := none }).push (own .done)
     ((∀ e ∈ s.queue, ¬ names e) →
       exec (.cancel header tag argument) s = .next { s with line := l.push (own (.refused .noSuchTag)) }) ∧
     (∀ before e after, s.queue = before ++ e :: after → names e → e.active = false →
       (s.queue.map Entry.key).Nodup →
       (let rest : LinePort := (l.push (plainAnswer e.requester e.tag (some e.kind.request) .cancelled)).push (own .done)
        (s.gapState ≠ .holding → s.gapState ≠ .stuck →
          exec (.cancel header tag argument) s = .next { s with queue := before ++ after, line := rest }) ∧
        (∀ h before', before = h :: before' → h.active = true → s.run.state ≠ .priming →
          ∃ t, exec (.cancel header tag argument) s = .next t ∧ t.queue = before ++ after ∧ t.line = rest ∧
            t.run = s.run ∧ t.faults = s.faults))) ∧
     (∀ e, s.queue = [e] → names e → e.active = true → ∃ t, exec (.cancel header tag argument) s = .next t ∧
       t.queue = [] ∧ t.line = ended e ∧ t.gap.target = s.gap.target ∧ t.gap.reference = s.gap.reference ∧
       (∀ g, e.kind = .setGap → s.gapEstimate = some g → t.gap.setpoint = s.heldInWindow g ∧ t.gap.approach = false ∧
         (s.gapState = .moving → s.heldInWindow g = g → t.gapState = .holding)) ∧
       (e.kind = .calibrate → s.gapState = .calibrating → t.gap.approach = s.gap.approach ∧
         t.gap.setpoint = s.gap.setpoint ∧ t.gap.wearAcc = s.gap.wearAcc ∧
         (s.run.state ≠ .priming → t.gapState ≠ .calibrating ∧ t.faults = s.faults)) ∧
       (e.kind = .linerChange → t.interface = s.interface ∧ t.memory = s.memory ∧
         t.gap.linerTonnes = s.gap.linerTonnes ∧ t.gap.linerWear = s.gap.linerWear ∧ t.gap.calCount = s.gap.calCount)) ∧
     (∀ e f, s.queue = [e, f] → names e → e.active = true → e.kind = .linerChange → f.kind = .setGap →
      f.active = false →
       s.gap.reference = .unreferenced → s.gapState = .holding ∨ s.gapState = .stuck →
       ∃ t, exec (.cancel header tag argument) s = .next t ∧ t.queue = [] ∧ t.line = (ended e).push
        { requester := f.requester, tag := f.tag, kind := some .setGap, outcome := .stopped .blocked, remaining := none
          reached := none, data := none }))

/-- CLEAR_FAULT (R50, R105, R148): refused with CONDITION_PRESENT while a tripping condition persists, with nothing else changed;
otherwise the Fault Record and the tramp list are emptied, a TRIPPED station is IDLE and a STUCK gap is left: W is set afresh from
G_t, the load history is empty, and a G off W by more than the hold band is moved at once. What the fault record and the run state
become is stated out of PRIMING, where the same event may let the station run. -/
def Obligations.ClearFaultEmptiesTheRecord : Prop :=
  ∀ (header : Address) (tag : BitVec 3) (s : State), s.addressedAlone header = true → s.active = true →
    s.line.receiver ≠ .waitingIdle →
    (let persists := (FaultKind.motorStopped ∈ s.faults.seen ∧ s.motorRunning = false) ∨
        s.monitor.validity.pressure = .broken ∨ s.monitor.validity.position = .broken ∨
        (∃ d, s.peers.lastDuplicate = some d ∧ s.seconds - d < s.settings.forgetTime) ∨ s.supplyLow = true
     let answered : AnswerOutcome → LinePort := fun o =>
        LinePort.push { s.line with receiver := .waitingIdle } (plainAnswer header.source tag (some .clearFault) o)
     (persists → exec (.clearFault header tag) s =
        .next { s with line := answered (.refused .conditionPresent) }) ∧
     (¬ persists → ∃ t, exec (.clearFault header tag) s = .next t ∧ t.gap.trampList = [] ∧ t.gapState ≠ .stuck ∧
        (s.run.state ≠ .priming → t.faults = { first := none, seen := [], further := false }) ∧
        (s.run.state = .tripped → t.run.state = .idle) ∧
        (s.run.state ≠ .tripped → s.run.state ≠ .priming → s.headStartable = false →
          t.run.state = s.run.state) ∧
        (s.queue = [] → t.queue = [] ∧ t.line = answered .done) ∧
        (s.gapState = .stuck → s.queue = [] → t.gap.target = s.gap.target ∧ t.gap.setpoint = s.heldInWindow s.gap.target ∧
          t.gap.history = [] ∧
          (∀ g, s.gapEstimate = some g → s.monitor.positionValid = true →
            s.settings.holdBand < gapDistance g t.gap.setpoint → t.gapState = .moving))))

/-- QUERY returns its record as it stands and changes nothing else (R149). That the share record is returned with the c_s of its
own computation, although the available capacity may have dropped since, is the model's choice (R56, log entry 38). A kind that is
none of the eight, or a QUERY of no defined item, is refused with BAD_KIND under its own kind code, or 0 for a code outside 1..8
(R143). -/
def Obligations.QueriesAndBadKindsAreAnsweredOnce : Prop :=
  ∀ (header : Address) (tag : BitVec 3) (code : Byte) (argument : Word) (s : State),
    s.addressedAlone header = true → s.active = true → s.line.receiver ≠ .waitingIdle →
    (let l : LinePort := { s.line with receiver := .waitingIdle }
     let returned : QueryData → LinePort := fun d => l.push
        { requester := header.source, tag := tag, kind := some .query, outcome := .done, remaining := none
          reached := none, data := some d }
     exec (.queryFault header tag) s =
       .next { s with line := returned (.fault s.faults s.monitor.validity) } ∧
     exec (.queryWear header tag) s = .next { s with line := returned (.wear
        { reference := s.gap.reference, lastShift := s.gap.lastShift, wearAcc := s.gap.wearAcc
          calibrationKg := s.monitor.calibrationKg, linerTonnes := s.gap.linerTonnes
          linerWear := s.gap.linerWear, calCount := s.gap.calCount
          linerWorn := decide (s.settings.linerWearLimit ≤ s.gap.linerWear)
          wearUnknown := s.gap.wearUnknown }) } ∧
     exec (.queryShare header tag) s = .next { s with line := returned (.share s.share.record) } ∧
     exec (.queryQueue header tag) s = .next { s with line := returned (.queue s.queue) } ∧
     ∃ kind, requestCode kind = (if 1 ≤ code.toNat ∧ code.toNat ≤ 8 then code.toNat else 0) ∧
       exec (.badKind header tag code argument) s =
        .next { s with line := l.push (plainAnswer header.source tag kind (.refused .badKind)) })

/-- The Request Queue stays consistent at every step (R142, R144): at most 4 entries, only the head ACTIVE, keys distinct, and no
head left waiting that could be started. -/
def Obligations.RequestQueueStaysConsistent : Prop :=
  ∀ s t : State, QueueSafe s → step s = .next t → QueueSafe t

/-! ### Line Port -/

/-- Frames the station cannot use change nothing but the receiver, which waits for the line to be idle (R20, R142, R143, R152): an
ANSWER or a discarded frame always; a STATUS addressed elsewhere, of this station's own sending, with an undefined code, while the
table is not active, from a number outside 1..30, or with a period the table cannot age by; a REQUEST not addressed to the
station's own number, or while the queue is not active. While the receiver waits for the line to be idle it has started no frame:
that a frame command then changes nothing at all is the model's choice (log entry 11). -/
def Obligations.UnusableFramesAreDiscarded : Prop :=
  ∀ (header : Address) (own : Bool) (p : StatusPayload) (d : DemandPayload) (tag : BitVec 3) (noRetry : Bool) (code : Byte)
    (argument : Word) (s : State),
    (let discarded : Host.Outcome State Fault Refusal := .next { s with line.receiver := .waitingIdle }
     let requests : List Instr :=
        [.setGap header tag noRetry argument, .calibrate header tag noRetry, .linerChange header tag noRetry,
         .cancel header tag argument, .holdFeed header tag, .releaseFeed header tag, .clearFault header tag,
         .queryFault header tag, .queryWear header tag, .queryShare header tag, .queryQueue header tag,
         .badKind header tag code argument]
     exec .answerFrameReceived s = discarded ∧ exec .frameDiscarded s = discarded ∧
     (s.addressed header = false ∨ own = true ∨ p.codesDefined = false ∨ s.active = false ∨
       header.source.toNat = 0 ∨ 30 < header.source.toNat ∨
       (header.source.toNat ≠ s.stationNumber ∧
         (p.reportPeriod.toNat * 100 < 200 ∨ 2000 < p.reportPeriod.toNat * 100)) →
       exec (.statusArrival header own p) s = discarded) ∧
     (s.addressedAlone header = false ∨ s.active = false → ∀ c ∈ requests, exec c s = discarded) ∧
     (s.line.receiver = .waitingIdle →
       ∀ c ∈ requests ++ [.statusArrival header own p, .demand header d, .run header d, .stop header d,
          .answerFrameReceived, .frameDiscarded], exec c s = .next s))

/-- An answer joins the tail of the answer queue, or is lost when 6 are held; an idle transmitter takes it at once, its counts at 0
(R153, R157). A loss sets the congestion flag and the late-loss mark of every STATUS held, in the slot and in flight, and changes
nothing else (R158). At every step at most 6 answers wait, none while no frame is in flight, and
collision count and backoff stay in their ranges (R155). -/
def Obligations.AnswerQueueKeepsBoundAndOrder : Prop :=
  (∀ (l : LinePort) (a : Answer),
    (l.answers.length < 6 → l.inFlight ≠ none → l.push a = { l with answers := l.answers ++ [a] }) ∧
    (l.inFlight = none → l.answers = [] →
      l.push a = { l with inFlight := some { frame := .answer a, driving := false }, collisions := 0, backoff := 0 }) ∧
    (6 ≤ l.answers.length → l.push a = { l with
      congested := true
      slot := l.slot.map (fun h => { h with lateLoss := true })
      inFlight := l.inFlight.map (fun f => match f.frame with
        | .status h => { f with frame := .status { h with lateLoss := true } }
        | .answer _ => f) })) ∧
  ∀ s t : State, LineSafe s → step s = .next t → LineSafe t

/-- The report timer's expiry assembles a fresh STATUS from the fields as they stand (R153, R156, R158): it takes the slot, or the
transmitter at once when that is idle, and the timer restarts. UNCONFIGURED reports the values its column of the table gives.
What an absent field carries is left open (log entry 35). -/
def Obligations.ReportExpiryAssemblesTheStatus : Prop :=
  ∀ s : State, s.run.state ≠ .starting →
    ∃ t p, exec .reportTimerExpiry s = .next t ∧ t = { s with line := t.line, freeCount := t.freeCount } ∧
      t.line.reportTimer = some (if s.run.state = .unconfigured then 500 else s.settings.reportPeriod) ∧
      (s.line.inFlight ≠ none → t.line.slot = some { payload := p, lateLoss := false } ∧
        t.line.inFlight = s.line.inFlight ∧ t.line.answers = s.line.answers) ∧
      (s.line.inFlight = none → s.line.answers = [] → t.line.slot = none ∧ t.line.collisions = 0 ∧ t.line.backoff = 0 ∧
        t.line.inFlight = some { frame := .status { payload := p, lateLoss := false }, driving := false }) ∧
      p.groupCode = s.settings.groupCode ∧ (∀ n, s.run.lastSequence = some n → p.sequence = n) ∧
      p.flags.getLsbD 6 = s.run.lastSequence.isSome ∧ p.flags.getLsbD 2 = s.line.congested ∧
      p.command.toNat = (match s.run.lastCommand with
        | none => 0
        | some .run => 1
        | some .stop => 2) ∧
      p.runState.toNat = s.run.state.code ∧
      (s.run.state = .unconfigured →
        p.kind = 0 ∧ p.gapState = 1 ∧ p.fault = 1 ∧ p.reportPeriod = 5 ∧ p.capacity = 0 ∧ p.output = 0 ∧
        p.flags.getLsbD 0 = false ∧ p.flags.getLsbD 1 = false ∧ p.flags.getLsbD 3 = false ∧
        p.flags.getLsbD 4 = false ∧ p.flags.getLsbD 5 = false) ∧
      (s.run.state ≠ .unconfigured →
        p.kind.toNat = (match s.settings.kind with
          | .none => 0
          | .primary => 1
          | .secondary => 2) ∧
        p.gapState.toNat = s.gapState.code ∧
        p.fault.toNat = (match s.faults.first with
          | none => 0
          | some f => f.kind.code) ∧
        p.reportPeriod = BitVec.ofNat 8 (s.settings.reportPeriod / 100) ∧
        p.capacity = BitVec.ofNat 16 s.share.capacity ∧ p.output = BitVec.ofNat 16 s.drive.output ∧
        p.flags.getLsbD 0 = decide (s.settings.linerWearLimit ≤ s.gap.linerWear) ∧
        p.flags.getLsbD 1 = s.gap.wearUnknown ∧ p.flags.getLsbD 3 = s.monitor.sample.isSome ∧
        p.flags.getLsbD 4 = s.gapEstimate.isSome ∧ (∀ g, s.gapEstimate = some g → p.gap = BitVec.ofNat 16 g) ∧
        (∀ l, s.monitor.sample = some l → p.throughput = BitVec.ofNat 16 l.throughput ∧
          p.power = BitVec.ofNat 16 l.power ∧ p.flags.getLsbD 5 = l.pile.isSome ∧
          ∀ n, l.pile = some n → p.pile = BitVec.ofNat 16 n))

/-- The transmitter's own events (R152 to R155, R158): an attempt drives the frame in flight and the receiver reads it; a frame
sent leaves, clears the congestion flag if it was a STATUS that carried it with no loss since, and the oldest answer or else the
STATUS in the slot follows; a collision counts and draws a backoff within its range (the draw an operand, log entry 10), and the
eighth loses the frame, which marks a STATUS in the slot late. With no frame in flight these three change nothing. LINE_IDLE makes
the receiver ready, a frame in flight or none. Which of these events comes when is the environment's (log entry 11). -/
def Obligations.TransmitterEvents : Prop :=
  ∀ (draw : BitVec 4) (s : State),
    exec .lineIdle s = .next { s with line := { s.line with receiver := .ready } } ∧
    (s.line.inFlight = none → exec .transmitAttempt s = .next s ∧ exec .frameSent s = .next s ∧
      exec (.collision draw) s = .next s) ∧
    ∀ f : InFlight, s.line.inFlight = some f →
    (let fresh : OutFrame → InFlight := fun x => { frame := x, driving := false }
     exec .transmitAttempt s = .next { s with line := { s.line with
       inFlight := some { f with driving := true }, receiver := .reading } } ∧
     (f.driving = false → exec .frameSent s = .next s ∧ exec (.collision draw) s = .next s) ∧
     (f.driving = true →
      (let reported : Bool := match f.frame with
          | .status h => h.payload.flags.getLsbD 2 && !h.lateLoss
          | .answer _ => false
       let sent : LinePort := { s.line with inFlight := none, receiver := .waitingIdle
                                            congested := s.line.congested && !reported }
       (∀ a rest, s.line.answers = a :: rest → exec .frameSent s =
          .next { s with line := { sent with
            inFlight := some (fresh (.answer a)), collisions := 0, backoff := 0, answers := rest } }) ∧
       (∀ h, s.line.answers = [] → s.line.slot = some h → exec .frameSent s =
          .next { s with line := { sent with
            inFlight := some (fresh (.status h)), collisions := 0, backoff := 0, slot := none } }) ∧
       (s.line.answers = [] → s.line.slot = none → exec .frameSent s = .next { s with line := sent })) ∧
      (s.line.collisions < 7 → ∃ k, k < 2 ^ min (s.line.collisions + 1) 4 ∧
        exec (.collision draw) s = .next { s with line := { s.line with
          inFlight := some { f with driving := false }, collisions := s.line.collisions + 1, backoff := k } }) ∧
      (7 ≤ s.line.collisions → ∃ t, exec (.collision draw) s = .next t ∧ t = { s with line := t.line } ∧
        t.line.congested = true ∧ (t.line.inFlight ≠ none → t.line.collisions = 0 ∧ t.line.backoff = 0) ∧
        (∀ a rest, s.line.answers = a :: rest → t.line.inFlight = some (fresh (.answer a)) ∧
          t.line.answers = rest ∧ t.line.slot = s.line.slot.map (fun h => { h with lateLoss := true })) ∧
        (∀ h, s.line.answers = [] → s.line.slot = some h →
          t.line.inFlight = some (fresh (.status { h with lateLoss := true })) ∧ t.line.slot = none) ∧
        (s.line.answers = [] → s.line.slot = none → t.line.inFlight = none))))

/-- What the station lays out it reads back (section 12.5, section 12.6): the 21 bytes of every STATUS payload, the 11 bytes of
every DEMAND payload, and the eight words of every wear record whose fields fit their words, which the next start finds valid
(R163). Whatever bytes are received, the row they stand for is well formed: a DEMAND under the row of the command it carries, a
refused REQUEST with its kind byte and argument, as the model names the rows (log entries 17 and 23). -/
def Obligations.LayoutsReadBack : Prop :=
  (∀ p : StatusPayload, p.bytes.length = 21 ∧ statusOfBytes p.bytes = some p) ∧
  (∀ p : DemandPayload, p.bytes.length = 11 ∧ demandOfBytes p.bytes = some p) ∧
  (∀ (r : WearRecord) (station : Nat), 1 ≤ station → station ≤ 30 → (∀ c ∈ r.contact, c ≤ 4095) →
    r.linerTonnes ≤ 65535 → r.linerWear ≤ 65535 → r.wearAcc ≤ 65535 → r.calCount ≤ 65535 →
    wearRecordValid station (fun a => r.word station a) = true ∧
    decodeWearRecord (fun a => r.word station a) = r) ∧
  ∀ (own : Bool) (bytes : List Byte), (commandOfFrame own bytes).wellFormed = true

/-- Every frame the station sends passes the receivers' checks (R151, R152, section 12.6): its payload is at most 24 bytes and its
first byte carries that length and its kind, its CRC runs out to 0 over the whole frame, it takes ten bit times a byte, and a
receiver of this kind takes it for the STATUS or the ANSWER that it is. An answer is taken as the Request Queue forms it: no
data beside a STOPPED outcome, and at most 4 entries in a QUEUE record. -/
def Obligations.SentFramesPassTheChecks : Prop :=
  ∀ (f : OutFrame) (station : Nat) (own : Bool),
    (∀ a, f = .answer a → (∀ r, a.outcome = .stopped r → a.data = none) ∧
      (∀ es, a.data = some (.queue es) → es.length ≤ 4)) →
    f.payload.length ≤ 24 ∧ (f.bytes station).length = f.payload.length + 5 ∧
    (∃ b rest, f.bytes station = b :: rest ∧ b.toNat = f.kindCode * 32 + f.payload.length) ∧
    crc16 (f.bytes station) = 0 ∧ (f.levels station).length = 10 * (f.bytes station).length ∧
    (∀ a, f = .answer a → commandOfFrame own (f.bytes station) = .answerFrameReceived) ∧
    (∀ h, f = .status h → commandOfFrame own (f.bytes station) =
      .statusArrival { source := BitVec.ofNat 8 station, destination := 31 } own h.payload)

/-! ### Setting memory, supply and faults -/

/-- The setting memory and its interface stay consistent at every step (R160, R164): the memory keeps its form, a campaign writes
words 64 to 71, and the memory is write-enabled exactly while a campaign runs. -/
def Obligations.SettingMemoryStaysConsistent : Prop :=
  ∀ s t : State, MemorySafe s → step s = .next t → MemorySafe t

/-- A campaign writes its record word by word (R160, R164): each WORD_READY leaves the words so far in the memory and sends the
next; when word 71 is ready all eight read back, and with nothing pending and no request queued the memory is write-disabled and
the interface idle. That a word is finished at WORD_READY and not before is the model's timing (log entry 16). -/
def Obligations.CampaignWritesItsWordsInOrder : Prop :=
  ∀ (s : State) (c : Campaign), s.interface.campaign = some c → c.cutOff = false → s.memory.wf = true →
    s.memory.enabled = true → 64 ≤ c.word → c.word ≤ 71 →
    s.memory.programming = some (c.word, c.record.word s.stationNumber c.word) →
    (∀ a, 64 ≤ a → a < c.word → s.memory.read a = c.record.word s.stationNumber a) →
    ∃ t, exec .wordReady s = .next t ∧
      (∀ a, 64 ≤ a → a ≤ c.word → t.memory.read a = c.record.word s.stationNumber a) ∧
      (∀ a, a ≠ c.word → t.memory.read a = s.memory.read a) ∧
      (c.word < 71 →
        t = { s with interface.campaign := some { c with word := c.word + 1, ready := 25 }, memory := t.memory } ∧
        t.memory.enabled = true ∧
        t.memory.programming = some (c.word + 1, c.record.word s.stationNumber (c.word + 1))) ∧
      (c.word = 71 → s.interface.pending = none → s.queue = [] →
        t.interface = { campaign := none, pending := none } ∧ t.memory.enabled = false ∧
        t.memory.programming = none)

/-- The end of a campaign is handed on (R128, R164), in every run state but PRIMING, where the same event may let the station
run: it disables the memory and leaves the interface idle when nothing is pending; a LINER_CHANGE that awaits it is answered DONE
when word 71 is ready and STOPPED(MEMORY) when the ready timer expires, which also reports MEMORY_TIMEOUT without a trip; a pending
record starts the next campaign when the supply is good. A campaign that timed out or was cut short leaves a record that the next
start finds invalid. When the record of a campaign is the LINER_CHANGE's own is told by the model's mark (log entry 27); what the
word holds in which a campaign was given up is left open (log entries 16, 41 and 42). -/
def Obligations.CampaignEndIsHandedOn : Prop :=
  ∀ (s : State) (c : Campaign), s.interface.campaign = some c → s.run.state ≠ .priming →
    (c.word = 71 → s.interface.pending = none →
      ∀ e, s.queue = [e] → e.active = true → e.kind = .linerChange → c.forLiner = true →
      ∃ t, exec .wordReady s = .next t ∧ t.queue = [] ∧ t.interface = { campaign := none, pending := none } ∧
        t.memory.enabled = false ∧ t.faults = s.faults ∧ t.run.state = s.run.state ∧
        t.line = s.line.push (plainAnswer e.requester e.tag (some .linerChange) .done)) ∧
    (s.interface.pending = none → ∀ e, s.queue = [e] → e.active = true → e.kind = .linerChange → c.forLiner = true →
      ∃ t, exec .readyTimerExpiry s = .next t ∧ t.queue = [] ∧
        t.interface = { campaign := none, pending := none } ∧ t.memory.enabled = false ∧
        .memoryTimeout ∈ t.faults.seen ∧ t.run.state = s.run.state ∧
        t.line = s.line.push { requester := e.requester, tag := e.tag, kind := some .linerChange
                               outcome := .stopped .memory
                               remaining := s.gapEstimate.map (fun g => gapDistance g s.gap.setpoint)
                               reached := s.gapEstimate, data := none }) ∧
    (s.interface.pending = none → s.queue = [] → s.memory.wf = true → 64 ≤ c.word → c.word ≤ 71 →
      ∃ t, exec .readyTimerExpiry s = .next t ∧ t.interface = { campaign := none, pending := none } ∧
        t.memory.enabled = false ∧ t.memory.programming = none ∧ .memoryTimeout ∈ t.faults.seen ∧
        (∀ a, a ≠ c.word → t.memory.read a = s.memory.read a) ∧
        ∀ straps, wearRecordValid straps t.memory.read = false) ∧
    (∀ r, c.word = 71 ∨ c.cutOff = true → s.interface.pending = some r → s.supplyLow = false → s.queue = [] →
      ∃ t, exec .wordReady s = .next t ∧ t.interface.pending = none ∧ t.memory.enabled = true ∧
        ∃ c', t.interface.campaign = some c' ∧ c'.record = r ∧ c'.word = 64 ∧ c'.ready = 25 ∧ c'.cutOff = false) ∧
    (c.word ≠ 71 → c.cutOff = true → s.interface.pending = none → s.queue = [] →
      ∃ t, exec .wordReady s = .next t ∧ t.interface = { campaign := none, pending := none } ∧
        t.memory.enabled = false ∧ t.faults = s.faults ∧ t.run.state = s.run.state ∧
        (∀ a, a ≠ c.word → t.memory.read a = s.memory.finish.read a) ∧
        (s.memory.wf = true → 64 ≤ c.word → c.word ≤ 71 → ∀ straps, wearRecordValid straps t.memory.read = false))

/-- A fault report (R166, R49): it fills an empty first-fault record with the kind, the time count, the run state before the report
takes effect, G and the present pressure; a full one stays and further faults is set; the kind is seen. A tripping kind makes an
active station TRIPPED: its timers stopped, its feeder and capacity 0, its ACTIVE entry answered STOPPED(TRIPPED) with the
distances as they stand, then every WAITING one CANCELLED in queue order, its queue empty, its move or calibration ended, and
relief, re-closing and STUCK left as they are. -/
def Obligations.FaultReportFillsTheRecordAndTrips : Prop :=
  ∀ (k : FaultKind) (trips : Bool) (s : State),
    (let t := report k trips s
     (s.faults.first = none → t.faults.first =
        some { kind := k, seconds := s.seconds, runState := s.run.state, gap := s.gapEstimate
               pressure := s.presentPressure } ∧ t.faults.further = s.faults.further) ∧
     (∀ f, s.faults.first = some f → t.faults.first = some f ∧ t.faults.further = true) ∧
     (∀ k', k' ∈ t.faults.seen ↔ k' = k ∨ k' ∈ s.faults.seen) ∧
     (trips = false ∨ s.run.state.trippable = false → t = { s with faults := t.faults }) ∧
     (trips = true → s.run.state.trippable = true →
      t.run.state = .tripped ∧ t.run.primingTimer = none ∧ t.run.clearTimer = none ∧ t.drive.output = 0 ∧
      t.drive.setpoint = 0 ∧ t.share.capacity = 0 ∧ t.queue = [] ∧ t.gap.approach = s.gap.approach ∧
      t.gap.reference = s.gap.reference ∧ t.gap.setpoint = s.gap.setpoint ∧ t.gap.target = s.gap.target ∧
      (s.run.state = .running → t.gap.history = []) ∧
      t.gap.activity = (if s.gapState = .moving ∨ s.gapState = .calibrating then .holding else s.gap.activity) ∧
      (s.queue = [] → t.line = s.line) ∧
      (∀ e rest, s.queue = e :: rest → (∀ f ∈ rest, f.active = false) → t.line =
        (rest.map (fun f => plainAnswer f.requester f.tag (some f.kind.request) .cancelled)).foldl LinePort.push
          (s.line.push (if e.active = true then
              { requester := e.requester, tag := e.tag, kind := some e.kind.request, outcome := .stopped .tripped
                remaining := s.gapEstimate.map (fun g => gapDistance g s.gap.setpoint), reached := s.gapEstimate
                data := none }
            else plainAnswer e.requester e.tag (some e.kind.request) .cancelled)))))
end

