-- ==== Sys2Proof/Laws/Line.lean ====
section
/-!
SUPPORT. What the Line Port's shared operations do (R153, R157, R158): the transmitter takes its next frame, an answer is
handed on, a frame is lost.
-/

namespace Sys2Proof.Machine

/-- A busy transmitter takes nothing. -/
theorem LinePort.takeNext_busy {l : LinePort} {f : InFlight} (h : l.inFlight = some f) : l.takeNext = l := by
  simp only [LinePort.takeNext, h]

/-- An idle transmitter takes the oldest answer. -/
theorem LinePort.takeNext_answer {l : LinePort} {a : Answer} {rest : List Answer} (h : l.inFlight = none)
    (ha : l.answers = a :: rest) :
    l.takeNext = { l with
      inFlight := some { frame := .answer a, driving := false }, collisions := 0, backoff := 0, answers := rest } := by
  simp only [LinePort.takeNext, h, ha]

/-- An idle transmitter without answers takes the STATUS in the slot. -/
theorem LinePort.takeNext_status {l : LinePort} {f : HeldStatus} (h : l.inFlight = none) (ha : l.answers = [])
    (hs : l.slot = some f) :
    l.takeNext = { l with
      inFlight := some { frame := .status f, driving := false }, collisions := 0, backoff := 0, slot := none } := by
  simp only [LinePort.takeNext, h, ha, hs]

/-- An idle transmitter with nothing waiting stays idle. -/
theorem LinePort.takeNext_idle {l : LinePort} (ha : l.answers = []) (hs : l.slot = none) : l.takeNext = l := by
  cases h : l.inFlight <;> simp only [LinePort.takeNext, h, ha, hs]

/-- Taking the next frame touches the frame in flight with its counts, the slot and the answers only. -/
theorem LinePort.takeNext_frame (l : LinePort) :
    l.takeNext = { l with inFlight := l.takeNext.inFlight, collisions := l.takeNext.collisions
                          backoff := l.takeNext.backoff, slot := l.takeNext.slot, answers := l.takeNext.answers } := by
  unfold LinePort.takeNext; split <;> rfl

/-- Taking the next frame never lengthens the answer queue. -/
theorem LinePort.takeNext_answers_length (l : LinePort) : l.takeNext.answers.length ≤ l.answers.length := by
  unfold LinePort.takeNext; split <;> simp_all

/-- After it, nothing waits while no frame is in flight. -/
theorem LinePort.takeNext_conserves (l : LinePort) :
    l.takeNext.inFlight = none → l.takeNext.answers = [] ∧ l.takeNext.slot = none := by
  unfold LinePort.takeNext
  split <;> simp_all
  intro h
  cases ha : l.answers with
  | nil => cases hs : l.slot with
    | none => exact ⟨rfl, rfl⟩
    | some f => simp_all
  | cons a rest => simp_all

/-- A loss touches the congestion flag and the late-loss marks only. -/
theorem LinePort.lose_frame (l : LinePort) :
    l.lose = { l with congested := true, slot := l.lose.slot, inFlight := l.lose.inFlight } := rfl

/-- A loss keeps a frame in flight as it was but for its mark. -/
theorem LinePort.lose_inFlight_isSome (l : LinePort) : l.lose.inFlight.isSome = l.inFlight.isSome := by
  simp [LinePort.lose]

/-- Room in the answer queue: the answer joins its tail. -/
theorem LinePort.push_room {l : LinePort} (a : Answer) (h : l.answers.length < 6) :
    l.push a = LinePort.takeNext { l with answers := l.answers ++ [a] } := by simp only [LinePort.push, h, if_true]

/-- No room: the answer is lost. -/
theorem LinePort.push_full {l : LinePort} (a : Answer) (h : 6 ≤ l.answers.length) : l.push a = l.lose := by
  simp only [LinePort.push, Nat.not_lt.mpr h, if_false]

/-- Handing on an answer touches neither the receiver nor the report timer. -/
theorem LinePort.push_frame (l : LinePort) (a : Answer) :
    l.push a = { l with inFlight := (l.push a).inFlight, collisions := (l.push a).collisions
                        backoff := (l.push a).backoff, slot := (l.push a).slot, answers := (l.push a).answers
                        congested := (l.push a).congested } := by
  unfold LinePort.push
  split
  · rw [LinePort.takeNext_frame]
  · rfl

/-- The receiver at an answer. -/
@[simp] theorem LinePort.push_receiver (l : LinePort) (a : Answer) : (l.push a).receiver = l.receiver :=
  by rw [l.push_frame a]

/-- The report timer at an answer. -/
@[simp] theorem LinePort.push_reportTimer (l : LinePort) (a : Answer) : (l.push a).reportTimer = l.reportTimer :=
  by rw [l.push_frame a]

/-- The answer queue keeps its bound of 6. -/
theorem LinePort.push_answers_length {l : LinePort} (a : Answer) (h : l.answers.length ≤ 6) :
    (l.push a).answers.length ≤ 6 := by
  by_cases h6 : l.answers.length < 6
  · rw [LinePort.push_room a h6]
    exact le_trans (LinePort.takeNext_answers_length _) (by simp; omega)
  · rw [LinePort.push_full a (by omega)]; exact h

/-- Nothing waits while no frame is in flight, after an answer as before it. -/
theorem LinePort.push_conserves {l : LinePort} (a : Answer)
    (h : l.inFlight = none → l.answers = [] ∧ l.slot = none) :
    (l.push a).inFlight = none → (l.push a).answers = [] ∧ (l.push a).slot = none := by
  by_cases h6 : l.answers.length < 6
  · rw [LinePort.push_room a h6]; exact LinePort.takeNext_conserves _
  · rw [LinePort.push_full a (by omega)]
    intro hn
    have hi : l.inFlight = none := by simpa [LinePort.lose] using hn
    have hl := h hi
    rw [hl.1] at h6
    exact absurd (show ([] : List Answer).length < 6 by decide) h6

/-! ### A frame at the receiver (R152) -/

/-- A receiver that waits for the line to be idle takes no frame. -/
theorem onFrame_waiting (act : State → State) {s : State} (h : s.line.receiver = .waitingIdle) : onFrame act s = s := by
  simp only [onFrame, h, if_true]

/-- Any other receiver takes the frame to its end. -/
theorem onFrame_taken (act : State → State) {s : State} (h : s.line.receiver ≠ .waitingIdle) :
    onFrame act s = act (frameEnds s) := by simp only [onFrame, if_neg h]

end Sys2Proof.Machine
end

