-- ==== Sys2Proof/Laws/Memory.lean ====
section
/-!
SUPPORT. The setting memory (R160): every operation keeps its canonical form, and what a READ returns after each.
-/

namespace Sys2Proof.Machine

/-! ### The list of words -/

/-- A form that holds from `lo` holds from any lower bound. -/
theorem cellsWf_mono {lo lo' : Nat} (h : lo' ≤ lo) : ∀ {l : List (Nat × Word)}, cellsWf lo l = true → cellsWf lo' l = true
  | [], _ => rfl
  | (k, v) :: rest, hl => by
    simp only [cellsWf, Bool.and_eq_true, decide_eq_true_eq] at hl ⊢
    exact ⟨⟨⟨le_trans h hl.1.1.1, hl.1.1.2⟩, hl.1.2⟩, hl.2⟩

/-- A word below every listed address reads 0. -/
theorem readCells_below : ∀ {lo a : Nat} {l : List (Nat × Word)}, cellsWf lo l = true → a < lo → readCells l a = 0
  | _, _, [], _, _ => rfl
  | lo, a, (k, v) :: rest, hl, ha => by
    simp only [cellsWf, Bool.and_eq_true, decide_eq_true_eq] at hl
    have hk : k ≠ a := by omega
    simp only [readCells, if_neg hk]
    exact readCells_below hl.2 (by omega)

/-- The form of a list with a first word. -/
theorem cellsWf_cons {lo k : Nat} {v : Word} {rest : List (Nat × Word)} :
    cellsWf lo ((k, v) :: rest) = true ↔ lo ≤ k ∧ k < 256 ∧ v ≠ 0 ∧ cellsWf (k + 1) rest = true := by
  simp only [cellsWf, Bool.and_eq_true, decide_eq_true_eq, and_assoc]

/-- Storing a word keeps the list's form. -/
theorem writeCells_wf {a : Nat} (v : Word) (ha : a < 256) :
    ∀ {lo : Nat} {l : List (Nat × Word)}, lo ≤ a → cellsWf lo l = true → cellsWf lo (writeCells a v l) = true
  | lo, [], hlo, _ => by
    simp only [writeCells]
    split
    · rfl
    · next hv => exact cellsWf_cons.2 ⟨hlo, ha, hv, rfl⟩
  | lo, (k, w) :: rest, hlo, hl => by
    obtain ⟨h1, h2, h3, h4⟩ := cellsWf_cons.1 hl
    simp only [writeCells]
    split
    · next hak =>
      split
      · exact hl
      · next hv => exact cellsWf_cons.2 ⟨hlo, ha, hv, cellsWf_cons.2 ⟨hak, h2, h3, h4⟩⟩
    · split
      · next hak =>
        subst hak
        split
        · exact cellsWf_mono (by omega) h4
        · next hv => exact cellsWf_cons.2 ⟨hlo, ha, hv, h4⟩
      · next h5 h6 => exact cellsWf_cons.2 ⟨h1, h2, h3, writeCells_wf v ha (by omega) h4⟩

/-- A word just stored reads back. -/
theorem readCells_writeCells_same {a : Nat} (v : Word) :
    ∀ {lo : Nat} {l : List (Nat × Word)}, cellsWf lo l = true → readCells (writeCells a v l) a = v
  | _, [], _ => by
    simp only [writeCells]
    split
    · next hv => exact hv.symm
    · simp only [readCells, if_true]
  | lo, (k, w) :: rest, hl => by
    obtain ⟨_, _, _, h4⟩ := cellsWf_cons.1 hl
    simp only [writeCells]
    split
    · next hak =>
      split
      · next hv =>
        have hk : k ≠ a := by omega
        simp only [readCells, if_neg hk, hv]
        exact readCells_below h4 (by omega)
      · simp only [readCells, if_true]
    · split
      · next hak =>
        subst hak
        split
        · next hv => rw [hv]; exact readCells_below h4 (by omega)
        · simp only [readCells, if_true]
      · next h5 h6 =>
        have hk : k ≠ a := by omega
        simp only [readCells, if_neg hk]
        exact readCells_writeCells_same v h4

/-- Storing a word leaves every other word as it was. -/
theorem readCells_writeCells_other {a b : Nat} (v : Word) (hab : b ≠ a) :
    ∀ (l : List (Nat × Word)), readCells (writeCells a v l) b = readCells l b
  | [] => by
    simp only [writeCells]
    split
    · rfl
    · simp only [readCells, if_neg (Ne.symm hab)]
  | (k, w) :: rest => by
    have ih := readCells_writeCells_other v hab rest
    simp only [writeCells]
    split
    · split
      · rfl
      · simp only [readCells, if_neg (Ne.symm hab)]
    · split
      · next hak =>
        subst hak
        split <;> simp only [readCells, if_neg (Ne.symm hab)]
      · simp only [readCells, ih]

/-! ### The memory's operations keep its form -/

/-- The memory finishes the word it is programming. -/
theorem Memory.finish_wf {m : Memory} (h : m.wf = true) : m.finish.wf = true := by
  unfold Memory.finish
  split
  · exact h
  · next a v hp =>
    simp only [Memory.wf, hp, Bool.and_eq_true, decide_eq_true_eq] at h ⊢
    exact ⟨writeCells_wf v h.2 (Nat.zero_le a) h.1, trivial⟩

/-- WRITE of one of the 256 words. -/
theorem Memory.write_wf {m : Memory} {a : Nat} (v : Word) (ha : a < 256) (h : m.wf = true) : (m.write a v).wf = true := by
  unfold Memory.write
  split
  · have h' := Memory.finish_wf h
    simp only [Memory.wf, Bool.and_eq_true, decide_eq_true_eq] at h' ⊢
    exact ⟨h'.1, ha⟩
  · exact h

/-- A word that is given up. -/
theorem Memory.spoil_wf {m : Memory} {a : Nat} (v : Word) (ha : a < 256) (h : m.wf = true) : (m.spoil a v).wf = true := by
  simp only [Memory.wf, Bool.and_eq_true] at h
  simp only [Memory.wf, Memory.spoil, Bool.and_true]
  exact writeCells_wf _ ha (Nat.zero_le a) h.1

/-- WRITE_ENABLE and WRITE_DISABLE. -/
theorem Memory.setEnabled_wf {m : Memory} (on : Bool) (h : m.wf = true) : (m.setEnabled on).wf = true := h

/-- A memory written from outside. -/
theorem imageCells_wf (image : List (BitVec 8 × Word)) : cellsWf 0 (imageCells image) = true := by
  have key : ∀ (l : List (BitVec 8 × Word)) (cells : List (Nat × Word)), cellsWf 0 cells = true →
      cellsWf 0 (l.foldl (fun cells e => writeCells e.1.toNat e.2 cells) cells) = true := by
    intro l
    induction l with
    | nil => exact fun _ h => h
    | cons e rest ih => exact fun cells h => ih _ (writeCells_wf e.2 e.1.isLt (Nat.zero_le _) h)
  exact key image [] rfl

/-- The memory that answers a start sequence. -/
theorem startMemory_wf {m : Memory} (source : StartMemory) (h : m.wf = true) : (startMemory m source).wf = true := by
  cases source with
  | kept => exact Memory.finish_wf h
  | fitted image => simp [startMemory, Memory.wf, imageCells_wf]

/-- The memory after reset. -/
theorem reset_memory_wf : State.reset.memory.wf = true := rfl

/-! ### What a READ returns after each -/

/-- Finishing a word makes it readable. -/
theorem Memory.finish_read_same {m : Memory} {a : Nat} {v : Word} (h : m.wf = true) (hp : m.programming = some (a, v)) :
    m.finish.read a = v := by
  simp only [Memory.wf, Bool.and_eq_true] at h
  simp only [Memory.finish, hp, Memory.read]
  exact readCells_writeCells_same v h.1

/-- Finishing a word leaves every other word as it was. -/
theorem Memory.finish_read_other {m : Memory} {a b : Nat} {v : Word} (hp : m.programming = some (a, v)) (hb : b ≠ a) :
    m.finish.read b = m.read b := by
  simp only [Memory.finish, hp, Memory.read]
  exact readCells_writeCells_other v hb m.cells

/-- With no word in progress there is nothing to finish. -/
theorem Memory.finish_idle {m : Memory} (hp : m.programming = none) : m.finish = m := by simp only [Memory.finish, hp]

/-- A finished memory programs nothing. -/
@[simp] theorem Memory.finish_programming (m : Memory) : m.finish.programming = none := by
  unfold Memory.finish; split <;> simp_all

/-- Finishing a word leaves write-enable as it is. -/
@[simp] theorem Memory.finish_enabled (m : Memory) : m.finish.enabled = m.enabled := by unfold Memory.finish; split <;> rfl

/-- WRITE while enabled begins the word, on the memory with the word before it finished. -/
theorem Memory.write_enabled {m : Memory} (a : Nat) (v : Word) (h : m.enabled = true) :
    m.write a v = { m.finish with programming := some (a, v) } := by simp only [Memory.write, h, if_true]

/-- WRITE while disabled is ignored. -/
theorem Memory.write_disabled {m : Memory} (a : Nat) (v : Word) (h : m.enabled = false) : m.write a v = m := by
  simp [Memory.write, h]

/-- WRITE leaves write-enable as it is. -/
@[simp] theorem Memory.write_keeps_enabled (m : Memory) (a : Nat) (v : Word) : (m.write a v).enabled = m.enabled := by
  unfold Memory.write; split <;> simp

/-- WRITE changes no word that reads back, but for the one it finishes. -/
theorem Memory.write_read {m : Memory} {a b : Nat} {v : Word} (h : m.enabled = true) :
    (m.write a v).read b = m.finish.read b := by rw [Memory.write_enabled a v h]; rfl

/-- A word that is given up leaves every other word as it was. -/
theorem Memory.spoil_read_other (m : Memory) {a b : Nat} (v : Word) (hb : b ≠ a) : (m.spoil a v).read b = m.read b :=
  readCells_writeCells_other _ hb m.cells

/-- Adding 1 to one of the eight words moves their sum off 0 (R164). -/
theorem wordSum_succ_ne {f g : Nat → Word} {a : Nat} (h64 : 64 ≤ a) (h71 : a ≤ 71) (ha : g a = f a + 1)
    (ho : ∀ b, b ≠ a → g b = f b) (hf : wordSum f 64 8 = 0) : wordSum g 64 8 ≠ 0 := by
  have key : ∀ x : Word, (x + 1).toNat = x.toNat + 1 ∨ ((x + 1).toNat = 0 ∧ x.toNat = 65535) := by
    intro x
    have hx := x.isLt
    have h1 : (1 : Word).toNat = 1 := rfl
    rw [BitVec.toNat_add, h1]
    omega
  have h1 := key (f a)
  rw [← ha] at h1
  simp only [wordSum, List.range, List.range.loop, List.map, List.sum_cons, List.sum_nil] at hf ⊢
  interval_cases a
  all_goals
    simp only [ho 64, ho 65, ho 66, ho 67, ho 68, ho 69, ho 70, ho 71, ne_eq, Nat.reduceEqDiff, not_false_eq_true,
      Nat.reduceAdd] at hf h1 ⊢
    omega

/-- A word of the record that is given up leaves words that do not sum to 0 (R164). -/
theorem Memory.spoil_sum {m : Memory} {a : Nat} (v : Word) (h : m.wf = true) (h64 : 64 ≤ a) (h71 : a ≤ 71) :
    wordSum (m.spoil a v).read 64 8 ≠ 0 := by
  simp only [Memory.wf, Bool.and_eq_true] at h
  show wordSum (readCells (writeCells a (spoiledWord m.cells a v) m.cells)) 64 8 ≠ 0
  unfold spoiledWord
  split
  · next h0 =>
    refine wordSum_succ_ne (f := readCells (writeCells a v m.cells)) h64 h71 ?_ ?_ h0
    · rw [readCells_writeCells_same _ h.1, readCells_writeCells_same _ h.1]
    · intro b hb
      rw [readCells_writeCells_other _ hb, readCells_writeCells_other _ hb]
  · next h0 => exact h0

/-- The next start finds such a record invalid (R163, R164). -/
theorem Memory.spoil_invalid {m : Memory} {a : Nat} (v : Word) (station : Nat) (h : m.wf = true) (h64 : 64 ≤ a)
    (h71 : a ≤ 71) : wearRecordValid station (m.spoil a v).read = false := by
  simp [wearRecordValid, Memory.spoil_sum v h h64 h71]

/-! ### A campaign that is cut short -/

/-- A campaign that is cut short keeps the memory's form. -/
theorem cutShort_wf {c : Campaign} {s : State} (h : s.memory.wf = true) (hc : c.word < 256) :
    (cutShort c s).memory.wf = true := by
  unfold cutShort
  split
  · exact Memory.spoil_wf _ hc h
  · exact h

/-- It leaves every word but its last as it was. -/
theorem cutShort_read_other (c : Campaign) (s : State) {a : Nat} (ha : a ≠ c.word) :
    (cutShort c s).memory.read a = s.memory.read a := by
  unfold cutShort
  split
  · exact Memory.spoil_read_other _ _ ha
  · rfl

/-- The next start finds the record it leaves invalid (R163, R164). -/
theorem cutShort_invalid {c : Campaign} {s : State} (station : Nat) (h : s.memory.wf = true) (h64 : 64 ≤ c.word)
    (h71 : c.word ≤ 71) : wearRecordValid station (cutShort c s).memory.read = false := by
  unfold cutShort
  split
  · exact Memory.spoil_invalid _ station h h64 h71
  · next h0 => simp [wearRecordValid, h0]

/-- It writes the setting memory and the model's counter, and nothing else. -/
theorem cutShort_frame (c : Campaign) (s : State) :
    cutShort c s = { s with memory := (cutShort c s).memory, freeCount := (cutShort c s).freeCount } := by
  unfold cutShort
  split <;> rfl

/-- Write-enable has no part in a READ. -/
@[simp] theorem Memory.setEnabled_read (m : Memory) (on : Bool) (a : Nat) : (m.setEnabled on).read a = m.read a := rfl

end Sys2Proof.Machine
end

