-- ==== Sys2Proof/Laws/Ops.lean ====
section
/-!
SUPPORT. What each shared operation can change. `State.fixed` blanks every field that the operations at the end of an event
may write; that each of them keeps `fixed` says once that it writes nothing else.
-/

namespace Sys2Proof.Machine

/-- The state with those fields blanked that a change of run state, gap state or feeder output may write, and what goes with it: W
and approach pending, the load history, the jump window, the request queue with its answers, and the Fault Record. -/
def State.still (s : State) : State :=
  { s with
    monitor.nofeed := false
    run := { s.run with state := .starting, primingTimer := none, clearTimer := none }
    share.capacity := 0
    drive := { s.drive with setpoint := 0, output := 0 }
    gap := { s.gap with setpoint := 0, approach := false, activity := .holding, history := [], jumpWindow := [] }
    queue := []
    line := { s.line with inFlight := none, collisions := 0, backoff := 0, slot := none, answers := []
                          congested := false }
    faults := { first := none, seen := [], further := false } }

/-- The state with every field blanked that any operation of Ops.lean may write, the start of a queued request included. What is left
is written by the meanings themselves: the queue of commands, the time, the settings, the level pins, the sample and the
readings, the peers, the accepted demand, the share record and latches, the span, the reading clock, tramp detection, the
receiver and every other timer. -/
def State.fixed (s : State) : State :=
  { s.still with
    monitor := { s.still.monitor with calibrationKg := 0, linerKg := 0 }
    gap := { GapController.reset with
      span := s.gap.span, armed := s.gap.armed, lastDetection := s.gap.lastDetection
      readingClock := s.gap.readingClock, trampList := s.gap.trampList }
    interface := { campaign := none, pending := none }
    memory := { cells := [], enabled := false, programming := none } }

/-! ### Operations that write only what `still` blanks -/

@[simp] theorem setOutput_still (a : Nat) (s : State) : (setOutput a s).still = s.still := rfl

@[simp] theorem zeroIfZeroed_still (s : State) : (zeroIfZeroed s).still = s.still := by
  unfold zeroIfZeroed; split <;> rfl

@[simp] theorem dropCapacity_still (s : State) : (dropCapacity s).still = s.still := by
  unfold dropCapacity; split <;> rfl

@[simp] theorem setW_still (w : Nat) (s : State) : (setW w s).still = s.still := rfl

@[simp] theorem setAfresh_still (s : State) : (setAfresh s).still = s.still := rfl

@[simp] theorem holdW_still (s : State) : (holdW s).still = s.still := by unfold holdW; split <;> rfl

@[simp] theorem restW_still (s : State) : (restW s).still = s.still := by unfold restW; split <;> rfl

@[simp] theorem emptyJumpIfOpening_still (s : State) : (emptyJumpIfOpening s).still = s.still := by
  unfold emptyJumpIfOpening; split <;> rfl

@[simp] theorem setActivity_still (act : Activity) (s : State) : (setActivity act s).still = s.still := by
  have h : ∀ s : State, ({ s with gap.activity := act } : State).still = s.still := fun _ => rfl
  simp only [setActivity, emptyJumpIfOpening_still, zeroIfZeroed_still, dropCapacity_still, h]
  split <;> rfl

@[simp] theorem updateActivity_still (act : Activity) (s : State) : (updateActivity act s).still = s.still := by
  rw [updateActivity, emptyJumpIfOpening_still]; rfl

@[simp] theorem push_still (s : State) (l : LinePort) (h : l.receiver = s.line.receiver)
    (h' : l.reportTimer = s.line.reportTimer) : ({ s with line := l } : State).still = s.still := by
  simp only [State.still, h, h']

@[simp] theorem answer_still (a : Answer) (s : State) : (State.answer a s).still = s.still :=
  push_still s _ (LinePort.push_receiver _ _) (LinePort.push_reportTimer _ _)

@[simp] theorem endActive_still (o : AnswerOutcome) (s : State) : (endActive o s).still = s.still := by
  unfold endActive
  split
  · split
    · simp only [State.still, LinePort.push_receiver, LinePort.push_reportTimer]
    · rfl
  · rfl

@[simp] theorem endActiveOf_still (k : QueuedKind) (o : AnswerOutcome) (s : State) :
    (endActiveOf k o s).still = s.still := by unfold endActiveOf; split <;> simp

/-- A run of answers touches neither the receiver nor the report timer. -/
theorem pushAll_frame (f : Entry → Answer) (es : List Entry) (l : LinePort) :
    (es.foldl (fun l e => l.push (f e)) l).receiver = l.receiver ∧
      (es.foldl (fun l e => l.push (f e)) l).reportTimer = l.reportTimer := by
  induction es generalizing l with
  | nil => exact ⟨rfl, rfl⟩
  | cons e rest ih => simpa using ih (l.push (f e))

@[simp] theorem flushQueue_still (s : State) : (flushQueue s).still = s.still := by
  have h := pushAll_frame (fun e => s.entryAnswer e (if e.active then .stopped .tripped else .cancelled)) s.queue s.line
  simp only [flushQueue, State.still, h.1, h.2]

@[simp] theorem changeRun_still (r : RunState) (s : State) : (changeRun r s).still = s.still := by
  simp only [changeRun, zeroIfZeroed_still, dropCapacity_still]; rfl

@[simp] theorem endForTrip_still (s : State) : (endForTrip s).still = s.still := by
  unfold endForTrip; split <;> simp

@[simp] theorem trip_still (s : State) : (trip s).still = s.still := by simp [trip]

@[simp] theorem noteFault_still (k : FaultKind) (s : State) : (noteFault k s).still = s.still := rfl

@[simp] theorem report_still (k : FaultKind) (trips : Bool) (s : State) : (report k trips s).still = s.still := by
  unfold report; split <;> simp

@[simp] theorem enterRun_still (r : RunState) (s : State) : (enterRun r s).still = s.still := by
  unfold enterRun; split <;> simp

@[simp] theorem arrive_still (s : State) : (arrive s).still = s.still := by rw [arrive, setActivity_still]; rfl

@[simp] theorem endSetGapReached_still (s : State) : (endSetGapReached s).still = s.still := by
  unfold endSetGapReached
  split
  · split <;> simp
  · rfl

@[simp] theorem moveCrossing_still (s : State) : (moveCrossing s).still = s.still := by
  unfold moveCrossing
  split
  · split <;> simp
  · rfl

@[simp] theorem backingArrival_still (s : State) : (backingArrival s).still = s.still := by
  unfold backingArrival
  split
  · split
    · split <;> simp
    · rfl
  · rfl

@[simp] theorem reclosingArrival_still (s : State) : (reclosingArrival s).still = s.still := by
  unfold reclosingArrival
  split
  · split <;> simp
  · rfl

@[simp] theorem testW_still (s : State) : (testW s).still = s.still := by unfold testW; split <;> simp

@[simp] theorem targetChanged_still (s : State) : (targetChanged s).still = s.still := by
  unfold targetChanged; split <;> simp

@[simp] theorem reversalTest_still (s : State) : (reversalTest s).still = s.still := by
  unfold reversalTest
  split
  · split <;> simp
  · rfl

@[simp] theorem wearChanged_still (s : State) : (wearChanged s).still = s.still := by unfold wearChanged; split <;> simp

@[simp] theorem startMove_still (g : Nat) (s : State) : (startMove g s).still = s.still := by simp [startMove]

@[simp] theorem moveTest_still (s : State) : (moveTest s).still = s.still := by
  unfold moveTest
  split
  · split <;> simp
  · rfl

@[simp] theorem startCalibration_still (k : CalKind) (s : State) : (startCalibration k s).still = s.still := by
  simp [startCalibration]

@[simp] theorem internalCalibrationTest_still (s : State) : (internalCalibrationTest s).still = s.still := by
  unfold internalCalibrationTest; split <;> simp

@[simp] theorem stopCalibration_still (s : State) : (stopCalibration s).still = s.still := by simp [stopCalibration]

@[simp] theorem startRequestedCalibration_still (s : State) : (startRequestedCalibration s).still = s.still := by
  unfold startRequestedCalibration; split <;> simp

@[simp] theorem primingTest_still (s : State) : (primingTest s).still = s.still := by
  unfold primingTest; split <;> simp

/-! ### They write only what `fixed` blanks too -/

/-- What keeps `still` keeps `fixed`. -/
theorem State.fixed_of_still {s t : State} (h : s.still = t.still) : s.fixed = t.fixed := by
  have h' := congrArg State.fixed h
  exact h'

@[simp] theorem setOutput_fixed (a : Nat) (s : State) : (setOutput a s).fixed = s.fixed :=
  State.fixed_of_still (setOutput_still a s)

@[simp] theorem zeroIfZeroed_fixed (s : State) : (zeroIfZeroed s).fixed = s.fixed :=
  State.fixed_of_still (zeroIfZeroed_still s)

@[simp] theorem dropCapacity_fixed (s : State) : (dropCapacity s).fixed = s.fixed :=
  State.fixed_of_still (dropCapacity_still s)

@[simp] theorem setW_fixed (w : Nat) (s : State) : (setW w s).fixed = s.fixed :=
  State.fixed_of_still (setW_still w s)

@[simp] theorem setAfresh_fixed (s : State) : (setAfresh s).fixed = s.fixed :=
  State.fixed_of_still (setAfresh_still s)

@[simp] theorem holdW_fixed (s : State) : (holdW s).fixed = s.fixed :=
  State.fixed_of_still (holdW_still s)

@[simp] theorem restW_fixed (s : State) : (restW s).fixed = s.fixed :=
  State.fixed_of_still (restW_still s)

@[simp] theorem emptyJumpIfOpening_fixed (s : State) : (emptyJumpIfOpening s).fixed = s.fixed :=
  State.fixed_of_still (emptyJumpIfOpening_still s)

@[simp] theorem setActivity_fixed (act : Activity) (s : State) : (setActivity act s).fixed = s.fixed :=
  State.fixed_of_still (setActivity_still act s)

@[simp] theorem updateActivity_fixed (act : Activity) (s : State) : (updateActivity act s).fixed = s.fixed :=
  State.fixed_of_still (updateActivity_still act s)

@[simp] theorem answer_fixed (a : Answer) (s : State) : (State.answer a s).fixed = s.fixed :=
  State.fixed_of_still (answer_still a s)

@[simp] theorem endActive_fixed (o : AnswerOutcome) (s : State) : (endActive o s).fixed = s.fixed :=
  State.fixed_of_still (endActive_still o s)

@[simp] theorem endActiveOf_fixed (k : QueuedKind) (o : AnswerOutcome) (s : State) :
    (endActiveOf k o s).fixed = s.fixed :=
  State.fixed_of_still (endActiveOf_still k o s)

@[simp] theorem flushQueue_fixed (s : State) : (flushQueue s).fixed = s.fixed :=
  State.fixed_of_still (flushQueue_still s)

@[simp] theorem changeRun_fixed (r : RunState) (s : State) : (changeRun r s).fixed = s.fixed :=
  State.fixed_of_still (changeRun_still r s)

@[simp] theorem endForTrip_fixed (s : State) : (endForTrip s).fixed = s.fixed :=
  State.fixed_of_still (endForTrip_still s)

@[simp] theorem trip_fixed (s : State) : (trip s).fixed = s.fixed :=
  State.fixed_of_still (trip_still s)

@[simp] theorem noteFault_fixed (k : FaultKind) (s : State) : (noteFault k s).fixed = s.fixed :=
  State.fixed_of_still (noteFault_still k s)

@[simp] theorem report_fixed (k : FaultKind) (trips : Bool) (s : State) : (report k trips s).fixed = s.fixed :=
  State.fixed_of_still (report_still k trips s)

@[simp] theorem enterRun_fixed (r : RunState) (s : State) : (enterRun r s).fixed = s.fixed :=
  State.fixed_of_still (enterRun_still r s)

@[simp] theorem arrive_fixed (s : State) : (arrive s).fixed = s.fixed :=
  State.fixed_of_still (arrive_still s)

@[simp] theorem endSetGapReached_fixed (s : State) : (endSetGapReached s).fixed = s.fixed :=
  State.fixed_of_still (endSetGapReached_still s)

@[simp] theorem moveCrossing_fixed (s : State) : (moveCrossing s).fixed = s.fixed :=
  State.fixed_of_still (moveCrossing_still s)

@[simp] theorem backingArrival_fixed (s : State) : (backingArrival s).fixed = s.fixed :=
  State.fixed_of_still (backingArrival_still s)

@[simp] theorem reclosingArrival_fixed (s : State) : (reclosingArrival s).fixed = s.fixed :=
  State.fixed_of_still (reclosingArrival_still s)

@[simp] theorem testW_fixed (s : State) : (testW s).fixed = s.fixed :=
  State.fixed_of_still (testW_still s)

@[simp] theorem targetChanged_fixed (s : State) : (targetChanged s).fixed = s.fixed :=
  State.fixed_of_still (targetChanged_still s)

@[simp] theorem reversalTest_fixed (s : State) : (reversalTest s).fixed = s.fixed :=
  State.fixed_of_still (reversalTest_still s)

@[simp] theorem wearChanged_fixed (s : State) : (wearChanged s).fixed = s.fixed :=
  State.fixed_of_still (wearChanged_still s)

@[simp] theorem startMove_fixed (g : Nat) (s : State) : (startMove g s).fixed = s.fixed :=
  State.fixed_of_still (startMove_still g s)

@[simp] theorem moveTest_fixed (s : State) : (moveTest s).fixed = s.fixed :=
  State.fixed_of_still (moveTest_still s)

@[simp] theorem startCalibration_fixed (k : CalKind) (s : State) : (startCalibration k s).fixed = s.fixed :=
  State.fixed_of_still (startCalibration_still k s)

@[simp] theorem internalCalibrationTest_fixed (s : State) : (internalCalibrationTest s).fixed = s.fixed :=
  State.fixed_of_still (internalCalibrationTest_still s)

@[simp] theorem stopCalibration_fixed (s : State) : (stopCalibration s).fixed = s.fixed :=
  State.fixed_of_still (stopCalibration_still s)

@[simp] theorem startRequestedCalibration_fixed (s : State) : (startRequestedCalibration s).fixed = s.fixed :=
  State.fixed_of_still (startRequestedCalibration_still s)

@[simp] theorem primingTest_fixed (s : State) : (primingTest s).fixed = s.fixed :=
  State.fixed_of_still (primingTest_still s)

/-! ### Operations that write only what `fixed` blanks -/

@[simp] theorem campaignWord_fixed (c : Campaign) (n : Nat) (s : State) : (campaignWord c n s).fixed = s.fixed := rfl

@[simp] theorem startCampaign_fixed (r : WearRecord) (s : State) : (startCampaign r s).fixed = s.fixed := rfl

@[simp] theorem recordArrives_fixed (r : WearRecord) (s : State) : (recordArrives r s).fixed = s.fixed := by
  unfold recordArrives; split <;> rfl

@[simp] theorem requestRecord_fixed (s : State) : (requestRecord s).fixed = s.fixed := recordArrives_fixed _ s

@[simp] theorem startPending_fixed (s : State) : (startPending s).fixed = s.fixed := by
  unfold startPending
  split
  · split <;> rfl
  · rfl

@[simp] theorem finishStopping_fixed (s : State) : (finishStopping s).fixed = s.fixed := by simp [finishStopping]

@[simp] theorem setReference_fixed (r : Reference) (s : State) : (setReference r s).fixed = s.fixed := by
  have h : ∀ s : State, ({ s with gap.reference := r, gap.jumpWindow := [] } : State).fixed = s.fixed := fun _ => rfl
  unfold setReference
  split
  · simp [h]
  · dsimp only; split <;> split <;> simp [h]

@[simp] theorem gapTargetArrives_fixed (n : Nat) (s : State) : (gapTargetArrives n s).fixed = s.fixed := by
  have h : ∀ (n : Nat) (s : State), ({ s with gap.target := n } : State).fixed = s.fixed := fun _ _ => rfl
  unfold gapTargetArrives
  rw [targetChanged_fixed, h]
  split <;> simp

@[simp] theorem contact_fixed (k : CalKind) (p : Nat) (s : State) : (contact k p s).fixed = s.fixed := by
  have h : ∀ (b : Bool) (s : State), ({ s with gap.approach := b } : State).fixed = s.fixed := fun _ _ => rfl
  simp only [contact, updateActivity_fixed, h, requestRecord_fixed, setReference_fixed]; rfl

@[simp] theorem startSetGap_fixed (e : Entry) (s : State) : (startSetGap e s).fixed = s.fixed := by
  have h : ∀ (n : Nat) (s : State), ({ s with gap.target := n } : State).fixed = s.fixed := fun _ _ => rfl
  have h' : ∀ (b : Bool) (s : State), ({ s with gap.approach := b } : State).fixed = s.fixed := fun _ _ => rfl
  unfold startSetGap
  split
  · simp
  · split
    · simp [h]
    · dsimp only; split <;> simp [h, h']

@[simp] theorem startLinerChange_fixed (s : State) : (startLinerChange s).fixed = s.fixed := by
  simp only [startLinerChange, requestRecord_fixed, setReference_fixed]; rfl

@[simp] theorem startHead_fixed (s : State) : (startHead s).fixed = s.fixed := by
  have h : ∀ (q : List Entry) (s : State), ({ s with queue := q } : State).fixed = s.fixed := fun _ _ => rfl
  unfold startHead
  split
  · rfl
  · dsimp only; split <;> simp [h]

@[simp] theorem startHeads_fixed (n : Nat) (s : State) : (startHeads n s).fixed = s.fixed := by
  induction n generalizing s with
  | zero => rfl
  | succ n ih => unfold startHeads; split <;> simp [ih]

/-- The end of an event writes no field that `fixed` keeps. -/
@[simp] theorem settle_fixed (s : State) : (settle s).fixed = s.fixed := by simp [settle]

/-- With no head to start, the end of an event is the three tests alone. -/
theorem settle_of_not_startable {s : State} (h : s.headStartable = false) :
    settle s = primingTest (moveTest (internalCalibrationTest s)) := by
  unfold settle
  cases s.queue.length with
  | zero => rfl
  | succ n => simp [startHeads, h]

/-- With no head to start, the end of an event writes only what `still` blanks. -/
theorem settle_still {s : State} (h : s.headStartable = false) : (settle s).still = s.still := by
  simp [settle_of_not_startable h]

end Sys2Proof.Machine
end

