-- ==== Sys2Proof/Laws/Effects.lean ====
section
/-!
SUPPORT. What the shared operations do to the fields that they write: feeder output and capacity, activity, run state, queue,
Fault Record, working window.
-/

namespace Sys2Proof.Machine

/-! ### Feeder output and capacity (R56, R87) -/

/-- Nothing happens in a drive mode that may feed. -/
theorem zeroIfZeroed_of_feeding {s : State} (h : s.driveMode ≠ .zeroed) : zeroIfZeroed s = s := by
  simp only [zeroIfZeroed, if_neg h]

/-- ZEROED sets the output to 0. -/
theorem zeroIfZeroed_of_zeroed {s : State} (h : s.driveMode = .zeroed) : zeroIfZeroed s = setOutput 0 s := by
  simp only [zeroIfZeroed, if_pos h]

/-- The operation writes the output, the NOFEED latch and the clear timer only. -/
theorem zeroIfZeroed_frame (s : State) :
    zeroIfZeroed s = { s with drive.output := (zeroIfZeroed s).drive.output
                              monitor.nofeed := (zeroIfZeroed s).monitor.nofeed
                              run.clearTimer := (zeroIfZeroed s).run.clearTimer } := by
  by_cases h : s.driveMode = .zeroed
  · rw [zeroIfZeroed_of_zeroed h]; rfl
  · rw [zeroIfZeroed_of_feeding h]

@[simp] theorem zeroIfZeroed_state (s : State) : (zeroIfZeroed s).run.state = s.run.state := by rw [zeroIfZeroed_frame]

@[simp] theorem zeroIfZeroed_gap (s : State) : (zeroIfZeroed s).gap = s.gap := by rw [zeroIfZeroed_frame]

@[simp] theorem zeroIfZeroed_share (s : State) : (zeroIfZeroed s).share = s.share := by rw [zeroIfZeroed_frame]

@[simp] theorem zeroIfZeroed_queue (s : State) : (zeroIfZeroed s).queue = s.queue := by rw [zeroIfZeroed_frame]

@[simp] theorem zeroIfZeroed_line (s : State) : (zeroIfZeroed s).line = s.line := by rw [zeroIfZeroed_frame]

@[simp] theorem zeroIfZeroed_faults (s : State) : (zeroIfZeroed s).faults = s.faults := by rw [zeroIfZeroed_frame]

@[simp] theorem zeroIfZeroed_setpoint (s : State) : (zeroIfZeroed s).drive.setpoint = s.drive.setpoint := by
  rw [zeroIfZeroed_frame]

@[simp] theorem zeroIfZeroed_priming (s : State) : (zeroIfZeroed s).run.primingTimer = s.run.primingTimer := by
  rw [zeroIfZeroed_frame]

/-- Feeding is not permitted afterwards unless it was before. -/
@[simp] theorem zeroIfZeroed_driveMode (s : State) : (zeroIfZeroed s).driveMode = s.driveMode := by
  simp [State.driveMode, State.gapState]

/-- The output is 0 in ZEROED afterwards. -/
theorem zeroIfZeroed_output (s : State) (h : s.driveMode = .zeroed) : (zeroIfZeroed s).drive.output = 0 := by
  rw [zeroIfZeroed_of_zeroed h]; rfl

/-- The operation writes the capacity only. -/
theorem dropCapacity_frame (s : State) :
    dropCapacity s = { s with share.capacity := if s.feedPermitted then s.share.capacity else 0 } := by
  unfold dropCapacity; split <;> rfl

@[simp] theorem dropCapacity_state (s : State) : (dropCapacity s).run.state = s.run.state := by rw [dropCapacity_frame]

@[simp] theorem dropCapacity_gap (s : State) : (dropCapacity s).gap = s.gap := by rw [dropCapacity_frame]

/-! ### Activity (R98) -/

/-- A change of the gap state writes the activity, what leaving STUCK writes (W, approach pending, history), what the feeder and
the capacity follow with, and the jump window. -/
theorem setActivity_frame (act : Activity) (s : State) :
    setActivity act s = { s with
      gap := { s.gap with
        activity := act
        setpoint := (setActivity act s).gap.setpoint, approach := (setActivity act s).gap.approach
        history := (setActivity act s).gap.history, jumpWindow := (setActivity act s).gap.jumpWindow }
      share.capacity := (setActivity act s).share.capacity
      drive.output := (setActivity act s).drive.output
      monitor.nofeed := (setActivity act s).monitor.nofeed
      run.clearTimer := (setActivity act s).run.clearTimer } := by
  have hA : ∀ s : State, ∃ w b, setAfresh s =
      { s with gap := { s.gap with setpoint := w, approach := b, history := [] } } := fun _ => ⟨_, _, rfl⟩
  have hE : ∀ s : State, ∃ j, emptyJumpIfOpening s = { s with gap.jumpWindow := j } := fun s => by
    unfold emptyJumpIfOpening
    split
    · exact ⟨_, rfl⟩
    · exact ⟨s.gap.jumpWindow, rfl⟩
  have hZ : ∀ s : State, ∃ o n c, zeroIfZeroed s =
      { s with drive.output := o, monitor.nofeed := n, run.clearTimer := c } := fun s => ⟨_, _, _, zeroIfZeroed_frame s⟩
  have key : ∃ w b l j k o n c, setActivity act s = { s with
      gap := { s.gap with activity := act, setpoint := w, approach := b, history := l, jumpWindow := j }
      share.capacity := k, drive.output := o, monitor.nofeed := n, run.clearTimer := c } := by
    unfold setActivity
    dsimp only
    split
    · obtain ⟨w, b, h1⟩ := hA s
      rw [h1, dropCapacity_frame]
      obtain ⟨o, n, c, h2⟩ := hZ { ({ s with gap := { s.gap with setpoint := w, approach := b, history := [] } } : State) with
        gap.activity := act
        share.capacity := if (State.feedPermitted { ({ s with gap := { s.gap with
          setpoint := w, approach := b, history := [] } } : State) with gap.activity := act })
          then s.share.capacity else 0 }
      rw [h2]
      obtain ⟨j, h3⟩ := hE _
      rw [h3]
      exact ⟨_, _, _, _, _, _, _, _, rfl⟩
    · rw [dropCapacity_frame]
      obtain ⟨o, n, c, h2⟩ := hZ { ({ s with gap.activity := act } : State) with
        share.capacity := if (State.feedPermitted { s with gap.activity := act }) then s.share.capacity else 0 }
      rw [h2]
      obtain ⟨j, h3⟩ := hE _
      rw [h3]
      exact ⟨s.gap.setpoint, s.gap.approach, s.gap.history, _, _, _, _, _, rfl⟩
  obtain ⟨w, b, l, j, k, o, n, c, h⟩ := key
  rw [h]

@[simp] theorem setActivity_activity (act : Activity) (s : State) : (setActivity act s).gap.activity = act := by
  rw [setActivity_frame]

@[simp] theorem setActivity_gapState (act : Activity) (s : State) : (setActivity act s).gapState = act.state := by
  simp [State.gapState]

@[simp] theorem setActivity_state (act : Activity) (s : State) : (setActivity act s).run.state = s.run.state := by
  rw [setActivity_frame]

@[simp] theorem setActivity_queue (act : Activity) (s : State) : (setActivity act s).queue = s.queue := by
  rw [setActivity_frame]

@[simp] theorem setActivity_line (act : Activity) (s : State) : (setActivity act s).line = s.line := by
  rw [setActivity_frame]

@[simp] theorem setActivity_faults (act : Activity) (s : State) : (setActivity act s).faults = s.faults := by
  rw [setActivity_frame]

@[simp] theorem setActivity_monitor (act : Activity) (s : State) :
    (setActivity act s).monitor = { s.monitor with nofeed := (setActivity act s).monitor.nofeed } := by
  conv_lhs => rw [setActivity_frame]

@[simp] theorem setActivity_reference (act : Activity) (s : State) :
    (setActivity act s).gap.reference = s.gap.reference := by rw [setActivity_frame]

@[simp] theorem setActivity_target (act : Activity) (s : State) : (setActivity act s).gap.target = s.gap.target := by
  rw [setActivity_frame]

@[simp] theorem setActivity_driveSetpoint (act : Activity) (s : State) :
    (setActivity act s).drive.setpoint = s.drive.setpoint := by rw [setActivity_frame]

/-- Out of STUCK no change of the gap state moves W. -/
theorem setActivity_setpoint (act : Activity) {s : State} (h : s.gapState ≠ .stuck) :
    (setActivity act s).gap.setpoint = s.gap.setpoint := by
  unfold setActivity emptyJumpIfOpening
  simp only [h, false_and, if_false]
  split <;> simp

/-! ### Queue (R145, R150) -/

/-- An ACTIVE head ends: it leaves the queue and is answered. -/
theorem endActive_of_active {s : State} {e : Entry} {rest : List Entry} (o : AnswerOutcome) (hq : s.queue = e :: rest)
    (ha : e.active = true) :
    endActive o s = { s with queue := rest, line := s.line.push (s.entryAnswer e o) } := by
  simp only [endActive, hq, ha, if_true]

/-- Without an ACTIVE entry nothing ends. -/
theorem endActive_of_none {s : State} (o : AnswerOutcome) (h : s.activeEntry = none) : endActive o s = s := by
  unfold endActive
  split
  · next e rest hq =>
    simp only [State.activeEntry, hq] at h
    split at h
    · cases h
    · next hf => rw [if_neg hf]
  · rfl

/-- The end of an entry writes the queue and the answers only. -/
theorem endActive_frame (o : AnswerOutcome) (s : State) :
    endActive o s = { s with queue := (endActive o s).queue, line := (endActive o s).line } := by
  unfold endActive
  split
  · split <;> rfl
  · rfl

/-- The end of an entry of one kind writes the queue and the answers only. -/
theorem endActiveOf_frame (k : QueuedKind) (o : AnswerOutcome) (s : State) :
    endActiveOf k o s = { s with queue := (endActiveOf k o s).queue, line := (endActiveOf k o s).line } := by
  unfold endActiveOf
  split
  · exact endActive_frame o s
  · rfl

/-- A flush empties the queue and writes the answers only. -/
theorem flushQueue_frame (s : State) : flushQueue s = { s with queue := [], line := (flushQueue s).line } := rfl

/-! ### Run state (R40 to R50) -/

/-- A change of the run state writes Run Control, the feeder, the capacity, the NOFEED latch and the load history only. -/
theorem changeRun_frame (r : RunState) (s : State) :
    changeRun r s = { s with
      run := { s.run with state := r, primingTimer := (changeRun r s).run.primingTimer
                          clearTimer := (changeRun r s).run.clearTimer }
      gap.history := if s.run.state = .running then [] else s.gap.history
      share.capacity := (changeRun r s).share.capacity
      drive := { s.drive with setpoint := (changeRun r s).drive.setpoint, output := (changeRun r s).drive.output }
      monitor.nofeed := (changeRun r s).monitor.nofeed } := by
  unfold changeRun
  rw [zeroIfZeroed_frame, dropCapacity_frame]

@[simp] theorem changeRun_state (r : RunState) (s : State) : (changeRun r s).run.state = r := by rw [changeRun_frame]

@[simp] theorem changeRun_activity (r : RunState) (s : State) : (changeRun r s).gap.activity = s.gap.activity := by
  rw [changeRun_frame]

@[simp] theorem changeRun_queue (r : RunState) (s : State) : (changeRun r s).queue = s.queue := by rw [changeRun_frame]

@[simp] theorem changeRun_line (r : RunState) (s : State) : (changeRun r s).line = s.line := by rw [changeRun_frame]

@[simp] theorem changeRun_faults (r : RunState) (s : State) : (changeRun r s).faults = s.faults := by rw [changeRun_frame]

@[simp] theorem changeRun_reference (r : RunState) (s : State) : (changeRun r s).gap.reference = s.gap.reference := by
  rw [changeRun_frame]

@[simp] theorem changeRun_gapSetpoint (r : RunState) (s : State) : (changeRun r s).gap.setpoint = s.gap.setpoint := by
  rw [changeRun_frame]

@[simp] theorem changeRun_target (r : RunState) (s : State) : (changeRun r s).gap.target = s.gap.target := by
  rw [changeRun_frame]

/-- The priming timer runs in PRIMING only (R40, R43, R44). -/
@[simp] theorem changeRun_primingTimer (r : RunState) (s : State) :
    (changeRun r s).run.primingTimer = if r = .priming then some (s.settings.primingTimeout * 1000) else none := by
  simp only [changeRun, zeroIfZeroed_priming, dropCapacity_frame]

/-- 0 is written to the setpoint at a change to IDLE, PRIMING or TRIPPED (R55). -/
@[simp] theorem changeRun_setpoint (r : RunState) (s : State) :
    (changeRun r s).drive.setpoint = if r = .idle ∨ r = .priming ∨ r = .tripped then 0 else s.drive.setpoint := by
  simp only [changeRun, zeroIfZeroed_setpoint, dropCapacity_frame]

/-! ### Trips and faults (R49, R166) -/

/-- A trip leaves the station TRIPPED. -/
@[simp] theorem trip_state (s : State) : (trip s).run.state = .tripped := by simp [trip]

/-- A trip empties the queue. -/
@[simp] theorem trip_queue (s : State) : (trip s).queue = [] := by
  have h : ∀ s : State, (endForTrip s).queue = s.queue := fun s => by unfold endForTrip; split <;> simp
  have hf : (flushQueue s).queue = [] := rfl
  simp [trip, h, hf]

/-- What a trip does to the activity (R106, R126, R140). -/
theorem endForTrip_activity (s : State) :
    (endForTrip s).gap.activity =
      (if s.gapState = .moving ∨ s.gapState = .calibrating then .holding else s.gap.activity) := by
  cases h : s.gap.activity <;> simp [endForTrip, State.gapState, h, Activity.state]

/-- A trip ends a move and a calibration and no other activity. -/
theorem trip_activity (s : State) :
    (trip s).gap.activity =
      (if s.gapState = .moving ∨ s.gapState = .calibrating then .holding else s.gap.activity) := by
  simp only [trip, changeRun_activity, endForTrip_activity]
  rfl

/-- A trip keeps the Fault Record, in which its fault has been noted. -/
@[simp] theorem trip_faults (s : State) : (trip s).faults = s.faults := by
  have h : ∀ s : State, (endForTrip s).faults = s.faults := fun s => by unfold endForTrip; split <;> simp
  simp [trip, h]; rfl

/-- A kind reported is seen (R166). -/
theorem noteFault_seen (k k' : FaultKind) (s : State) :
    k' ∈ (noteFault k s).faults.seen ↔ k' = k ∨ k' ∈ s.faults.seen := by
  unfold noteFault
  by_cases h : k ∈ s.faults.seen
  · simp only [List.contains_iff_mem, h, if_true]
    exact ⟨Or.inr, fun h' => h'.elim (fun he => he ▸ h) id⟩
  · simp [h, or_comm]

/-- A report that does not trip only notes its fault. -/
theorem report_of_noted (k : FaultKind) {trips : Bool} {s : State} (h : trips = false ∨ s.run.state.trippable = false) :
    report k trips s = noteFault k s := by
  unfold report; rcases h with h | h <;> simp [h]

/-- A report of a tripping kind in a run state that trips. -/
theorem report_of_trip (k : FaultKind) {s : State} (h : s.run.state.trippable = true) :
    report k true s = trip (noteFault k s) := by simp [report, h]

/-- The Fault Record after a report is the noted one. -/
@[simp] theorem report_faults (k : FaultKind) (trips : Bool) (s : State) :
    (report k trips s).faults = (noteFault k s).faults := by unfold report; split <;> simp

/-- The run state after a report: TRIPPED or as it was. -/
theorem report_state (k : FaultKind) (trips : Bool) (s : State) :
    (report k trips s).run.state = if trips ∧ s.run.state.trippable then .tripped else s.run.state := by
  unfold report; split <;> simp_all; rfl

/-- A run state that is entered: reached, or tripped for want of the motor (R48). -/
theorem enterRun_state (r : RunState) (s : State) :
    (enterRun r s).run.state =
      if r.motorRequired ∧ ¬ s.run.state.motorRequired ∧ ¬ s.motorRunning then .tripped else r := by
  unfold enterRun
  split
  · next h =>
    rw [report_state, changeRun_state]
    have : r.trippable = true := by revert h; cases r <;> simp [RunState.motorRequired, RunState.trippable]
    simp [this]
  · simp

/-! ### Working window (R96, R97) -/

/-- The window is never empty: gap limits in order and G_t within them keep its bounds in order. -/
theorem windowLower_le_upper {c : Settings} {r : Reference} {target span : Nat} (h : c.gapMin ≤ c.gapMax)
    (h1 : c.gapMin ≤ target) (h2 : target ≤ c.gapMax) :
    windowLower c r target span ≤ windowUpper c r target span := by
  cases r <;> simp only [windowLower, windowUpper] <;> omega

/-- A value held in a window lies in it. -/
theorem heldInWindow_mem {s : State} (w : Nat)
    (h : windowLower s.settings s.gap.reference s.gap.target s.gap.span ≤
      windowUpper s.settings s.gap.reference s.gap.target s.gap.span) :
    windowLower s.settings s.gap.reference s.gap.target s.gap.span ≤ s.heldInWindow w ∧
      s.heldInWindow w ≤ windowUpper s.settings s.gap.reference s.gap.target s.gap.span := by
  unfold State.heldInWindow; omega

/-- A value in the window is held where it is. -/
theorem heldInWindow_of_mem {s : State} {w : Nat}
    (h1 : windowLower s.settings s.gap.reference s.gap.target s.gap.span ≤ w)
    (h2 : w ≤ windowUpper s.settings s.gap.reference s.gap.target s.gap.span) : s.heldInWindow w = w := by
  unfold State.heldInWindow; omega

/-- A clamped gap target lies within the gap limits (R94). -/
theorem clampGap_mem {c : Settings} (n : Nat) (h : c.gapMin ≤ c.gapMax) :
    c.gapMin ≤ clampGap c n ∧ clampGap c n ≤ c.gapMax := by unfold clampGap; omega

end Sys2Proof.Machine
end

