-- ==== Sys2Proof/Laws/State.lean ====
section
/-!
SUPPORT. One lemma per field for each plain update of the state, each true by `rfl`: what the update writes, and that it leaves
every other field as it was.
-/

namespace Sys2Proof.Machine

/-! ### The receiver at the end of a frame (R152) -/

@[simp] theorem frameEnds_pending (s : State) : (frameEnds s).pending = s.pending := rfl
@[simp] theorem frameEnds_seconds (s : State) : (frameEnds s).seconds = s.seconds := rfl
@[simp] theorem frameEnds_millis (s : State) : (frameEnds s).millis = s.millis := rfl
@[simp] theorem frameEnds_freeCount (s : State) : (frameEnds s).freeCount = s.freeCount := rfl
@[simp] theorem frameEnds_stationNumber (s : State) : (frameEnds s).stationNumber = s.stationNumber := rfl
@[simp] theorem frameEnds_settings (s : State) : (frameEnds s).settings = s.settings := rfl
@[simp] theorem frameEnds_motorRunning (s : State) : (frameEnds s).motorRunning = s.motorRunning := rfl
@[simp] theorem frameEnds_supplyLow (s : State) : (frameEnds s).supplyLow = s.supplyLow := rfl
@[simp] theorem frameEnds_monitor (s : State) : (frameEnds s).monitor = s.monitor := rfl
@[simp] theorem frameEnds_peers (s : State) : (frameEnds s).peers = s.peers := rfl
@[simp] theorem frameEnds_run (s : State) : (frameEnds s).run = s.run := rfl
@[simp] theorem frameEnds_share (s : State) : (frameEnds s).share = s.share := rfl
@[simp] theorem frameEnds_drive (s : State) : (frameEnds s).drive = s.drive := rfl
@[simp] theorem frameEnds_gap (s : State) : (frameEnds s).gap = s.gap := rfl
@[simp] theorem frameEnds_queue (s : State) : (frameEnds s).queue = s.queue := rfl
@[simp] theorem frameEnds_line (s : State) : (frameEnds s).line = { s.line with receiver := .waitingIdle } := rfl
@[simp] theorem frameEnds_interface (s : State) : (frameEnds s).interface = s.interface := rfl
@[simp] theorem frameEnds_faults (s : State) : (frameEnds s).faults = s.faults := rfl
@[simp] theorem frameEnds_memory (s : State) : (frameEnds s).memory = s.memory := rfl

/-! ### The feeder output (R46, R90) -/

@[simp] theorem setOutput_pending (a : Nat) (s : State) : (setOutput a s).pending = s.pending := rfl
@[simp] theorem setOutput_seconds (a : Nat) (s : State) : (setOutput a s).seconds = s.seconds := rfl
@[simp] theorem setOutput_millis (a : Nat) (s : State) : (setOutput a s).millis = s.millis := rfl
@[simp] theorem setOutput_freeCount (a : Nat) (s : State) : (setOutput a s).freeCount = s.freeCount := rfl
@[simp] theorem setOutput_stationNumber (a : Nat) (s : State) : (setOutput a s).stationNumber = s.stationNumber := rfl
@[simp] theorem setOutput_settings (a : Nat) (s : State) : (setOutput a s).settings = s.settings := rfl
@[simp] theorem setOutput_motorRunning (a : Nat) (s : State) : (setOutput a s).motorRunning = s.motorRunning := rfl
@[simp] theorem setOutput_supplyLow (a : Nat) (s : State) : (setOutput a s).supplyLow = s.supplyLow := rfl
@[simp] theorem setOutput_monitor (a : Nat) (s : State) :
    (setOutput a s).monitor = { s.monitor with nofeed := s.monitor.nofeed || (decide (a = 0) && decide (0 < s.drive.output)) } := rfl
@[simp] theorem setOutput_peers (a : Nat) (s : State) : (setOutput a s).peers = s.peers := rfl
@[simp] theorem setOutput_share (a : Nat) (s : State) : (setOutput a s).share = s.share := rfl
@[simp] theorem setOutput_drive (a : Nat) (s : State) : (setOutput a s).drive = { s.drive with output := a } := rfl
@[simp] theorem setOutput_gap (a : Nat) (s : State) : (setOutput a s).gap = s.gap := rfl
@[simp] theorem setOutput_queue (a : Nat) (s : State) : (setOutput a s).queue = s.queue := rfl
@[simp] theorem setOutput_line (a : Nat) (s : State) : (setOutput a s).line = s.line := rfl
@[simp] theorem setOutput_interface (a : Nat) (s : State) : (setOutput a s).interface = s.interface := rfl
@[simp] theorem setOutput_faults (a : Nat) (s : State) : (setOutput a s).faults = s.faults := rfl
@[simp] theorem setOutput_memory (a : Nat) (s : State) : (setOutput a s).memory = s.memory := rfl

/-! ### The working setpoint (R97) -/

@[simp] theorem setW_pending (w : Nat) (s : State) : (setW w s).pending = s.pending := rfl
@[simp] theorem setW_seconds (w : Nat) (s : State) : (setW w s).seconds = s.seconds := rfl
@[simp] theorem setW_millis (w : Nat) (s : State) : (setW w s).millis = s.millis := rfl
@[simp] theorem setW_freeCount (w : Nat) (s : State) : (setW w s).freeCount = s.freeCount := rfl
@[simp] theorem setW_stationNumber (w : Nat) (s : State) : (setW w s).stationNumber = s.stationNumber := rfl
@[simp] theorem setW_settings (w : Nat) (s : State) : (setW w s).settings = s.settings := rfl
@[simp] theorem setW_motorRunning (w : Nat) (s : State) : (setW w s).motorRunning = s.motorRunning := rfl
@[simp] theorem setW_supplyLow (w : Nat) (s : State) : (setW w s).supplyLow = s.supplyLow := rfl
@[simp] theorem setW_monitor (w : Nat) (s : State) : (setW w s).monitor = s.monitor := rfl
@[simp] theorem setW_peers (w : Nat) (s : State) : (setW w s).peers = s.peers := rfl
@[simp] theorem setW_run (w : Nat) (s : State) : (setW w s).run = s.run := rfl
@[simp] theorem setW_share (w : Nat) (s : State) : (setW w s).share = s.share := rfl
@[simp] theorem setW_drive (w : Nat) (s : State) : (setW w s).drive = s.drive := rfl
@[simp] theorem setW_queue (w : Nat) (s : State) : (setW w s).queue = s.queue := rfl
@[simp] theorem setW_line (w : Nat) (s : State) : (setW w s).line = s.line := rfl
@[simp] theorem setW_interface (w : Nat) (s : State) : (setW w s).interface = s.interface := rfl
@[simp] theorem setW_faults (w : Nat) (s : State) : (setW w s).faults = s.faults := rfl
@[simp] theorem setW_memory (w : Nat) (s : State) : (setW w s).memory = s.memory := rfl

/-! ### An answer handed on (R143) -/

@[simp] theorem State.answer_pending (a : Answer) (s : State) : (State.answer a s).pending = s.pending := rfl
@[simp] theorem State.answer_seconds (a : Answer) (s : State) : (State.answer a s).seconds = s.seconds := rfl
@[simp] theorem State.answer_millis (a : Answer) (s : State) : (State.answer a s).millis = s.millis := rfl
@[simp] theorem State.answer_freeCount (a : Answer) (s : State) : (State.answer a s).freeCount = s.freeCount := rfl
@[simp] theorem State.answer_stationNumber (a : Answer) (s : State) :
    (State.answer a s).stationNumber = s.stationNumber := rfl
@[simp] theorem State.answer_settings (a : Answer) (s : State) : (State.answer a s).settings = s.settings := rfl
@[simp] theorem State.answer_motorRunning (a : Answer) (s : State) : (State.answer a s).motorRunning = s.motorRunning := rfl
@[simp] theorem State.answer_supplyLow (a : Answer) (s : State) : (State.answer a s).supplyLow = s.supplyLow := rfl
@[simp] theorem State.answer_monitor (a : Answer) (s : State) : (State.answer a s).monitor = s.monitor := rfl
@[simp] theorem State.answer_peers (a : Answer) (s : State) : (State.answer a s).peers = s.peers := rfl
@[simp] theorem State.answer_run (a : Answer) (s : State) : (State.answer a s).run = s.run := rfl
@[simp] theorem State.answer_share (a : Answer) (s : State) : (State.answer a s).share = s.share := rfl
@[simp] theorem State.answer_drive (a : Answer) (s : State) : (State.answer a s).drive = s.drive := rfl
@[simp] theorem State.answer_gap (a : Answer) (s : State) : (State.answer a s).gap = s.gap := rfl
@[simp] theorem State.answer_queue (a : Answer) (s : State) : (State.answer a s).queue = s.queue := rfl
@[simp] theorem State.answer_line (a : Answer) (s : State) : (State.answer a s).line = s.line.push a := rfl
@[simp] theorem State.answer_interface (a : Answer) (s : State) : (State.answer a s).interface = s.interface := rfl
@[simp] theorem State.answer_faults (a : Answer) (s : State) : (State.answer a s).faults = s.faults := rfl
@[simp] theorem State.answer_memory (a : Answer) (s : State) : (State.answer a s).memory = s.memory := rfl

/-! ### A fault noted (R166) -/

@[simp] theorem noteFault_pending (k : FaultKind) (s : State) : (noteFault k s).pending = s.pending := rfl
@[simp] theorem noteFault_seconds (k : FaultKind) (s : State) : (noteFault k s).seconds = s.seconds := rfl
@[simp] theorem noteFault_millis (k : FaultKind) (s : State) : (noteFault k s).millis = s.millis := rfl
@[simp] theorem noteFault_freeCount (k : FaultKind) (s : State) : (noteFault k s).freeCount = s.freeCount := rfl
@[simp] theorem noteFault_stationNumber (k : FaultKind) (s : State) : (noteFault k s).stationNumber = s.stationNumber := rfl
@[simp] theorem noteFault_settings (k : FaultKind) (s : State) : (noteFault k s).settings = s.settings := rfl
@[simp] theorem noteFault_motorRunning (k : FaultKind) (s : State) : (noteFault k s).motorRunning = s.motorRunning := rfl
@[simp] theorem noteFault_supplyLow (k : FaultKind) (s : State) : (noteFault k s).supplyLow = s.supplyLow := rfl
@[simp] theorem noteFault_monitor (k : FaultKind) (s : State) : (noteFault k s).monitor = s.monitor := rfl
@[simp] theorem noteFault_peers (k : FaultKind) (s : State) : (noteFault k s).peers = s.peers := rfl
@[simp] theorem noteFault_run (k : FaultKind) (s : State) : (noteFault k s).run = s.run := rfl
@[simp] theorem noteFault_share (k : FaultKind) (s : State) : (noteFault k s).share = s.share := rfl
@[simp] theorem noteFault_drive (k : FaultKind) (s : State) : (noteFault k s).drive = s.drive := rfl
@[simp] theorem noteFault_gap (k : FaultKind) (s : State) : (noteFault k s).gap = s.gap := rfl
@[simp] theorem noteFault_queue (k : FaultKind) (s : State) : (noteFault k s).queue = s.queue := rfl
@[simp] theorem noteFault_line (k : FaultKind) (s : State) : (noteFault k s).line = s.line := rfl
@[simp] theorem noteFault_interface (k : FaultKind) (s : State) : (noteFault k s).interface = s.interface := rfl
@[simp] theorem noteFault_memory (k : FaultKind) (s : State) : (noteFault k s).memory = s.memory := rfl

/-! ### The reading clock (R133) -/

@[simp] theorem advanceReadingClock_pending (s : State) : (advanceReadingClock s).pending = s.pending := rfl
@[simp] theorem advanceReadingClock_seconds (s : State) : (advanceReadingClock s).seconds = s.seconds := rfl
@[simp] theorem advanceReadingClock_millis (s : State) : (advanceReadingClock s).millis = s.millis := rfl
@[simp] theorem advanceReadingClock_freeCount (s : State) : (advanceReadingClock s).freeCount = s.freeCount := rfl
@[simp] theorem advanceReadingClock_stationNumber (s : State) :
    (advanceReadingClock s).stationNumber = s.stationNumber := rfl
@[simp] theorem advanceReadingClock_settings (s : State) : (advanceReadingClock s).settings = s.settings := rfl
@[simp] theorem advanceReadingClock_motorRunning (s : State) : (advanceReadingClock s).motorRunning = s.motorRunning := rfl
@[simp] theorem advanceReadingClock_supplyLow (s : State) : (advanceReadingClock s).supplyLow = s.supplyLow := rfl
@[simp] theorem advanceReadingClock_monitor (s : State) : (advanceReadingClock s).monitor = s.monitor := rfl
@[simp] theorem advanceReadingClock_peers (s : State) : (advanceReadingClock s).peers = s.peers := rfl
@[simp] theorem advanceReadingClock_run (s : State) : (advanceReadingClock s).run = s.run := rfl
@[simp] theorem advanceReadingClock_share (s : State) : (advanceReadingClock s).share = s.share := rfl
@[simp] theorem advanceReadingClock_drive (s : State) : (advanceReadingClock s).drive = s.drive := rfl
@[simp] theorem advanceReadingClock_queue (s : State) : (advanceReadingClock s).queue = s.queue := rfl
@[simp] theorem advanceReadingClock_line (s : State) : (advanceReadingClock s).line = s.line := rfl
@[simp] theorem advanceReadingClock_interface (s : State) : (advanceReadingClock s).interface = s.interface := rfl
@[simp] theorem advanceReadingClock_faults (s : State) : (advanceReadingClock s).faults = s.faults := rfl
@[simp] theorem advanceReadingClock_memory (s : State) : (advanceReadingClock s).memory = s.memory := rfl

/-! ### The position handed on (R3) -/

@[simp] theorem notePosition_pending (p : Option Nat) (s : State) : (notePosition p s).pending = s.pending := rfl
@[simp] theorem notePosition_seconds (p : Option Nat) (s : State) : (notePosition p s).seconds = s.seconds := rfl
@[simp] theorem notePosition_millis (p : Option Nat) (s : State) : (notePosition p s).millis = s.millis := rfl
@[simp] theorem notePosition_freeCount (p : Option Nat) (s : State) : (notePosition p s).freeCount = s.freeCount := rfl
@[simp] theorem notePosition_stationNumber (p : Option Nat) (s : State) :
    (notePosition p s).stationNumber = s.stationNumber := rfl
@[simp] theorem notePosition_settings (p : Option Nat) (s : State) : (notePosition p s).settings = s.settings := rfl
@[simp] theorem notePosition_motorRunning (p : Option Nat) (s : State) :
    (notePosition p s).motorRunning = s.motorRunning := rfl
@[simp] theorem notePosition_supplyLow (p : Option Nat) (s : State) : (notePosition p s).supplyLow = s.supplyLow := rfl
@[simp] theorem notePosition_monitor (p : Option Nat) (s : State) :
    (notePosition p s).monitor =
      { s.monitor with position := p.orElse (fun _ => s.monitor.position), positionValid := p.isSome } := rfl
@[simp] theorem notePosition_peers (p : Option Nat) (s : State) : (notePosition p s).peers = s.peers := rfl
@[simp] theorem notePosition_run (p : Option Nat) (s : State) : (notePosition p s).run = s.run := rfl
@[simp] theorem notePosition_share (p : Option Nat) (s : State) : (notePosition p s).share = s.share := rfl
@[simp] theorem notePosition_drive (p : Option Nat) (s : State) : (notePosition p s).drive = s.drive := rfl
@[simp] theorem notePosition_gap (p : Option Nat) (s : State) : (notePosition p s).gap = s.gap := rfl
@[simp] theorem notePosition_queue (p : Option Nat) (s : State) : (notePosition p s).queue = s.queue := rfl
@[simp] theorem notePosition_line (p : Option Nat) (s : State) : (notePosition p s).line = s.line := rfl
@[simp] theorem notePosition_interface (p : Option Nat) (s : State) : (notePosition p s).interface = s.interface := rfl
@[simp] theorem notePosition_faults (p : Option Nat) (s : State) : (notePosition p s).faults = s.faults := rfl
@[simp] theorem notePosition_memory (p : Option Nat) (s : State) : (notePosition p s).memory = s.memory := rfl

/-! ### The window sums (R8) -/

@[simp] theorem noteReading_pending (r : Readings) (s : State) : (noteReading r s).pending = s.pending := rfl
@[simp] theorem noteReading_seconds (r : Readings) (s : State) : (noteReading r s).seconds = s.seconds := rfl
@[simp] theorem noteReading_millis (r : Readings) (s : State) : (noteReading r s).millis = s.millis := rfl
@[simp] theorem noteReading_freeCount (r : Readings) (s : State) : (noteReading r s).freeCount = s.freeCount := rfl
@[simp] theorem noteReading_stationNumber (r : Readings) (s : State) :
    (noteReading r s).stationNumber = s.stationNumber := rfl
@[simp] theorem noteReading_settings (r : Readings) (s : State) : (noteReading r s).settings = s.settings := rfl
@[simp] theorem noteReading_motorRunning (r : Readings) (s : State) : (noteReading r s).motorRunning = s.motorRunning := rfl
@[simp] theorem noteReading_supplyLow (r : Readings) (s : State) : (noteReading r s).supplyLow = s.supplyLow := rfl
@[simp] theorem noteReading_peers (r : Readings) (s : State) : (noteReading r s).peers = s.peers := rfl
@[simp] theorem noteReading_run (r : Readings) (s : State) : (noteReading r s).run = s.run := rfl
@[simp] theorem noteReading_share (r : Readings) (s : State) : (noteReading r s).share = s.share := rfl
@[simp] theorem noteReading_drive (r : Readings) (s : State) : (noteReading r s).drive = s.drive := rfl
@[simp] theorem noteReading_gap (r : Readings) (s : State) : (noteReading r s).gap = s.gap := rfl
@[simp] theorem noteReading_queue (r : Readings) (s : State) : (noteReading r s).queue = s.queue := rfl
@[simp] theorem noteReading_line (r : Readings) (s : State) : (noteReading r s).line = s.line := rfl
@[simp] theorem noteReading_interface (r : Readings) (s : State) : (noteReading r s).interface = s.interface := rfl
@[simp] theorem noteReading_faults (r : Readings) (s : State) : (noteReading r s).faults = s.faults := rfl
@[simp] theorem noteReading_memory (r : Readings) (s : State) : (noteReading r s).memory = s.memory := rfl

/-! ### A window opened (R8) -/

@[simp] theorem openWindow_pending (s : State) : (openWindow s).pending = s.pending := rfl
@[simp] theorem openWindow_seconds (s : State) : (openWindow s).seconds = s.seconds := rfl
@[simp] theorem openWindow_millis (s : State) : (openWindow s).millis = s.millis := rfl
@[simp] theorem openWindow_freeCount (s : State) : (openWindow s).freeCount = s.freeCount := rfl
@[simp] theorem openWindow_stationNumber (s : State) : (openWindow s).stationNumber = s.stationNumber := rfl
@[simp] theorem openWindow_settings (s : State) : (openWindow s).settings = s.settings := rfl
@[simp] theorem openWindow_motorRunning (s : State) : (openWindow s).motorRunning = s.motorRunning := rfl
@[simp] theorem openWindow_supplyLow (s : State) : (openWindow s).supplyLow = s.supplyLow := rfl
@[simp] theorem openWindow_peers (s : State) : (openWindow s).peers = s.peers := rfl
@[simp] theorem openWindow_run (s : State) : (openWindow s).run = s.run := rfl
@[simp] theorem openWindow_share (s : State) : (openWindow s).share = s.share := rfl
@[simp] theorem openWindow_drive (s : State) : (openWindow s).drive = s.drive := rfl
@[simp] theorem openWindow_gap (s : State) : (openWindow s).gap = s.gap := rfl
@[simp] theorem openWindow_queue (s : State) : (openWindow s).queue = s.queue := rfl
@[simp] theorem openWindow_line (s : State) : (openWindow s).line = s.line := rfl
@[simp] theorem openWindow_interface (s : State) : (openWindow s).interface = s.interface := rfl
@[simp] theorem openWindow_faults (s : State) : (openWindow s).faults = s.faults := rfl
@[simp] theorem openWindow_memory (s : State) : (openWindow s).memory = s.memory := rfl

/-! ### A campaign's next word (R164) -/

@[simp] theorem campaignWord_pending (c : Campaign) (n : Nat) (s : State) : (campaignWord c n s).pending = s.pending := rfl
@[simp] theorem campaignWord_seconds (c : Campaign) (n : Nat) (s : State) : (campaignWord c n s).seconds = s.seconds := rfl
@[simp] theorem campaignWord_millis (c : Campaign) (n : Nat) (s : State) : (campaignWord c n s).millis = s.millis := rfl
@[simp] theorem campaignWord_freeCount (c : Campaign) (n : Nat) (s : State) :
    (campaignWord c n s).freeCount = s.freeCount := rfl
@[simp] theorem campaignWord_stationNumber (c : Campaign) (n : Nat) (s : State) :
    (campaignWord c n s).stationNumber = s.stationNumber := rfl
@[simp] theorem campaignWord_settings (c : Campaign) (n : Nat) (s : State) :
    (campaignWord c n s).settings = s.settings := rfl
@[simp] theorem campaignWord_motorRunning (c : Campaign) (n : Nat) (s : State) :
    (campaignWord c n s).motorRunning = s.motorRunning := rfl
@[simp] theorem campaignWord_supplyLow (c : Campaign) (n : Nat) (s : State) :
    (campaignWord c n s).supplyLow = s.supplyLow := rfl
@[simp] theorem campaignWord_monitor (c : Campaign) (n : Nat) (s : State) : (campaignWord c n s).monitor = s.monitor := rfl
@[simp] theorem campaignWord_peers (c : Campaign) (n : Nat) (s : State) : (campaignWord c n s).peers = s.peers := rfl
@[simp] theorem campaignWord_run (c : Campaign) (n : Nat) (s : State) : (campaignWord c n s).run = s.run := rfl
@[simp] theorem campaignWord_share (c : Campaign) (n : Nat) (s : State) : (campaignWord c n s).share = s.share := rfl
@[simp] theorem campaignWord_drive (c : Campaign) (n : Nat) (s : State) : (campaignWord c n s).drive = s.drive := rfl
@[simp] theorem campaignWord_gap (c : Campaign) (n : Nat) (s : State) : (campaignWord c n s).gap = s.gap := rfl
@[simp] theorem campaignWord_queue (c : Campaign) (n : Nat) (s : State) : (campaignWord c n s).queue = s.queue := rfl
@[simp] theorem campaignWord_line (c : Campaign) (n : Nat) (s : State) : (campaignWord c n s).line = s.line := rfl
@[simp] theorem campaignWord_interface (c : Campaign) (n : Nat) (s : State) :
    (campaignWord c n s).interface = { s.interface with campaign := some { c with word := n, ready := readyTime } } := rfl
@[simp] theorem campaignWord_faults (c : Campaign) (n : Nat) (s : State) : (campaignWord c n s).faults = s.faults := rfl
@[simp] theorem campaignWord_memory (c : Campaign) (n : Nat) (s : State) :
    (campaignWord c n s).memory = s.memory.write n (c.record.word s.stationNumber n) := rfl

/-! ### Fields of a block that an update writes in part -/

@[simp] theorem setOutput_state (a : Nat) (s : State) : (setOutput a s).run.state = s.run.state := rfl
@[simp] theorem setOutput_primingTimer (a : Nat) (s : State) : (setOutput a s).run.primingTimer = s.run.primingTimer := rfl
@[simp] theorem setW_setpoint (w : Nat) (s : State) : (setW w s).gap.setpoint = w := rfl
@[simp] theorem setW_target (w : Nat) (s : State) : (setW w s).gap.target = s.gap.target := rfl
@[simp] theorem setW_span (w : Nat) (s : State) : (setW w s).gap.span = s.gap.span := rfl
@[simp] theorem setW_reference (w : Nat) (s : State) : (setW w s).gap.reference = s.gap.reference := rfl
@[simp] theorem setW_activity (w : Nat) (s : State) : (setW w s).gap.activity = s.gap.activity := rfl
@[simp] theorem setW_history (w : Nat) (s : State) : (setW w s).gap.history = s.gap.history := rfl
@[simp] theorem setW_gapEstimate (w : Nat) (s : State) : (setW w s).gapEstimate = s.gapEstimate := rfl
@[simp] theorem openWindow_sample (s : State) : (openWindow s).monitor.sample = s.monitor.sample := rfl
@[simp] theorem openWindow_validity (s : State) : (openWindow s).monitor.validity = s.monitor.validity := rfl
@[simp] theorem noteReading_validity (r : Readings) (s : State) : (noteReading r s).monitor.validity = s.monitor.validity := rfl
@[simp] theorem noteReading_position (r : Readings) (s : State) : (noteReading r s).monitor.position = s.monitor.position := rfl

end Sys2Proof.Machine
end

