-- ==== Sys2Proof/Tests/Slice0.lean ====
section
/-!
SUPPORT. Tests: the smoke tests of WellFormed, worked examples of the manual, and for every statement with hypotheses a state and
operands that meet them, clause by clause. Expected results are the manual's own numbers.
-/

namespace Sys2Proof.Tests

open Sys2Proof Sys2Proof.Machine

-- Each kernel evaluation waits for the one before it: checked in turn, the tests hold no thread each while they wait.
set_option Elab.async false

/-! ### The example station (section 12.5 and the worked examples of station 12) -/

/-- Words 0 to 46 of the example configuration, in the table's order. -/
def exampleWords : List Nat :=
  [0x0202, 0x250F, 0x000A, 500, 1000, 1000, 60, 600, 150, 50, 100, 120, 500, 1100, 1500, 0x3214] ++
  [100, 250, 400, 950, 700, 400, 250, 320, 80, 60, 100, 750, 900, 700, 900, 150] ++
  [350, 500, 160, 400, 300, 600, 0x0505, 0x0C03, 0x3208, 0x280A, 0x0A1E, 0x1450, 0x7828, 300, 120]

/-- The words with the check word that brings their sum to 0 modulo 65536 (R162). -/
def withCheck (ws : List Nat) : List Nat := ws ++ [(65536 - ws.sum % 65536) % 65536]

/-- An image of words from an address on. -/
def imageFrom (start : Nat) (ws : List Nat) : List (BitVec 8 × Word) :=
  ws.zipIdx.map (fun e => (BitVec.ofNat 8 (start + e.2), BitVec.ofNat 16 e.1))

/-- The example configuration with a wear record of chapter 8's totals: contact 2306, 443, 249, 1240 μm, 18. -/
def exampleImage : List (BitVec 8 × Word) :=
  imageFrom 0 (withCheck exampleWords) ++ imageFrom 64 (withCheck [2306, 443, 249, 1240, 18, 0x5C3A, 12])

/-- The example configuration, decoded. -/
def exampleSettings : Settings := decodeSettings (fun a => BitVec.ofNat 16 (exampleWords.getD a 0))

/-- A load sample: cavity level and power as given, everything valid. -/
def sampleOf (power cavity : Nat) (pile : Option Nat) : LoadSample where
  power := power
  pressure := some 36
  peak := some 48
  cavity := cavity
  pile := pile
  throughput := 252
  loadClass := .normal
  nofeed := false
  validity := ⟨.valid, .valid, .valid, .valid, .valid⟩

/-- Station 12 in a run state and an activity, its receiver ready, referenced at 2300 with the cylinder at 2050 and 450 μm of wear:
G = 254. -/
def station (r : RunState) (a : Activity) : State :=
  { State.reset with
    settings := exampleSettings
    stationNumber := 12
    motorRunning := true
    monitor := { Monitor.reset with position := some 2050, positionValid := true, sample := some (sampleOf 221 80 (some 300)) }
    run := { State.reset.run with state := r }
    line := { State.reset.line with receiver := .ready }
    gap := { GapController.reset with reference := .referenced 2300, wearAcc := 450, target := 254, span := 30
                                      setpoint := 254, activity := a } }

/-- The same station without a reference. -/
def unreferenced (r : RunState) (a : Activity) : State := { station r a with gap.reference := .unreferenced }

/-- Its queue. -/
def queued (s : State) (es : List Entry) : State := { s with queue := es }

/-- An entry of requester 0 with tag 5. -/
def entry (k : QueuedKind) (active : Bool) : Entry where
  requester := 0
  tag := 5
  kind := k
  argument := if k = .setGap then some 240 else none
  noRetry := false
  active := active

/-- A closing move from 259 that has not stalled. -/
def move (stallCount : Nat) (noRetry : Bool) : Move where
  direction := .closing
  noRetry := noRetry
  stallCount := stallCount
  mark := 259
  stall := 8000
  reversal := none
  paused := false

/-- A calibration in a phase. -/
def calibration (k : CalKind) (p : CalPhase) : Calibration where
  kind := k
  seekLimit := some 120000
  phase := p

/-- A seek pulse. -/
def pulse (on : Bool) (still start : Nat) : SeekPulse where
  on := on
  left := 400
  still := still
  start := start

/-- A panel's frame to station 12. -/
def toUs : Address := ⟨0, 12⟩

/-- A frame to every station. -/
def toAll : Address := ⟨0, 31⟩

/-- Ordinary readings: 221 kW, the given pressure loop current, cavity 620, pile 300, the given position. -/
def readings (pressure position : Nat) : Readings where
  power := 12840
  pressure := pressure
  cavity := 13920
  pile := 8800
  position := position
  positionMarked := true

/-- A DEMAND to the secondary stage, group 37. -/
def demandFrame (sequence presence command : Byte) : DemandPayload where
  stage := 2
  groupCode := 37
  groupMask := 0xFF
  sequence := sequence
  presence := presence
  command := command
  stageTarget := 1000
  gapTarget := 254
  span := 30

/-- A STATUS of station 11. -/
def statusFrame (period : Byte) : StatusPayload where
  kind := 2
  groupCode := 37
  runState := 5
  gapState := 1
  fault := 0
  flags := 0x28
  reportPeriod := period
  capacity := 330
  throughput := 300
  power := 200
  output := 400
  gap := 0
  pile := 300
  sequence := 0
  command := 0

/-- A secondary belt member's entry. -/
def peer (number : Nat) (r : RunState) (e : EntryState) (capacity throughput : Nat) (pile : Option Nat) : PeerEntry where
  number := number
  kind := .secondary
  groupCode := 37
  runState := r
  reportPeriod := 500
  capacity := capacity
  throughput := throughput
  power := 200
  pile := pile
  silence := 0
  entryState := e
  belt := true
  powerMember := true

/-- The wear record the station would write. -/
def exampleRecord : WearRecord where
  contact := some 2300
  linerTonnes := 443
  linerWear := 249
  wearAcc := 450
  calCount := 18

/-- A campaign at a word. -/
def campaignAt (word : Nat) (cutOff : Bool) : Campaign where
  record := exampleRecord
  word := word
  ready := 25
  cutOff := cutOff
  forLiner := true

/-- The state a command leaves. -/
def after (o : Host.Outcome State Fault Refusal) (s : State) : State :=
  match o with
  | .next t => t
  | _ => s

/-! ### WellFormed refuses an ill-formed term for each of its checks -/

theorem test_wellFormed_image :
    (Instr.startSequenceEnd 12 (.fitted [(3, 5), (3, 6)])).wellFormed = false ∧
      (Instr.startSequenceEnd 12 (.fitted exampleImage)).wellFormed = true := by decide +kernel

theorem test_wellFormed_demand :
    (Instr.demand toAll (demandFrame 1 8 1)).wellFormed = false ∧ (Instr.demand toAll (demandFrame 1 7 1)).wellFormed = true := by
  decide

theorem test_wellFormed_run : (Instr.run toAll (demandFrame 1 8 2)).wellFormed = false ∧
    (Instr.run toAll (demandFrame 1 8 1)).wellFormed = true := by decide

theorem test_wellFormed_stop : (Instr.stop toAll (demandFrame 1 0 2)).wellFormed = false ∧
    (Instr.stop toAll (demandFrame 1 8 2)).wellFormed = true := by decide

theorem test_wellFormed_badKind :
    (Instr.badKind toUs 0 1 200).wellFormed = false ∧ (Instr.badKind toUs 0 8 4).wellFormed = false ∧
      (Instr.badKind toUs 0 8 5).wellFormed = true ∧ (Instr.badKind toUs 0 9 0).wellFormed = true := by decide

/-- The opcode table gives no row bits. -/
theorem test_decodeTableWord : decodeTableWord 16 0x1234 = none := rfl

/-! ### Worked examples of the manual -/

/-- Section 1.1: 13520 μA on a span of 400 kW is 238 kW, and 13920 μA of cavity is 620. -/
theorem test_scaling : scaleLoop 400 13520 = 238 ∧ scaleLoop 1000 13920 = 620 := by decide

/-- Section 7.1: p_contact 2300, position 2050 and 450 μm of wear give G = 254. -/
theorem test_gapEstimate : (station .running .holding).gapEstimate = some 254 := by decide +kernel

/-- Section 7.2's table of windows. -/
theorem test_windows :
    let c := exampleSettings
    (windowLower c (.referenced 0) 254 30, windowUpper c (.referenced 0) 254 30) = (224, 284) ∧
      (windowLower c (.referenced 0) 170 30, windowUpper c (.referenced 0) 170 30) = (160, 200) ∧
      (windowLower c (.provisional 0) 170 30, windowUpper c (.provisional 0) 170 30) = (210, 210) ∧
      (windowLower c (.provisional 0) 254 30, windowUpper c (.provisional 0) 254 30) = (224, 284) := by decide +kernel

/-- Section 1.4: the fifth of the example's pulses passes the mark, and the wear accumulator rises by 40 μm. -/
theorem test_pulse_mark :
    let s := { station .running .holding with monitor.calibrationKg := 99990, monitor.linerKg := 41340 }
    let t := after (exec .beltScalePulse s) s
    (t.monitor.calibrationKg, t.monitor.linerKg, t.gap.wearAcc) = (0, 41350, 490) := by decide +kernel

/-- Section 1.4: at 600 t/h and an output of 408 ‰ a reading adds 244800 to the remainder; with 244800 there already it is one
kilogram, here the one that passes the mark of both counters. -/
theorem test_estimate_mark :
    let s := { station .running .holding with
      settings.pulseWeight := 0, drive.output := 408, monitor.remainder := 244800
      monitor.calibrationKg := 99999, monitor.linerKg := 99999, gap.linerTonnes := 443 }
    let t := after (exec (.readingEvent (readings 5920 2050)) s) s
    (t.monitor.remainder, t.monitor.calibrationKg, t.monitor.linerKg) = (129600, 0, 0) ∧
      (t.gap.wearAcc, t.gap.linerTonnes) = (490, 444) ∧ t.presentPressure = some 48 := by decide +kernel

/-- Chapter 1's window at station 12: 221 kW, 252 t/h, class NORMAL, which is pushed on the history. -/
theorem test_window_example :
    let s := { station .running .holding with
      drive.output := 408
      monitor.power := ⟨22140, 100⟩, monitor.pressure := ⟨3610, 100⟩, monitor.cavity := ⟨62000, 100⟩
      monitor.pile := ⟨30000, 100⟩, monitor.output := ⟨40800, 100⟩, monitor.peak := some 48
      monitor.pulseCount := 7 }
    let t := after (exec .windowClose s) s
    t.monitor.sample.map (fun l => (l.power, l.pressure, l.peak, l.cavity)) = some (221, some 36, some 48, 620) ∧
      t.monitor.sample.map (fun l => (l.pile, l.throughput, l.loadClass)) = some (some 300, 252, .normal) ∧
      t.gap.history = [.normal] := by decide +kernel

/-- Chapter 4's worked case 1: L 750, K 180, c_s 304, S 273, S_c 245, r 408. -/
theorem test_share_case_1 :
    let s := { station .running .holding with
      monitor.sample := some (sampleOf 221 620 (some 300)), drive.output := 408, share.trim := 900, run.target := 1000
      settings.trimStep := 0, peers.entries :=
        [peer 11 .running .live 330 300 none, peer 13 .running .silent 310 180 none] }
    let t := after (exec .sharePeriodExpiry s) s
    t.share.record.map (fun r => (r.factor, r.demand, r.committed, r.available, r.capacity, r.capacitySum)) =
        some (750, 750, 180, 570, 304, 634) ∧
      t.share.record.map (fun r => (r.share, r.capped, r.rate, r.liveMembers, r.silentMembers)) =
        some (273, 245, 408, 1, 1) ∧ t.drive.setpoint = 408 := by decide +kernel

/-- Chapter 4's pile latch at a primary station, computations 1, 2 and 6. -/
theorem test_pile_latch :
    let c := { exampleSettings with kind := .primary, hwLo := 700, hwHi := 900 }
    (stage1 c false false (some 820)).factor = 400 ∧ (stage1 c false false (some 905)).full = true ∧
      (stage1 c true false (some 850)).factor = 0 ∧ (stage1 c true false none).factor = 0 ∧
      (stage1 c true false (some 700)).factor = 1000 ∧ (stage1 c false false (some 760)).factor = 700 ∧
      (stage1 c false false none).factor = 500 := by decide +kernel

/-- Chapter 5's trim sequence. -/
theorem test_trim_sequence :
    [1540, 1380, 1450, 1720, 1610, 1470, 1400].foldl (trimUpdate exampleSettings) 1000 = 826 := by decide +kernel

/-- Section 6.3: the example ramps step by 5 and 10, and an output at the minimum rate of 150 steps to 0. -/
theorem test_ramp :
    let c := exampleSettings
    rampStep c.rampUp = 5 ∧ rampStep c.rampDown = 10 ∧ rampToward c 408 0 = 150 ∧ rampToward c 0 155 = 150 ∧
      rampToward c 0 150 = 0 := by decide +kernel

/-- The CRC of section 11.1's polynomial, initial value and bit order over the digits 1 to 9 is 29B1h. -/
theorem test_crc : crc16 [49, 50, 51, 52, 53, 54, 55, 56, 57] = 0x29B1 := by decide +kernel

/-- A received frame from header, payload and its CRC. -/
def framed (body : List Byte) : List Byte := body ++ [hiByte (crc16 body), loByte (crc16 body)]

/-- Section 12.6: a SET_GAP to 240 with tag 5 and NO_RETRY, a QUERY of item 3, a STOP, a kind code that is none. -/
theorem test_frames :
    commandOfFrame false (framed [0x64, 0, 12, 0x85, 1, 0, 240]) = .setGap toUs 5 true 240 ∧
      commandOfFrame false (framed [0x64, 0, 12, 5, 8, 0, 3]) = .queryShare toUs 5 ∧
      commandOfFrame false (framed [0x4B, 0, 31, 2, 37, 0xFF, 1, 8, 2, 0x03, 0xE8, 0, 254, 30]) =
        .stop toAll (demandFrame 1 8 2) ∧
      commandOfFrame false (framed [0x64, 0, 12, 5, 9, 0, 3]) = .badKind toUs 5 9 3 := by decide +kernel

/-- R152: a wrong CRC and a length the kind does not allow are discarded. -/
theorem test_frames_discarded :
    commandOfFrame false [0x64, 0, 12, 5, 8, 0, 3, 0, 0] = .frameDiscarded ∧
      commandOfFrame false (framed [0x63, 0, 12, 5, 8, 0]) = .frameDiscarded := by decide +kernel

/-- The example configuration is valid, and a start on it is IDLE and PROVISIONAL at 2306. -/
theorem test_start :
    let s := after (exec (.startSequenceEnd 12 (.fitted exampleImage)) State.reset) State.reset
    s.run.state = .idle ∧ s.gap.reference = .provisional 2306 ∧ s.settings = exampleSettings ∧ s.gap.target = 300 := by
  decide +kernel

/-- R152: a frame that ends while the receiver waits for the line to be idle was never started. -/
theorem test_frame_before_idle :
    let s := { station .idle .holding with line.receiver := .waitingIdle }
    exec (.holdFeed toUs 5) s = .next s ∧ exec .frameDiscarded s = .next s := ⟨by rfl, by rfl⟩

/-- R103: an opening move that stalls at a gap of 0 has reached the goal of its reversal and resumes. -/
theorem test_stall_at_zero :
    let m := { move 0 false with direction := .opening }
    let s := { station .running (.moving m) with monitor.position := some 2400 }
    (after (exec .stallTimerExpiry s) s).gap.activity = .moving { m with stallCount := 1, mark := 0 } := by decide +kernel

/-- R97: a W kept within the window in STUCK keeps its mark, here at a span that leaves W where it was. -/
theorem test_held_setpoint_keeps_its_mark :
    let s := { station .idle .stuck with gap.approach := true }
    let t := after (exec (.demand toAll (demandFrame 1 4 0)) { s with gap.span := 20 }) s
    (t.gap.span, t.gap.setpoint, t.gap.approach) = (30, 254, true) := by decide +kernel

/-- R130: LINER_WORN is clear after reset, whatever limit will be read. -/
theorem test_liner_worn_after_reset : State.reset.linerWorn = false := by decide

/-- R164: a campaign that times out at its check word leaves no valid record. -/
theorem test_timed_out_record :
    let s := { station .idle .holding with
      interface.campaign := some (campaignAt 71 false)
      memory := { cells := imageCells (imageFrom 64 (withCheck [2306, 443, 249, 1240, 18, 0x5C3A, 12]))
                  enabled := true, programming := some (71, 5) } }
    wearRecordValid 12 s.memory.read = true ∧
      wordSum (readCells (writeCells 71 (spoiledWord s.memory.cells 71 (s.memory.read 71)) s.memory.cells)) 64 8 = 1 := by
  decide +kernel

/-- R164, R165: a campaign cut off in word 64 over a valid record writes the contact that stood there and leaves words that still
sum to 0; its last word is then given up, and the sum is no longer 0. -/
theorem test_cut_short_record :
    let s := { station .tripped .holding with
      interface.campaign := some (campaignAt 64 true)
      memory := { cells := imageCells (imageFrom 64 (withCheck [2300, 443, 249, 1240, 18, 0x5C3A, 12]))
                  enabled := true, programming := some (64, 2300) } }
    wordSum s.memory.finish.read 64 8 = 0 ∧
      wordSum (readCells (writeCells 64 (spoiledWord s.memory.finish.cells 64 2300) s.memory.finish.cells)) 64 8 = 1 := by
  decide +kernel

/-- R97: at a contact with a W of 0 kept, W is not set, and its mark stays. -/
theorem test_contact_keeps_the_mark :
    let s := { station .idle (.calibrating (calibration .requested (.seeking (pulse false 2 2050)))) with
      settings.gapMin := 0, gap.target := 0, gap.setpoint := 0, gap.approach := true }
    let t := after (exec .seekPulseOffEnd s) s
    (t.gapEstimate, t.gap.setpoint, t.gap.approach) = (some 0, 0, true) := by decide +kernel

/-! ### Every statement's hypotheses are met

One theorem for each statement that has hypotheses, in the statements' order; each clause with a state of its own. -/

theorem test_meets_StepRunsTheFrontCommand : ({ State.reset with pending := [.lineIdle] } : State).pending = .lineIdle :: [] := rfl

theorem test_meets_IdleStepPassesOneMillisecond :
    ∃ s : State, s.pending = [] ∧ s.millis < 1000 ∧ s.gap.activity = .moving (move 0 false) ∧
      s.monitor.positionValid = true :=
  ⟨{ station .running (.moving (move 0 false)) with millis := 999 }, rfl, by decide, rfl, rfl⟩

theorem test_meets_IdleStepPassesOneMillisecond_held :
    let s := { station .running (.moving (move 0 false)) with monitor.positionValid := false }
    let c := station .idle (.calibrating (calibration .requested (.backing 254 8000)))
    let d := station .idle (.recovering { mark := 254, stall := 8000, paused := false })
    s.pending = [] ∧ s.millis < 1000 ∧ s.gap.activity = .moving (move 0 false) ∧
      (s.monitor.positionValid = false ∨ (move 0 false).paused = true) ∧
      c.gap.activity = .calibrating (calibration .requested (.backing 254 8000)) ∧ c.monitor.positionValid = true ∧
      d.gap.activity = .recovering { mark := 254, stall := 8000, paused := false } ∧
      (station .idle (.relieved (some 3))).gap.activity = .relieved (some 3) := by decide +kernel

theorem test_meets_CommandsChangeOnlyWhatTheyOwn :
    exec .lineIdle State.reset = .next { State.reset with line.receiver := .ready } ∧ Instr.lineIdle ≠ .reset ∧
      Instr.lineIdle ≠ .windowClose ∧ Instr.lineIdle ≠ .sharePeriodExpiry ∧
      (∀ e ∈ State.reset.queue, e.kind = .linerChange → e.active = true) ∧
      (∀ e ∈ State.reset.queue, e.kind = .setGap → e.active = true) ∧ State.reset.run.state ≠ .priming := by
  exact ⟨rfl, by decide, by decide, by decide, by decide, by decide, by decide⟩

theorem test_meets_StandingStatesAreLeftOnlyAsTold :
    let s := report .supplyLow true (station .running .holding)
    exec .lineIdle s = .next { s with line.receiver := .ready } ∧ s.run.state = .tripped ∧ s.faults.first.isSome = true ∧
      .supplyLow ∈ s.faults.seen ∧ (station .unconfigured .holding).run.state = .unconfigured ∧
      (∀ header tag, Instr.lineIdle ≠ .clearFault header tag) ∧ FaultsSafe s ∧ step s = .next (tick s) := by
  refine ⟨rfl, by decide +kernel, by decide +kernel, by decide +kernel, rfl, ?_, by decide +kernel, rfl⟩
  intro _ _ h
  cases h

theorem test_meets_EventsOfIdleBlocksDoNothing :
    State.reset.active = false ∧ State.reset.run.state ≠ .priming ∧ State.reset.run.state ≠ .stopping ∧
      (∀ left, State.reset.gap.activity ≠ .relieved (some left)) ∧ State.reset.interface.campaign = none := by
  exact ⟨rfl, by decide, by decide, by simp [State.reset, GapController.reset], rfl⟩

/-- On an active station with a valid position: a paused move, a re-closing that is paused, BACKING with its seek limit stopped, and
SEEKING in each part of a pulse. A station in HOLDING meets every premise on the activity. -/
theorem test_meets_EventsOfIdleBlocksDoNothing_timers :
    let m := { move 0 false with paused := true }
    let b : Calibration := { kind := .requested, seekLimit := none, phase := .backing 254 8000 }
    let off := calibration .requested (.seeking (pulse false 0 2050))
    (station .running (.moving m)).gap.activity = .moving m ∧ m.paused = true ∧
      (station .running (.recovering ⟨254, 8000, true⟩)).gap.activity = .recovering ⟨254, 8000, true⟩ ∧
      (station .idle (.calibrating b)).gap.activity = .calibrating b ∧ b.seekLimit = none ∧
      (station .idle (.calibrating off)).gap.activity = .calibrating off ∧ off.phase = .seeking (pulse false 0 2050) ∧
      (pulse false 0 2050).on = false ∧ (pulse true 0 2050).on = true ∧ (station .idle .holding).gap.activity = .holding ∧
      (station .idle .holding).active = true ∧ State.reset.run.state = .starting := by decide +kernel

/-- R99: an off-band gap does not start a move at the expiry of a timer that does not run. -/
theorem test_stopped_timer_starts_no_move :
    let s := { station .idle .holding with gap.setpoint := 240 }
    exec .stallTimerExpiry s = .next s ∧ exec .seekLimitExpiry s = .next s := ⟨by rfl, by rfl⟩

theorem test_meets_EstimateModeAndTerminals :
    State.reset.gap.reference = .unreferenced ∧ (station .idle .holding).gap.reference = .referenced 2300 ∧
      (station .idle .holding).monitor.position = some 2050 := ⟨rfl, rfl, rfl⟩

theorem test_meets_ResetRestoresEveryBlock :
    let s := { station .tripped .holding with interface.campaign := some (campaignAt 64 true) }
    s.interface.campaign = some (campaignAt 64 true) ∧ (campaignAt 64 true).cutOff = true ∧ (campaignAt 64 true).word ≠ 71 ∧
      s.memory.wf = true ∧ 64 ≤ (campaignAt 64 true).word ∧ (campaignAt 71 true).word = 71 ∧
      State.reset.interface.campaign = none := by decide +kernel

theorem test_meets_StartEndsIdleOrUnconfigured :
    let m : Memory := { cells := imageCells exampleImage, enabled := false, programming := none }
    State.reset.run.state = .starting ∧ (station .idle .holding).run.state ≠ .starting ∧
      configurationValid 12 m.read = true ∧ wearRecordValid 12 m.read = true ∧ wearRecordValid 13 m.read = false ∧
      configurationValid 31 m.read = false ∧ State.reset.supplyLow = false := by decide +kernel

theorem test_meets_ReadingEventSumsEveryInput :
    (station .running .holding).active = true ∧ loopInRange 3600 = true ∧ loopInRange 21000 = true ∧
      loopInRange 3599 = false ∧ loopInRange 21001 = false := by decide +kernel

/-- Without a belt scale, away from a contact and at one; a VALID pressure input and a BROKEN one. -/
theorem test_meets_ReadingEventSumsEveryInput_estimate :
    let s := { station .running .holding with settings.pulseWeight := 0, drive.output := 408 }
    let k := { station .idle (.calibrating (calibration .requested (.seeking (pulse true 0 2290)))) with settings.pulseWeight := 0 }
    s.settings.pulseWeight = 0 ∧ (∀ e ∈ s.queue, e.kind ≠ .linerChange) ∧ s.monitor.validity.pressure = .valid ∧
      k.active = true ∧ k.settings.contactMark < scaleLoop k.settings.pressureSpan 6960 ∧
      (readings 6960 2290).positionMarked = true ∧ (readings 6960 2290).position ≤ 4095 ∧
      ({ s with monitor.validity.pressure := .broken } : State).monitor.validity.pressure = .broken := by decide +kernel

theorem test_meets_OutOfRangeReadingBreaksItsInput :
    let s := station .running .holding
    s.active = true ∧ s.monitor.validity = ⟨.valid, .valid, .valid, .valid, .valid⟩ ∧ s.settings.pileInput = true ∧
      s.run.state ≠ .tripped := by decide +kernel

theorem test_meets_PulseWeighsIntoBothCounters :
    (station .running .holding).active = true ∧ (station .running .holding).settings.pulseWeight ≠ 0 ∧
      (∀ e ∈ (station .running .holding).queue, e.kind ≠ .linerChange) ∧ State.reset.settings.pulseWeight = 0 := by
  decide +kernel

theorem test_meets_WindowCloseFormsTheSample :
    let s := { station .running .holding with
      monitor.power := ⟨221, 1⟩, monitor.cavity := ⟨620, 1⟩, monitor.pressure := ⟨36, 1⟩, monitor.pile := ⟨300, 1⟩ }
    let b := { s with monitor.validity := ⟨.broken, .broken, .broken, .broken, .valid⟩
                      monitor.inRange := ⟨false, false, false, false, true⟩ }
    s.active = true ∧ b.active = true ∧ s.monitor.power.count ≠ 0 ∧ s.monitor.cavity.count ≠ 0 ∧
      s.monitor.pressure.count ≠ 0 ∧ s.monitor.pile.count ≠ 0 ∧ s.settings.pileInput = true ∧ s.drive.output = 0 ∧
      restoreAll s.monitor = ⟨.valid, .valid, .valid, .valid, .valid⟩ ∧
      restoreAll b.monitor = ⟨.broken, .broken, .broken, .broken, .valid⟩ ∧
      ({ s with drive.output := 408 } : State).drive.output ≠ 0 ∧ s.run.state = .running ∧ s.queue = [] := by decide +kernel

theorem test_meets_WindowCloseFormsTheSample_classes :
    let s := { station .running .holding with monitor.power := ⟨240, 1⟩, monitor.output := ⟨408, 1⟩ }
    let classOf := fun (s : State) =>
      (after (exec .windowClose s) s).monitor.sample.map (·.loadClass)
    s.active = true ∧ s.settings.pulseWeight ≠ 0 ∧ s.monitor.output.count ≠ 0 ∧ classOf s = some .over ∧
      classOf { s with monitor.power := ⟨170, 1⟩ } = some .under ∧
      classOf { s with monitor.power := ⟨221, 1⟩ } = some .normal ∧
      classOf { s with monitor.power := ⟨221, 1⟩, monitor.peak := some 251 } = some .over := by decide +kernel

theorem test_meets_ReportEntersThePeerOrIsADuplicate :
    let s := station .running .holding
    let p := statusFrame 5
    s.active = true ∧ s.line.receiver ≠ .waitingIdle ∧ s.addressed toAll = true ∧ p.codesDefined = true ∧
      (11 : Byte).toNat ≠ s.stationNumber ∧
      s.addressed ⟨11, 31⟩ = true ∧ s.addressed ⟨12, 31⟩ = true ∧ (12 : Byte).toNat = s.stationNumber ∧
      200 ≤ (statusFrame 2).reportPeriod.toNat * 100 ∧ (statusFrame 20).reportPeriod.toNat * 100 ≤ 2000 := by decide +kernel

theorem test_meets_AgeingRemovesAndSilences :
    ({ station .idle .holding with peers.entries := [peer 13 .running .live 310 180 none] } : State).active = true := rfl

theorem test_meets_PeerTableStaysOrdered :
    let s := { station .idle .holding with
      peers.entries := [peer 11 .running .live 330 300 none, peer 13 .running .live 310 180 none] }
    PeersSafe s ∧ step s = .next (tick s) := ⟨by decide +kernel, rfl⟩

theorem test_meets_DemandIsAcceptedWhenItMatchesAndIsNewer :
    (station .idle .holding).acceptsDemand toAll (demandFrame 1 8 1) = true ∧
      (station .idle .holding).line.receiver ≠ .waitingIdle ∧
        State.reset.acceptsDemand toAll (demandFrame 1 8 1) = false := by decide +kernel

theorem test_meets_DemandStoresItsFields :
    let m := station .running (.moving (move 0 true))
    let a := queued m [entry .setGap true]
    let k := station .running .stuck
    let ready := fun (s : State) (presence : Byte) =>
      s.acceptsDemand toAll (demandFrame 1 presence 1) = true ∧ s.line.receiver ≠ .waitingIdle
    ready (station .idle .holding) 15 ∧ (station .idle .holding).queue = [] ∧ ready (station .unconfigured .holding) 15 ∧
      (station .unconfigured .holding).active = false ∧ ready m 2 ∧ m.active = true ∧ m.gapState ≠ .stuck ∧ ready a 2 ∧
      a.queue = [entry .setGap true] ∧ (entry .setGap true).active = true ∧ ready k 2 ∧ k.gapState = .stuck ∧
      ready (station .stopping .holding) 15 ∧ ready (station .priming .holding) 7 ∧
      (demandFrame 1 2 1).presence.getLsbD 1 = true ∧ (demandFrame 1 2 1).presence.getLsbD 2 = false := by decide +kernel

theorem test_meets_RunEntersRunningOrPriming :
    let s := station .idle .holding
    let u := unreferenced .idle .holding
    let ready := fun (s : State) => s.acceptsDemand toAll (demandFrame 1 8 1) = true ∧ s.line.receiver ≠ .waitingIdle
    ready s ∧ s.run.state = .idle ∧ s.queue = [] ∧
      s.gap.reference.present = true ∧ s.gapState ≠ .calibrating ∧ s.motorRunning = true ∧
      ready { s with motorRunning := false } ∧ ready u ∧ u.gap.reference.present = false ∧
      ready (station .stopping .holding) ∧ s.gapState.feeds = true ∧
      ready (unreferenced .priming .holding) ∧ (unreferenced .priming .holding).gap.reference = .unreferenced ∧
      ready (station .running .holding) ∧ ready (station .held .holding) ∧ (station .held .holding).queue = [] ∧
      ready (station .tripped .holding) ∧ ready (station .unconfigured .holding) := by decide +kernel

theorem test_meets_StopEntersStopping :
    let p := unreferenced .priming (.calibrating (calibration .internal (.opening 2050)))
    (station .running .holding).acceptsDemand toAll (demandFrame 1 8 2) = true ∧ p.line.receiver ≠ .waitingIdle ∧
      (station .running .holding).drive.output = 0 ∧ (station .held .holding).acceptsDemand toAll (demandFrame 1 8 2) = true ∧
      p.acceptsDemand toAll (demandFrame 1 8 2) = true ∧ p.motorRunning = true ∧ p.queue = [] ∧
      ({ p with motorRunning := false } : State).acceptsDemand toAll (demandFrame 1 8 2) = true ∧
      (station .tripped .holding).acceptsDemand toAll (demandFrame 1 8 2) = true ∧
      (∀ c, p.gap.activity = .calibrating c → c.kind = .internal) := by
  refine ⟨by decide +kernel, by decide, rfl, by decide +kernel, by decide +kernel, rfl, rfl, by decide +kernel,
    by decide +kernel, ?_⟩
  intro c h
  cases h
  rfl

/-- A requested calibration in PRIMING, in OPENING and, with a frame that brings no gap target and no span, in BACKING; STOPPING. -/
theorem test_meets_StopEntersStopping_requested :
    let at_ := fun (p : CalPhase) => queued (station .priming (.calibrating (calibration .requested p))) [entry .calibrate true]
    let o := at_ (.opening 2050)
    let b := at_ (.backing 0 8000)
    o.acceptsDemand toAll (demandFrame 1 15 2) = true ∧ o.line.receiver ≠ .waitingIdle ∧ o.run.state = .priming ∧
      o.motorRunning = true ∧ o.gap.activity = .calibrating (calibration .requested (.opening 2050)) ∧
      b.acceptsDemand toAll (demandFrame 1 8 2) = true ∧ (demandFrame 1 8 2).gap? = none ∧ (demandFrame 1 8 2).span? = none ∧
      o.queue = entry .calibrate true :: [] ∧ (entry .calibrate true).active = true ∧
      (station .stopping .holding).acceptsDemand toAll (demandFrame 1 8 2) = true := by decide +kernel

theorem test_meets_RunControlTimersExpire :
    let p := { unreferenced .priming .holding with run.primingTimer := some 0 }
    let c := { station .stopping .holding with run.clearTimer := some 0 }
    p.run.state = .priming ∧ p.run.primingTimer.isSome = true ∧ c.run.state = .stopping ∧ c.run.clearTimer.isSome = true ∧
      c.interface.campaign = none ∧ c.supplyLow = false ∧ c.queue = [] ∧ (station .stopping .holding).run.clearTimer = none ∧
      (after (exec .windowClose { c with monitor.cavity := ⟨80, 1⟩ }) c).monitor.sample.map (·.cavity) = some 80 ∧
      80 ≤ c.settings.cavityEmpty := by decide +kernel

theorem test_meets_MotorAndSupplyEdges :
    (station .stopping .holding).run.state = .stopping ∧ (station .idle .holding).standingRequest = false ∧
      ¬ ((station .idle .holding).run.state = .running ∨ (station .idle .holding).run.state = .held ∨
        (station .idle .holding).run.state = .stopping) := by decide +kernel

theorem test_meets_HoldAndReleaseFeed :
    (station .running .holding).addressedAlone toUs = true ∧ (station .running .holding).active = true ∧
      (station .running .holding).line.receiver ≠ .waitingIdle ∧
      (station .running .holding).gapState.feeds = true ∧ (station .held .holding).run.state = .held := by decide +kernel

theorem test_meets_RunControlStaysConsistent :
    RunSafe (station .running .holding) ∧ step (station .running .holding) = .next (tick (station .running .holding)) :=
  ⟨by decide +kernel, rfl⟩

/-- The premise of the share, trim and ramp statements. -/
theorem test_meets_share :
    let s := { station .running .holding with
      peers.entries := [peer 11 .running .live 330 300 (some 250), peer 13 .running .silent 310 180 none] }
    s.active = true ∧ s.peers.entries.Pairwise (fun a b => a.number < b.number) ∧ s.settings.kind = .secondary ∧
      s.settings.lwLo < s.settings.lwHi ∧ s.settings.hwLo < s.settings.hwHi ∧ s.settings.pileInput = true ∧
      s.gapEstimate = some 254 ∧ (unreferenced .running .holding).gapEstimate = none := by decide +kernel

/-- An active station whose gap estimate is known, and one whose gap estimate is absent, work the share stages. -/
theorem test_meets_ShareStagesAreWorkedInOrder :
    let blind := { station .running .holding with gap.reference := .unreferenced }
    (station .running .holding).active = true ∧ (station .running .holding).gapEstimate.isSome = true ∧
      blind.active = true ∧ blind.gapEstimate = none := by decide +kernel

/-- Station 12 without an own level takes peer 11's, and with no peer's either the level is unknown. -/
theorem test_meets_LevelFactorFollowsThePileLevel :
    let own := { station .running .holding with monitor.sample := none }
    let heard := { own with peers.entries := [peer 11 .running .live 330 300 (some 250)] }
    selectLevel heard = (some 250, .peer 11) ∧ selectLevel own = (none, .none) ∧
      selectLevel (station .running .holding) = (some 300, .own) := by decide +kernel

/-- Each of Power Trim's four cases arises at station 12. -/
theorem test_meets_PowerTrimUpdate :
    let s := station .running .holding
    powerSum (ownPower s) s.peers.entries < s.settings.powerBudget * (1000 - s.settings.trimBand) / 1000 ∧
      s.settings.powerBudget < powerSum 1501 s.peers.entries ∧ s.settings.powerBudget ≠ 0 ∧
      powerSum 1500 s.peers.entries = s.settings.powerBudget := by decide +kernel

/-- Each drive mode arises. -/
theorem test_meets_RampIntervalMovesTheOutput :
    (station .running .holding).driveMode = .feeding ∧ (station .held .holding).driveMode = .frozen ∧
      (station .stopping .holding).driveMode = .rundown ∧ (station .idle .holding).driveMode = .zeroed := by decide +kernel

theorem test_meets_FeedingStaysSafe :
    let s := { station .running .holding with drive.output := 150, drive.setpoint := 1000 }
    FeederSafe s ∧ CapacitySafe s ∧ TrimSafe s ∧ step s = .next (tick s) :=
  ⟨by decide +kernel, by decide +kernel, by decide +kernel, rfl⟩

theorem test_meets_WorkingSetpointStaysInItsWindow :
    let s := { station .running .holding with gap.history := [.over, .normal], gap.jumpWindow := [(0, 254)] }
    SetpointSafe s ∧ HistorySafe s ∧ step s = .next (tick s) := ⟨by decide +kernel, by decide +kernel, rfl⟩

theorem test_meets_LoadHistoryAndStepDecisions :
    let s := { station .running .holding with monitor.power := ⟨240, 1⟩, gap.history := [.over, .over] }
    s.active = true ∧ s.headStartable = false ∧ s.run.state ≠ .priming ∧ s.monitor.nofeed = false ∧
      (after (exec .windowClose s) s).gap.setpoint = 259 := by decide +kernel

theorem test_meets_StallsReverseOrEndTheMove :
    let s := { station .running (.moving (move 0 false)) with gap.setpoint := 240 }
    let b := queued (station .idle (.calibrating (calibration .requested (.backing 0 8000)))) [entry .calibrate true]
    let d := station .running (.recovering { mark := 254, stall := 8000, paused := false })
    s.active = true ∧ s.monitor.positionValid = true ∧ s.gap.activity = .moving (move 0 false) ∧ s.queue = [] ∧
      (move 0 false).paused = false ∧ s.gapEstimate = some 254 ∧ (move 1 false).stallCount ≠ 0 ∧
      (move 0 true).noRetry = true ∧ (entry .setGap true).active = true ∧ s.run.state ≠ .priming ∧
      b.active = true ∧ b.monitor.positionValid = true ∧ b.gapEstimate = some 254 ∧ b.queue = [entry .calibrate true] ∧
      (calibration .requested (.backing 0 8000)).phase = .backing 0 8000 ∧ (entry .calibrate true).kind = .calibrate ∧
      d.active = true ∧ d.gapEstimate = some 254 ∧ d.queue = [] ∧ d.monitor.positionValid = true := by decide +kernel

theorem test_meets_CrossingTheSetpointEndsSetGap :
    let s := queued (station .running (.moving (move 0 false))) [entry .setGap true]
    s.active = true ∧ s.gap.armed = true ∧ s.gap.activity = .moving (move 0 false) ∧ (entry .setGap true).kind = .setGap ∧
      (readings 5920 2050).positionMarked = true ∧ s.gap.reference.contact? = some 2300 ∧
      (2300 + s.gap.wearAcc / 100) - 2050 ≤ s.gap.setpoint ∧ (move 0 false).direction = .closing ∧
      ({ s with gap.armed := false } : State).gap.armed = false ∧ s.run.state ≠ .tripped ∧
      scaleLoop s.settings.pressureSpan 5920 ≤ s.settings.trampMark ∧
      s.settings.trampMark < scaleLoop s.settings.pressureSpan 16880 ∧ gapDistance 254 s.gap.setpoint ≤ s.settings.holdBand ∧
      s.settings.holdBand < gapDistance ((2300 + s.gap.wearAcc / 100) - 2070) s.gap.setpoint := by decide +kernel

/-- Readings of 48 bar at a G of 254, above the W of 240 and not above the settings' marks; a reversal to 254 is at its goal. -/
theorem test_meets_MoveReadingsPauseAndProgress :
    let m := move 0 false
    let b := { move 1 false with reversal := some 254 }
    let s := { station .running (.moving m) with gap.setpoint := 240, monitor.calibrationKg := 99990 }
    s.active = true ∧ s.gap.reference.contact? = some 2300 ∧ (2300 + s.gap.wearAcc / 100) - 2050 = 254 ∧
      scaleLoop s.settings.pressureSpan 5920 = 48 ∧ 48 ≤ s.settings.trampMark ∧ s.gap.jumpWindow = [] ∧
      m.direction = .closing ∧ 240 < 254 ∧ m.reversal = none ∧ s.settings.pressureOver = 250 ∧
      250 < scaleLoop s.settings.pressureSpan 14160 ∧ scaleLoop s.settings.pressureSpan 14160 ≤ s.settings.trampMark ∧
      b.reversal = some 254 ∧ s.settings.pulseWeight ≠ 0 ∧ 100000 ≤ s.monitor.calibrationKg + s.settings.pulseWeight ∧
      (2300 + min 65535 (s.gap.wearAcc + s.settings.wearRate) / 100) - 2050 = 254 ∧ s.monitor.position = some 2050 := by
  decide +kernel

theorem test_meets_SeekPulsesFindTheContact :
    let c := fun (on : Bool) (still start : Nat) => calibration .requested (.seeking (pulse on still start))
    let s := station .idle (.calibrating (c false 2 2040))
    s.active = true ∧ s.monitor.positionValid = true ∧ s.gap.activity = .calibrating (c false 2 2040) ∧
      (c false 2 2040).phase = .seeking (pulse false 2 2040) ∧ s.monitor.position = some 2050 ∧
      (pulse false 2 2040).start < 2050 ∧ (pulse false 1 2050).still < 2 ∧ (pulse true 0 2050).on = true := by decide +kernel

theorem test_meets_SeekPulsesFindTheContact_still :
    let c := calibration .requested (.seeking (pulse false 2 2050))
    let s := station .idle (.calibrating c)
    s.active = true ∧ s.monitor.positionValid = true ∧ s.gap.activity = .calibrating c ∧ (pulse false 2 2050).still = 2 ∧
      2050 ≤ (pulse false 2 2050).start ∧ s.monitor.position = some 2050 ∧
      ({ s with supplyLow := true } : State).supplyLow = true := by decide +kernel

theorem test_meets_SeekLimitFailsTheCalibration :
    let i := unreferenced .priming (.calibrating (calibration .internal (.opening 2050)))
    let r := queued (station .idle (.calibrating (calibration .requested (.opening 2050)))) [entry .calibrate true]
    i.active = true ∧ i.monitor.positionValid = true ∧ (calibration .internal (.opening 2050)).seekLimit.isSome = true ∧
      i.run.state = .priming ∧ r.active = true ∧ r.run.state = .idle ∧ r.queue = [entry .calibrate true] ∧
      (entry .calibrate true).active = true := by decide +kernel

/-- A requested calibration in PRIMING, without a reference and with one, and in STOPPING; the conditions of R120 met and not. -/
theorem test_meets_SeekLimitFailsTheCalibration_priming :
    let at_ := fun (f : RunState → Activity → State) (r : RunState) =>
      queued (f r (.calibrating (calibration .requested (.opening 2050)))) [entry .calibrate true]
    let u := at_ unreferenced .priming
    u.active = true ∧ u.monitor.positionValid = true ∧ u.queue = [entry .calibrate true] ∧ u.run.state = .priming ∧
      u.gap.reference = .unreferenced ∧ u.motorRunning = true ∧ u.monitor.sample = some (sampleOf 221 80 (some 300)) ∧
      80 ≤ u.settings.cavityEmpty ∧ u.monitor.position = some 2050 ∧
      ({ u with motorRunning := false } : State).motorRunning = false ∧
      (at_ station .priming).gap.reference ≠ .unreferenced ∧ (at_ station .stopping).run.state = .stopping := by decide +kernel

/-- A reading that ends OPENING; one above the contact mark of 60 and one of 4095 below it; BACKING below and at W. -/
theorem test_meets_ReadingsMoveTheCalibration :
    let o := station .idle (.calibrating (calibration .requested (.opening 2100)))
    let k := station .idle (.calibrating (calibration .requested (.seeking (pulse true 0 2290))))
    let b := queued (station .priming (.calibrating (calibration .requested (.backing 240 8000)))) [entry .calibrate true]
    o.active = true ∧ k.active = true ∧ b.active = true ∧ o.gap.armed = true ∧ o.gap.jumpWindow = [] ∧
      scaleLoop o.settings.pressureSpan 5920 = 48 ∧ 48 ≤ o.settings.contactMark ∧ 48 ≤ o.settings.trampMark ∧
      o.settings.contactMark < scaleLoop o.settings.pressureSpan 6960 ∧
      scaleLoop o.settings.pressureSpan 6960 ≤ o.settings.trampMark ∧
      o.settings.trampMark < scaleLoop o.settings.pressureSpan 16880 ∧ 2050 ≤ 2100 - 50 ∧
      b.gap.reference.contact? = some 2300 ∧ (2300 + b.gap.wearAcc / 100) - 2050 = b.gap.setpoint ∧
      (2300 + b.gap.wearAcc / 100) - 2051 < b.gap.setpoint ∧ b.motorRunning = true ∧ b.run.state = .priming ∧
      (entry .calibrate true).kind = .calibrate := by decide +kernel

/-- PRIMING with every start condition met but the last; a settled relief at W; a LINER_CHANGE that waits through it. -/
theorem test_meets_PrimingCalibratesAndRuns :
    let u := unreferenced .priming .holding
    let f := station .priming (.relieved (some 0))
    let l := queued (station .running (.relieved (some 0))) [entry .linerChange false]
    u.active = true ∧ u.gap.reference = .unreferenced ∧ u.queue = [] ∧ u.monitor.position = some 2050 ∧
      u.monitor.positionValid = true ∧ u.drive.output = 0 ∧ u.monitor.sample = some (sampleOf 221 80 (some 300)) ∧
      80 ≤ u.settings.cavityEmpty ∧ u.motorRunning = true ∧
      (unreferenced .idle .holding).acceptsDemand toAll (demandFrame 1 8 1) = true ∧
      (unreferenced .idle .holding).line.receiver ≠ .waitingIdle ∧ f.active = true ∧ f.gapEstimate = some 254 ∧
      f.gap.setpoint = 254 ∧ f.gap.approach = false ∧ f.queue = [] ∧ l.active = true ∧ l.gapEstimate = some 254 ∧
      l.queue = [entry .linerChange false] ∧ (entry .linerChange false).active = false := by decide +kernel

theorem test_meets_TrampRelievesTheCrusher :
    let s := station .running .holding
    s.active = true ∧ s.gap.armed = true ∧
      s.settings.trampMark < min (((readings 16840 2050).pressure - 4000) * s.settings.pressureSpan / 16000)
        s.settings.pressureSpan ∧ (∀ e ∈ s.queue.drop 1, e.active = false) := by decide +kernel

/-- A tramp that ends an ACTIVE SET_GAP on its way from 254 to 240, and a CALIBRATE in each phase. -/
theorem test_meets_TrampRelievesTheCrusher_entries :
    let g := { queued (station .running (.moving (move 0 false))) [entry .setGap true] with gap.setpoint := 240 }
    let k := fun (p : CalPhase) => queued (station .idle (.calibrating (calibration .requested p))) [entry .calibrate true]
    let p := min (((readings 16840 2050).pressure - 4000) * g.settings.pressureSpan / 16000) g.settings.pressureSpan
    g.active = true ∧ g.queue = [entry .setGap true] ∧ (entry .setGap true).active = true ∧
      (readings 16840 2050).positionMarked = true ∧ (readings 16840 2050).position ≤ 4095 ∧
      g.gap.reference.contact?.map (fun c => (c + g.gap.wearAcc / 100) - 2050) = some 254 ∧ g.gap.setpoint < 254 ∧
      g.settings.trampMark < p ∧ (k (.opening 2050)).active = true ∧ (k (.opening 2050)).queue = [entry .calibrate true] ∧
      g.settings.contactMark < p ∧ p ≤ ({ g.settings with contactMark := 330 } : Settings).contactMark ∧
      ({ k (.backing 240 8000) with gap.setpoint := 260 } : State).gap.setpoint = 260 ∧ (254 : Nat) < 260 := by decide +kernel

/-- A G of 254 that exceeds a window's 214 by the tramp jump of 40, and one it does not; the second after a detection. -/
theorem test_meets_JumpTestAndArming :
    let s := { station .running .holding with gap.jumpWindow := [(0, 214)], gap.readingClock := some 990 }
    let d := { station .running (.relieved none) with
      gap.armed := false, gap.lastDetection := some 0, gap.readingClock := some 990 }
    s.active = true ∧ s.queue = [] ∧ s.gapState = .holding ∧ s.gap.reference.contact? = some 2300 ∧
      (2300 + s.gap.wearAcc / 100) - 2050 = 254 ∧ s.settings.trampJump = 40 ∧ 990 + 10 ≤ 0 + 1000 ∧ 214 + 40 ≤ 254 ∧
      s.gap.armed = true ∧ d.active = true ∧ d.gapState = .relieved ∧
      scaleLoop d.settings.pressureSpan 5920 < d.settings.settleMark ∧ (station .idle .stuck).gapState = .stuck ∧
      (station .idle .stuck).gap.armed = true ∧ (station .idle .stuck).queue = [] ∧
      s.settings.trampMark < scaleLoop s.settings.pressureSpan 16880 := by
  decide +kernel

/-- The same window under a closing move with its SET_GAP, in SEEKING with its CALIBRATE, and in a re-closing. -/
theorem test_meets_JumpTestAndArming_driven :
    let jumpy := fun (a : Activity) (es : List Entry) =>
      { queued (station .idle a) es with gap.jumpWindow := [(0, 214)], gap.readingClock := some 990, gap.setpoint := 240 }
    let m := jumpy (.moving (move 0 false)) [entry .setGap true]
    let k := jumpy (.calibrating (calibration .requested (.seeking (pulse true 0 2050)))) [entry .calibrate true]
    let d := jumpy (.recovering { mark := 259, stall := 8000, paused := false }) []
    m.active = true ∧ m.queue = [entry .setGap true] ∧ (move 0 false).direction = .closing ∧ (move 0 false).reversal = none ∧
      m.gap.setpoint < 254 ∧ (2300 + m.gap.wearAcc / 100) - 2050 = 254 ∧ 214 + m.settings.trampJump ≤ 254 ∧ m.gap.armed = true ∧
      k.queue = [entry .calibrate true] ∧ k.gapState = .calibrating ∧
      scaleLoop k.settings.pressureSpan 5920 ≤ k.settings.contactMark ∧ d.gapState = .recovering ∧ d.queue = [] := by decide +kernel

/-- A RELIEVED station at 48 bar, and a re-closing at a G of 254 with W there and below. -/
theorem test_meets_ReliefAndReclosingReadings :
    let s := station .running (.relieved none)
    let d := { station .running (.recovering { mark := 259, stall := 8000, paused := false }) with gap.setpoint := 240 }
    s.active = true ∧ scaleLoop s.settings.pressureSpan 5920 < s.settings.settleMark ∧
      s.settings.settleMark ≤ scaleLoop s.settings.pressureSpan 7200 ∧ 48 ≤ s.settings.trampMark ∧ s.gap.jumpWindow = [] ∧
      d.active = true ∧ d.gap.reference.contact? = some 2300 ∧ (2300 + d.gap.wearAcc / 100) - 2050 = 254 ∧
      d.gap.setpoint < 254 ∧ d.queue = [] ∧ s.gap.setpoint = 254 ∧
      d.settings.pressureOver < scaleLoop d.settings.pressureSpan 14160 ∧
      scaleLoop d.settings.pressureSpan 14160 ≤ d.settings.trampMark ∧ 254 + 5 ≤ 259 ∧
      (∀ e ∈ ({ d with gap.jumpWindow := [(0, 254)] } : State).gap.jumpWindow, 254 < e.2 + d.settings.trampJump) := by
  decide +kernel

theorem test_meets_SettledReliefRecovers :
    let s := station .running (.relieved (some 0))
    s.active = true ∧ s.gap.activity = .relieved (some 0) ∧ s.gapEstimate = some 254 ∧
      ({ s with gap.setpoint := 240 } : State).gap.setpoint < 254 ∧ s.gap.setpoint ≤ 254 ∧
      (∀ g, s.gapEstimate = some g → g ≤ s.gap.setpoint) := by
  refine ⟨rfl, rfl, by decide +kernel, by decide, by decide, ?_⟩
  intro g h
  have h' : (some 254 : Option Nat) = some g := by rw [← h]; decide +kernel
  cases h'
  decide

/-- A relief that ends below W with a move due, one in PRIMING without a reference, and one with nothing to follow. -/
theorem test_meets_SettledReliefRecovers_follows :
    let s := { station .running (.relieved (some 0)) with gap.setpoint := 300 }
    let u := unreferenced .priming (.relieved (some 0))
    s.monitor.positionValid = true ∧ s.run.state ≠ .tripped ∧ s.gapEstimate = some 254 ∧ s.queue = [] ∧
      s.settings.holdBand < gapDistance 254 s.gap.setpoint ∧ u.active = true ∧ u.gapEstimate = none ∧
      u.gap.reference = .unreferenced ∧ u.motorRunning = true ∧ u.monitor.positionValid = true ∧ u.queue = [] ∧
      u.monitor.sample = some (sampleOf 221 80 (some 300)) ∧ 80 ≤ u.settings.cavityEmpty ∧
      gapDistance 254 (station .running (.relieved (some 0))).gap.setpoint = 0 := by decide +kernel

theorem test_meets_QueuedRequestsAtArrival :
    let s := station .idle (.relieved none)
    s.addressedAlone toUs = true ∧ s.active = true ∧ s.line.receiver ≠ .waitingIdle ∧ s.gapState ≠ .holding ∧
      s.gapState ≠ .stuck ∧
      stateRefusal .setGap s = none ∧ stateRefusal .calibrate (station .running .holding) = some .notIdle ∧
      (queued s [entry .setGap false]).queue.length < 4 ∧ (entry .setGap false).requester = toUs.source := by decide +kernel

theorem test_meets_MovesStartTowardTheSetpoint :
    let s := station .running .holding
    s.addressedAlone toUs = true ∧ s.active = true ∧ s.line.receiver ≠ .waitingIdle ∧ s.run.state ≠ .tripped ∧
      s.gapState = .holding ∧ s.queue = [] ∧
      s.gapEstimate = some 254 ∧ s.monitor.positionValid = true := by decide +kernel

/-- A SET_GAP in STUCK; a gap of 254 off a W of 240 by more than the hold band, off one of 253 within it, with approach pending
too. -/
theorem test_meets_MovesStartTowardTheSetpoint_holdBand :
    let k := station .running .stuck
    let s := { station .running .holding with gap.setpoint := 240 }
    let n := { s with gap.setpoint := 253 }
    k.gapState = .stuck ∧ k.gap.reference.present = true ∧ k.queue = [] ∧ k.active = true ∧ s.active = true ∧
      s.gap.activity = .holding ∧ s.queue = [] ∧ s.gap.reference.contact? = some 2300 ∧ s.run.state ≠ .tripped ∧
      scaleLoop s.settings.pressureSpan 5920 ≤ s.settings.trampMark ∧ s.gap.jumpWindow = [] ∧
      (2300 + s.gap.wearAcc / 100) - 2050 = 254 ∧ s.settings.holdBand < gapDistance 254 s.gap.setpoint ∧
      gapDistance 254 n.gap.setpoint ≤ n.settings.holdBand ∧ ({ n with gap.approach := true } : State).gap.approach = true ∧
      s.monitor.position = some 2050 ∧ s.monitor.positionValid = true ∧ s.settings.pulseWeight ≠ 0 ∧
      ({ s with gap.span := 0 } : State).gap.span = 0 ∧ s.conditionPresent = false ∧ s.addressedAlone toUs = true ∧
      s.line.receiver ≠ .waitingIdle := by decide +kernel

theorem test_meets_CalibrateStartsOrIsBlocked :
    let s := station .idle .holding
    s.addressedAlone toUs = true ∧ s.active = true ∧ s.line.receiver ≠ .waitingIdle ∧ s.run.state = .idle ∧
      s.gapState = .holding ∧ s.queue = [] ∧
      s.monitor.position = some 2050 ∧ s.calibrationReady = true ∧
      ({ s with motorRunning := false } : State).calibrationReady = false ∧ (station .idle .stuck).gapState = .stuck ∧
      (station .idle .stuck).calibrationReady = true := by decide +kernel

theorem test_meets_LinerChangeClearsTheTotals :
    (station .idle .stuck).addressedAlone toUs = true ∧ (station .idle .stuck).run.state = .idle ∧
      (station .idle .stuck).line.receiver ≠ .waitingIdle ∧
      (station .idle .stuck).gapState = .stuck ∧ (station .idle .stuck).queue = [] := by decide +kernel

theorem test_meets_CancelEndsTheNamedEntry :
    let s := station .idle (.relieved none)
    let w := queued s [entry .linerChange false]
    let a := queued (station .idle (.moving (move 0 false))) [entry .setGap true]
    let other := { entry .linerChange true with tag := 6 }
    let h := queued (station .idle .holding) [other, entry .setGap false]
    let c := queued (station .idle (.calibrating (calibration .requested (.opening 2050)))) [entry .calibrate true]
    let l := queued (unreferenced .idle .stuck) [entry .linerChange true, { entry .setGap false with tag := 6 }]
    s.addressedAlone toUs = true ∧ s.active = true ∧ s.line.receiver ≠ .waitingIdle ∧
      (∀ e ∈ s.queue, ¬ (e.requester = toUs.source ∧ e.tag.toNat = 5)) ∧
      w.queue = [] ++ entry .linerChange false :: [] ∧ (entry .linerChange false).requester = toUs.source ∧
      (w.queue.map Entry.key).Nodup ∧ w.gapState ≠ .holding ∧ w.gapState ≠ .stuck ∧ a.queue = [entry .setGap true] ∧
      a.gapEstimate = some 254 ∧ a.gapState = .moving ∧ a.heldInWindow 254 = 254 ∧
      h.queue = [other] ++ entry .setGap false :: [] ∧ (h.queue.map Entry.key).Nodup ∧ other.active = true ∧
      h.run.state ≠ .priming ∧ c.queue = [entry .calibrate true] ∧ c.gapState = .calibrating ∧
      l.gap.reference = .unreferenced ∧ l.gapState = .stuck ∧ l.active = true := by decide +kernel

theorem test_meets_ClearFaultEmptiesTheRecord :
    let s := report .supplyLow true (station .running .holding)
    s.addressedAlone toUs = true ∧ s.active = true ∧ s.line.receiver ≠ .waitingIdle ∧ s.run.state = .tripped ∧
      s.conditionPresent = false ∧ s.queue = [] ∧
      ({ s with supplyLow := true } : State).conditionPresent = true ∧
      (station .idle .stuck).headStartable = false ∧ (station .idle .stuck).gapState = .stuck ∧
      (station .idle .stuck).gapEstimate = some 254 ∧ (station .idle .stuck).conditionPresent = false ∧
      (station .idle .stuck).settings.holdBand <
        gapDistance 254 (({ station .idle .stuck with gap.target := 240 } : State).heldInWindow 240) := by decide +kernel

theorem test_meets_QueriesAndBadKindsAreAnsweredOnce :
    (station .idle .holding).addressedAlone toUs = true ∧ (station .idle .holding).active = true ∧
      (station .idle .holding).line.receiver ≠ .waitingIdle := by decide +kernel

theorem test_meets_RequestQueueStaysConsistent :
    let s := queued (station .idle (.relieved none)) [entry .setGap false]
    QueueSafe s ∧ step s = .next (tick s) := ⟨by decide +kernel, rfl⟩

theorem test_meets_UnusableFramesAreDiscarded :
    let s := station .idle .holding
    State.reset.line.receiver = .waitingIdle ∧ s.addressed ⟨11, 13⟩ = false ∧ s.addressedAlone toAll = false ∧
      State.reset.active = false ∧
      ({ statusFrame 5 with runState := 9 } : StatusPayload).codesDefined = false ∧
      (11 : Byte).toNat ≠ s.stationNumber ∧ (statusFrame 1).reportPeriod.toNat * 100 < 200 ∧
      2000 < (statusFrame 21).reportPeriod.toNat * 100 := by decide +kernel

theorem test_meets_AnswerQueueKeepsBoundAndOrder :
    let a := plainAnswer 0 5 none .done
    let f : InFlight := { frame := .answer a, driving := false }
    let s := { station .idle .holding with line.inFlight := some f, line.answers := [a, a, a, a, a, a] }
    let h : HeldStatus := { payload := statusFrame 5, lateLoss := false }
    let b := { s.line with slot := some h, inFlight := some { frame := .status h, driving := false } }
    LineSafe s ∧ step s = .next (tick s) ∧ 6 ≤ s.line.answers.length ∧ 6 ≤ b.answers.length ∧ s.line.inFlight ≠ none ∧
      State.reset.line.inFlight = none ∧ State.reset.line.answers = [] := by
  refine ⟨by decide +kernel, rfl, by decide, by decide, ?_, rfl, rfl⟩
  intro h
  cases h

theorem test_meets_ReportExpiryAssemblesTheStatus :
    (station .idle .holding).run.state ≠ .starting ∧ (station .unconfigured .holding).run.state = .unconfigured ∧
      (station .idle .holding).line.inFlight = none ∧ (station .idle .holding).line.answers = [] ∧
      (station .idle .holding).monitor.sample = some (sampleOf 221 80 (some 300)) := by decide +kernel

theorem test_meets_TransmitterEvents :
    let f : InFlight :=
      { frame := .status { payload := statusFrame 5, lateLoss := false }, driving := true }
    let s := { station .idle .holding with
      line.inFlight := some f, line.collisions := 7, line.slot := some { payload := statusFrame 5, lateLoss := false } }
    s.line.inFlight = some f ∧ f.driving = true ∧ 7 ≤ s.line.collisions ∧
      ({ s with line.collisions := 6 } : State).line.collisions < 7 ∧
      s.line.answers = [] ∧ s.line.slot.isSome = true ∧ State.reset.line.inFlight = none := by decide +kernel

theorem test_meets_LayoutsReadBack :
    exampleRecord.linerTonnes ≤ 65535 ∧ exampleRecord.linerWear ≤ 65535 ∧ exampleRecord.wearAcc ≤ 65535 ∧
      exampleRecord.calCount ≤ 65535 ∧ (∀ c ∈ exampleRecord.contact, c ≤ 4095) := by decide

theorem test_meets_SentFramesPassTheChecks :
    let a := plainAnswer 0 5 (some .setGap) (.stopped .stall)
    (∀ r, a.outcome = .stopped r → a.data = none) ∧ (∀ es, a.data = some (.queue es) → es.length ≤ 4) :=
  ⟨fun _ _ => rfl, fun _ h => by cases h⟩

theorem test_meets_SettingMemoryStaysConsistent :
    let s := { station .idle .holding with
      interface.campaign := some (campaignAt 71 false)
      memory := { cells := [(0, 5), (255, 1)], enabled := true, programming := some (71, 3) } }
    MemorySafe s ∧ step s = .next (tick s) := by
  refine ⟨⟨by decide +kernel, ?_, fun _ => rfl, ?_⟩, rfl⟩
  · intro c h
    cases h
    decide
  · intro h
    cases h

theorem test_meets_CampaignWritesItsWordsInOrder :
    let c := campaignAt 65 false
    let s := { station .idle .holding with
      interface.campaign := some c
      memory := { cells := [(64, 2300)], enabled := true, programming := some (65, 443) } }
    s.interface.campaign = some c ∧ c.cutOff = false ∧ s.memory.wf = true ∧ s.memory.enabled = true ∧ 64 ≤ c.word ∧
      c.word ≤ 71 ∧ s.memory.programming = some (c.word, c.record.word s.stationNumber c.word) ∧
      (∀ a, 64 ≤ a → a < c.word → s.memory.read a = c.record.word s.stationNumber a) := by
  refine ⟨rfl, rfl, by decide +kernel, rfl, by decide, by decide, by decide +kernel, ?_⟩
  intro a h1 h2
  have h3 : a < 65 := h2
  have h4 : a = 64 := by omega
  subst h4
  decide +kernel

theorem test_meets_CampaignEndIsHandedOn :
    let s := { queued (station .idle .holding) [entry .linerChange true] with interface.campaign := some (campaignAt 71 false) }
    let p := { station .idle .holding with interface := { campaign := some (campaignAt 70 true), pending := some exampleRecord } }
    let c := { station .tripped .holding with interface.campaign := some (campaignAt 64 true) }
    s.run.state ≠ .priming ∧ s.interface.pending = none ∧ s.queue = [entry .linerChange true] ∧
      (entry .linerChange true).active = true ∧ (campaignAt 71 false).forLiner = true ∧ (campaignAt 71 false).word = 71 ∧
      p.interface.pending = some exampleRecord ∧ (campaignAt 70 true).cutOff = true ∧ p.supplyLow = false ∧ p.queue = [] ∧
      c.run.state ≠ .priming ∧ c.interface.pending = none ∧ c.queue = [] ∧ c.memory.wf = true ∧
      64 ≤ (campaignAt 64 true).word ∧ (campaignAt 64 true).word ≠ 71 := by
  decide +kernel

theorem test_meets_MotorAndSupplyEdges_supply :
    let p := { station .idle .holding with interface.pending := some exampleRecord }
    State.reset.run.state = .starting ∧ p.run.state ≠ .starting ∧ p.run.state.trippable = true ∧
      p.interface.pending = some exampleRecord ∧ p.interface.campaign = none ∧ State.reset.interface.pending = none := by
  decide +kernel

theorem test_meets_FaultReportFillsTheRecordAndTrips :
    let s := station .running (.moving (move 0 false))
    s.faults.first = none ∧ (noteFault .supplyLow s).faults.first.isSome = true ∧ s.run.state.trippable = true ∧
      (station .unconfigured .holding).run.state.trippable = false ∧ s.gapState = .moving ∧ s.queue = [] ∧
      (queued s [entry .setGap true, entry .calibrate false]).queue = entry .setGap true :: [entry .calibrate false] ∧
      (entry .calibrate false).active = false := by decide +kernel

end Sys2Proof.Tests
end

/-! ## What an operation may do to the feeder, the queue and the Fault Record -/

namespace Sys2Proof.Machine

/-- How the shared operations may move the feeder, the queue and the congestion flag: output and setpoint stay or become 0, entries
only leave and no new one waits, and the flag is not cleared. -/
structure Eases (s t : State) : Prop where
  output    : t.drive.output = s.drive.output ∨ t.drive.output = 0
  setpoint  : t.drive.setpoint = s.drive.setpoint ∨ t.drive.setpoint = 0
  keys      : (t.queue.map Entry.key).Sublist (s.queue.map Entry.key)
  waiting   : ∀ e ∈ t.queue, e.active = false → e ∈ s.queue
  congested : s.line.congested = true → t.line.congested = true

/-- What every operation but RESET, a ramp interval, a share computation, the opening of a window, a new request and CLEAR_FAULT
keeps: it eases the feeder, the NOFEED latch follows the output (R9), the Fault Record only grows (R166), and TRIPPED and
UNCONFIGURED stay (R38, R49). -/
structure Tame (s t : State) : Prop extends Eases s t where
  nofeed : t.monitor.nofeed = (s.monitor.nofeed || (decide (t.drive.output = 0) && decide (0 < s.drive.output)))
  first  : ∀ f, s.faults.first = some f → t.faults.first = some f
  seen   : ∀ k ∈ s.faults.seen, k ∈ t.faults.seen
  stays  : s.run.state = .tripped ∨ s.run.state = .unconfigured → t.run.state = s.run.state

/-- No entry of kind `k` is WAITING. -/
def NoneWaits (k : QueuedKind) (q : List Entry) : Prop := ∀ e ∈ q, e.kind = k → e.active = true

theorem Eases.noneWaits {k : QueuedKind} {s t : State} (h : Eases s t) (hq : NoneWaits k s.queue) : NoneWaits k t.queue := by
  intro e he hk
  by_contra ha
  exact ha (hq e (h.waiting e he (by simpa using ha)) hk)

theorem Eases.queue_nil {s t : State} (h : Eases s t) (hq : s.queue = []) : t.queue = [] := by
  simpa [hq] using h.keys

/-- Two states that agree on the five fields stand in the relation. -/
theorem Eases.of_eq {s t : State} (hd : t.drive.output = s.drive.output) (hr : t.drive.setpoint = s.drive.setpoint)
    (hq : t.queue = s.queue) (hc : t.line.congested = s.line.congested) : Eases s t where
  output := .inl hd
  setpoint := .inl hr
  keys := by rw [hq]
  waiting := by rw [hq]; exact fun _ h _ => h
  congested := by rw [hc]; exact id

theorem Eases.trans {s t u : State} (h : Eases s t) (h' : Eases t u) : Eases s u where
  output := by rcases h'.output with h1 | h1 <;> simp [h1, h.output]
  setpoint := by rcases h'.setpoint with h1 | h1 <;> simp [h1, h.setpoint]
  keys := h'.keys.trans h.keys
  waiting e he ha := h.waiting e (h'.waiting e he ha) ha
  congested hc := h'.congested (h.congested hc)

@[refl] theorem Tame.refl (s : State) : Tame s s where
  toEases := .of_eq rfl rfl rfl rfl
  nofeed := by by_cases h : s.drive.output = 0 <;> simp [h]
  first _ h := h
  seen _ h := h
  stays _ := rfl

theorem Tame.trans {s t u : State} (h : Tame s t) (h' : Tame t u) : Tame s u where
  toEases := h.toEases.trans h'.toEases
  nofeed := by
    rw [h'.nofeed, h.nofeed]
    rcases h.output with h1 | h1 <;> rcases h'.output with h2 | h2 <;> simp [h1, h2]
    cases s.monitor.nofeed <;> simp
  first f hf := h'.first f (h.first f hf)
  seen k hk := h'.seen k (h.seen k hk)
  stays hs := by
    have h1 := h.stays hs
    rw [h'.stays (h1 ▸ hs), h1]

/-- A further update of other fields keeps the relation. -/
theorem Tame.plain {s t u : State} (h : Tame s t) (hd : u.drive = t.drive := by rfl)
    (hn : u.monitor.nofeed = t.monitor.nofeed := by rfl) (hq : u.queue = t.queue := by rfl)
    (hc : u.line.congested = t.line.congested := by rfl) (hf : u.faults = t.faults := by rfl)
    (hr : u.run.state = t.run.state := by rfl) : Tame s u where
  toEases := h.toEases.trans (.of_eq (by rw [hd]) (by rw [hd]) hq hc)
  nofeed := by rw [hn, hd, h.nofeed]
  first := by rw [hf]; exact h.first
  seen := by rw [hf]; exact h.seen
  stays := by rw [hr]; exact h.stays

/-- A write to the Gap Controller alone. -/
theorem Tame.gap {s t : State} {g : GapController} (h : Tame s t) : Tame s { t with gap := g } := h.plain

end Sys2Proof.Machine

/-! ## The shared operations are tame -/

namespace Sys2Proof.Machine

/-! ### The Line Port keeps its congestion flag (R158) -/

@[simp] theorem LinePort.takeNext_congested (l : LinePort) : l.takeNext.congested = l.congested := by
  rw [LinePort.takeNext_frame]

theorem LinePort.push_congested {l : LinePort} (a : Answer) (h : l.congested = true) : (l.push a).congested = true := by
  unfold LinePort.push
  split
  · simpa using h
  · rfl

theorem pushAll_congested (f : Entry → Answer) (es : List Entry) {l : LinePort} (h : l.congested = true) :
    (es.foldl (fun l e => l.push (f e)) l).congested = true := by
  induction es generalizing l with
  | nil => exact h
  | cons e rest ih => exact ih (LinePort.push_congested _ h)

/-! ### Feeder output, queue and run state: what is written -/

/-- 0 at the output is the one write that the relation allows there. -/
theorem setOutput_zero_tame {s t : State} (h : Tame s t) : Tame s (setOutput 0 t) := by
  refine h.trans ?_
  exact
    { Tame.refl t with
      output := .inr rfl
      nofeed := by simp }

/-- Entries that only leave the queue, with answers on the line that do not clear the congestion flag. -/
theorem Tame.dequeue {s t : State} {q : List Entry} {l : LinePort} (h : Tame s t) (hq : q.Sublist t.queue)
    (hl : t.line.congested = true → l.congested = true) : Tame s { t with queue := q, line := l } := by
  refine h.trans ?_
  exact
    { Tame.refl t with
      keys := hq.map _
      waiting := fun e he _ => hq.subset he
      congested := hl }

theorem zeroIfZeroed_tame {s t : State} (h : Tame s t) : Tame s (zeroIfZeroed t) := by
  unfold zeroIfZeroed
  split
  exacts [setOutput_zero_tame h, h]

theorem dropCapacity_tame {s t : State} (h : Tame s t) : Tame s (dropCapacity t) := by
  unfold dropCapacity
  split
  exacts [h, h.plain]

theorem setW_tame {s t : State} (w : Nat) (h : Tame s t) : Tame s (setW w t) := h.plain

theorem setAfresh_tame {s t : State} (h : Tame s t) : Tame s (setAfresh t) := h.plain

theorem holdW_tame {s t : State} (h : Tame s t) : Tame s (holdW t) := by
  unfold holdW
  split
  exacts [h, setW_tame _ h]

theorem restW_tame {s t : State} (h : Tame s t) : Tame s (restW t) := by
  unfold restW
  split <;> exact h.plain

theorem emptyJumpIfOpening_tame {s t : State} (h : Tame s t) : Tame s (emptyJumpIfOpening t) := by
  unfold emptyJumpIfOpening
  split
  exacts [h.plain, h]

theorem setActivity_tame {s t : State} (act : Activity) (h : Tame s t) : Tame s (setActivity act t) := by
  refine emptyJumpIfOpening_tame (zeroIfZeroed_tame (dropCapacity_tame (Tame.gap ?_)))
  split
  exacts [setAfresh_tame h, h]

theorem updateActivity_tame {s t : State} (act : Activity) (h : Tame s t) : Tame s (updateActivity act t) :=
  emptyJumpIfOpening_tame h.plain

/-! ### Answers and the queue (R143, R145, R150) -/

theorem answer_tame {s t : State} (a : Answer) (h : Tame s t) : Tame s (State.answer a t) :=
  h.dequeue (.refl _) (LinePort.push_congested a)

theorem endActive_tame {s t : State} (o : AnswerOutcome) (h : Tame s t) : Tame s (endActive o t) := by
  unfold endActive
  split
  · next e rest hq =>
    split
    · exact h.dequeue (hq ▸ List.sublist_cons_self e rest) (LinePort.push_congested _)
    · exact h
  · exact h

theorem endActiveOf_tame {s t : State} (k : QueuedKind) (o : AnswerOutcome) (h : Tame s t) :
    Tame s (endActiveOf k o t) := by
  unfold endActiveOf
  split
  exacts [endActive_tame o h, h]

theorem flushQueue_tame {s t : State} (h : Tame s t) : Tame s (flushQueue t) :=
  h.dequeue (List.nil_sublist _) (pushAll_congested _ _)

/-! ### Run state, trips and faults (R40 to R50, R166) -/

/-- A change of the run state writes 0 to the setpoint or leaves it (R55), and the output follows the drive mode (R87). -/
theorem changeRun_eases (r : RunState) (s : State) : Eases s (changeRun r s) := by
  have h := zeroIfZeroed_tame (dropCapacity_tame (Tame.refl
    { s with
      gap.history := if s.run.state = .running then [] else s.gap.history
      run.state := r
      run.primingTimer := if r = .priming then some (s.settings.primingTimeout * 1000) else none
      run.clearTimer := if r = .stopping ∧ s.drive.output = 0 then some (s.settings.clearTime * 1000) else none
      drive.setpoint := if r = .idle ∨ r = .priming ∨ r = .tripped then 0 else s.drive.setpoint }))
  exact
    { output := h.output
      setpoint := by rw [changeRun_setpoint]; split <;> simp
      keys := h.keys
      waiting := h.waiting
      congested := h.congested }

/-- The NOFEED latch follows the output at a change of the run state (R9). -/
theorem changeRun_nofeed (r : RunState) (s : State) :
    (changeRun r s).monitor.nofeed =
      (s.monitor.nofeed || (decide ((changeRun r s).drive.output = 0) && decide (0 < s.drive.output))) :=
  (zeroIfZeroed_tame (dropCapacity_tame (Tame.refl _))).nofeed

/-- A change of the run state out of a state that may be left (R38, R49). -/
theorem changeRun_tame {s t : State} (r : RunState) (h : Tame s t) (h1 : t.run.state ≠ .tripped)
    (h2 : t.run.state ≠ .unconfigured) : Tame s (changeRun r t) := by
  refine h.trans ?_
  exact
    { changeRun_eases r t with
      nofeed := changeRun_nofeed r t
      first := by simp
      seen := by simp
      stays := fun h' => absurd h' (by simp [h1, h2]) }

theorem endForTrip_tame {s t : State} (h : Tame s t) : Tame s (endForTrip t) := by
  unfold endForTrip
  split
  exacts [setActivity_tame _ h, setActivity_tame _ h, h]

@[simp] theorem endForTrip_state (s : State) : (endForTrip s).run.state = s.run.state := by
  unfold endForTrip
  split <;> simp

@[simp] theorem flushQueue_run (s : State) : (flushQueue s).run = s.run := rfl

theorem trip_tame {s t : State} (h : Tame s t) (h1 : t.run.state ≠ .tripped) (h2 : t.run.state ≠ .unconfigured) :
    Tame s (trip t) :=
  changeRun_tame _ (endForTrip_tame (flushQueue_tame h)) (by simpa using h1) (by simpa using h2)

theorem noteFault_tame {s t : State} (k : FaultKind) (h : Tame s t) : Tame s (noteFault k t) := by
  refine h.trans ?_
  exact
    { Tame.refl t with
      first := fun f hf => by simp [noteFault, hf]
      seen := fun k' hk => (noteFault_seen k k' t).2 (.inr hk) }

theorem report_tame {s t : State} (k : FaultKind) (trips : Bool) (h : Tame s t) : Tame s (report k trips t) := by
  unfold report
  split
  · next ht =>
    refine trip_tame (noteFault_tame k h) ?_ ?_ <;> intro hs <;> rw [noteFault_run] at hs <;>
      simp [hs, RunState.trippable] at ht
  · exact noteFault_tame k h

theorem enterRun_tame {s t : State} (r : RunState) (h : Tame s t) (h1 : t.run.state ≠ .tripped)
    (h2 : t.run.state ≠ .unconfigured) : Tame s (enterRun r t) := by
  unfold enterRun
  split
  exacts [report_tame _ _ (changeRun_tame r h h1 h2), changeRun_tame r h h1 h2]

/-! ### Moves, arrivals and calibrations -/

theorem arrive_tame {s t : State} (h : Tame s t) : Tame s (arrive t) := setActivity_tame _ h.plain

theorem endSetGapReached_tame {s t : State} (h : Tame s t) : Tame s (endSetGapReached t) := by
  unfold endSetGapReached
  split
  · split
    exacts [endActive_tame _ h, h]
  · exact h

theorem moveCrossing_tame {s t : State} (h : Tame s t) : Tame s (moveCrossing t) := by
  unfold moveCrossing
  split
  · split
    exacts [endSetGapReached_tame (arrive_tame h), h]
  · exact h

theorem backingArrival_tame {s t : State} (h : Tame s t) : Tame s (backingArrival t) := by
  unfold backingArrival
  split
  · split
    · split
      exacts [endActiveOf_tame _ _ (arrive_tame h), h]
    · exact h
  · exact h

theorem reclosingArrival_tame {s t : State} (h : Tame s t) : Tame s (reclosingArrival t) := by
  unfold reclosingArrival
  split
  · split
    exacts [arrive_tame h, h]
  · exact h

theorem testW_tame {s t : State} (h : Tame s t) : Tame s (testW t) := by
  unfold testW
  split
  exacts [moveCrossing_tame h, backingArrival_tame h, reclosingArrival_tame h, h]

theorem targetChanged_tame {s t : State} (h : Tame s t) : Tame s (targetChanged t) := by
  refine testW_tame ?_
  split
  exacts [holdW_tame h, setAfresh_tame h]

theorem reversalTest_tame {s t : State} (h : Tame s t) : Tame s (reversalTest t) := by
  unfold reversalTest
  split
  · split
    exacts [updateActivity_tame _ h, h]
  · exact h

theorem wearChanged_tame {s t : State} (h : Tame s t) : Tame s (wearChanged t) := by
  unfold wearChanged
  split
  exacts [reversalTest_tame (moveCrossing_tame h), h]

theorem moveTest_tame {s t : State} (h : Tame s t) : Tame s (moveTest t) := by
  unfold moveTest
  split
  · split
    exacts [setActivity_tame _ h, h]
  · exact h

theorem startCalibration_tame {s t : State} (k : CalKind) (h : Tame s t) : Tame s (startCalibration k t) :=
  setActivity_tame _ h

theorem internalCalibrationTest_tame {s t : State} (h : Tame s t) : Tame s (internalCalibrationTest t) := by
  unfold internalCalibrationTest
  split
  exacts [startCalibration_tame _ h, h]

theorem stopCalibration_tame {s t : State} (h : Tame s t) : Tame s (stopCalibration t) := setActivity_tame _ h

theorem startRequestedCalibration_tame {s t : State} (h : Tame s t) : Tame s (startRequestedCalibration t) := by
  unfold startRequestedCalibration
  split
  exacts [startCalibration_tame _ h, endActive_tame _ h]

theorem primingTest_tame {s t : State} (h : Tame s t) : Tame s (primingTest t) := by
  unfold primingTest
  split
  · next hp => exact enterRun_tame _ h (by simp [hp.1]) (by simp [hp.1])
  · exact h

/-! ### Records, reference and targets -/

theorem recordArrives_tame {s t : State} (r : WearRecord) (h : Tame s t) : Tame s (recordArrives r t) := by
  unfold recordArrives
  split <;> exact h.plain

theorem requestRecord_tame {s t : State} (h : Tame s t) : Tame s (requestRecord t) := recordArrives_tame _ h

theorem startPending_tame {s t : State} (h : Tame s t) : Tame s (startPending t) := by
  unfold startPending
  split
  · split
    exacts [h.plain, h]
  · exact h

theorem finishStopping_tame {s t : State} (h : Tame s t) (ht : t.run.state = .stopping) :
    Tame s (finishStopping t) :=
  requestRecord_tame (changeRun_tame _ h (by simp [ht]) (by simp [ht]))

theorem setReference_tame {s t : State} (r : Reference) (h : Tame s t) : Tame s (setReference r t) := by
  unfold setReference
  extract_lets _ u v
  have hu : Tame s u := holdW_tame h.gap
  have hv : Tame s v := by
    unfold v
    split
    exacts [setActivity_tame _ hu, hu]
  split
  · exact hu
  · split
    · next hr => exact changeRun_tame _ hv (by rintro h'; simp [h'] at hr) (by rintro h'; simp [h'] at hr)
    · exact hv

theorem gapTargetArrives_tame {s t : State} (n : Nat) (h : Tame s t) : Tame s (gapTargetArrives n t) := by
  refine targetChanged_tame (Tame.gap ?_)
  split
  exacts [updateActivity_tame _ (endActiveOf_tame _ _ h), endActiveOf_tame _ _ h]

theorem spanArrives_tame {s t : State} (n : Nat) (h : Tame s t) : Tame s (spanArrives n t) := by
  unfold spanArrives
  split
  exacts [h, targetChanged_tame h.plain]

theorem contact_tame {s t : State} (k : CalKind) (p : Nat) (h : Tame s t) : Tame s (contact k p t) :=
  updateActivity_tame _ (Tame.gap (requestRecord_tame (setReference_tame _ h.plain)))

/-! ### The start of the queue's head and the end of an event -/

theorem startSetGap_tame {s t : State} (e : Entry) (h : Tame s t) : Tame s (startSetGap e t) := by
  unfold startSetGap
  split
  · exact endActive_tame _ h
  · split
    · exact holdW_tame (Tame.gap (endActive_tame _ h))
    · dsimp only
      split
      exacts [endActive_tame _ (setAfresh_tame h.gap), Tame.gap (setAfresh_tame h.gap)]

theorem startLinerChange_tame {s t : State} (h : Tame s t) : Tame s (startLinerChange t) :=
  requestRecord_tame (setReference_tame _ h.plain)

/-- The ACTIVE mark on the head changes no key and makes no entry wait. -/
theorem activateHead_tame {s t : State} (h : Tame s t) : Tame s { t with queue := activateHead t.queue } := by
  refine h.trans ?_
  cases hq : t.queue with
  | nil => exact (Tame.refl t).plain (hq := hq.symm)
  | cons e rest =>
    exact
      { Tame.refl t with
        keys := by simp [activateHead, hq, Entry.key]
        waiting := by
          intro f hf ha
          rcases List.mem_cons.1 hf with rfl | hf
          · simp at ha
          · exact hq ▸ List.mem_cons_of_mem e hf }

theorem startHead_tame {s t : State} (h : Tame s t) : Tame s (startHead t) := by
  have h' := activateHead_tame h
  unfold startHead
  split
  · exact h
  · dsimp only
    split
    exacts [startSetGap_tame _ h', startRequestedCalibration_tame h', startLinerChange_tame h']

theorem startHeads_tame (n : Nat) {s t : State} (h : Tame s t) : Tame s (startHeads n t) := by
  induction n generalizing t with
  | zero => exact h
  | succ n ih =>
    unfold startHeads
    split
    exacts [ih (startHead_tame h), h]

theorem settle_tame {s t : State} (h : Tame s t) : Tame s (settle t) :=
  primingTest_tame (moveTest_tame (internalCalibrationTest_tame (startHeads_tame _ h)))

end Sys2Proof.Machine

/-! ## The end of an event: what it leaves as it was -/

namespace Sys2Proof.Machine

/-! ### The run state at the shared operations -/

@[simp] theorem setAfresh_state (s : State) : (setAfresh s).run.state = s.run.state := rfl

@[simp] theorem holdW_state (s : State) : (holdW s).run.state = s.run.state := by
  unfold holdW
  split <;> rfl

@[simp] theorem restW_state (s : State) : (restW s).run.state = s.run.state := by
  unfold restW
  split <;> rfl

@[simp] theorem updateActivity_state (act : Activity) (s : State) :
    (updateActivity act s).run.state = s.run.state := by
  unfold updateActivity emptyJumpIfOpening
  split <;> rfl

@[simp] theorem endActive_state (o : AnswerOutcome) (s : State) : (endActive o s).run.state = s.run.state := by
  rw [endActive_frame]

@[simp] theorem endActiveOf_state (k : QueuedKind) (o : AnswerOutcome) (s : State) :
    (endActiveOf k o s).run.state = s.run.state := by
  rw [endActiveOf_frame]

@[simp] theorem arrive_state (s : State) : (arrive s).run.state = s.run.state := by
  simp [arrive]

@[simp] theorem endSetGapReached_state (s : State) : (endSetGapReached s).run.state = s.run.state := by
  unfold endSetGapReached
  split
  · split <;> simp
  · rfl

@[simp] theorem moveCrossing_state (s : State) : (moveCrossing s).run.state = s.run.state := by
  unfold moveCrossing
  split
  · split <;> simp
  · rfl

@[simp] theorem reversalTest_state (s : State) : (reversalTest s).run.state = s.run.state := by
  unfold reversalTest
  split
  · split <;> simp
  · rfl

@[simp] theorem wearChanged_state (s : State) : (wearChanged s).run.state = s.run.state := by
  unfold wearChanged
  split <;> simp

@[simp] theorem moveTest_state (s : State) : (moveTest s).run.state = s.run.state := by
  unfold moveTest
  split
  · split <;> simp [startMove]
  · rfl

@[simp] theorem startCalibration_state (k : CalKind) (s : State) : (startCalibration k s).run.state = s.run.state := by
  simp [startCalibration]

@[simp] theorem internalCalibrationTest_state (s : State) :
    (internalCalibrationTest s).run.state = s.run.state := by
  unfold internalCalibrationTest
  split <;> simp

@[simp] theorem stopCalibration_state (s : State) : (stopCalibration s).run.state = s.run.state := by
  simp [stopCalibration]

@[simp] theorem startRequestedCalibration_state (s : State) :
    (startRequestedCalibration s).run.state = s.run.state := by
  unfold startRequestedCalibration
  split <;> simp

@[simp] theorem recordArrives_state (r : WearRecord) (s : State) : (recordArrives r s).run.state = s.run.state := by
  unfold recordArrives
  split <;> rfl

@[simp] theorem requestRecord_state (s : State) : (requestRecord s).run.state = s.run.state := recordArrives_state _ s

@[simp] theorem startPending_state (s : State) : (startPending s).run.state = s.run.state := by
  unfold startPending
  split
  · split <;> rfl
  · rfl

@[simp] theorem startSetGap_state (e : Entry) (s : State) : (startSetGap e s).run.state = s.run.state := by
  unfold startSetGap
  split
  · simp
  · split
    · simp
    · dsimp only
      split <;> simp

/-- A reference that is present leaves the run state; the loss of one only ends RUNNING and HELD (R44). -/
theorem setReference_state (r : Reference) {s : State}
    (h : r.present = true ∨ s.run.state ≠ .running ∧ s.run.state ≠ .held) :
    (setReference r s).run.state = s.run.state := by
  unfold setReference
  extract_lets _ u v
  have hu : u.run.state = s.run.state := holdW_state _
  have hv : v.run.state = s.run.state := by
    unfold v
    split
    exacts [(setActivity_state _ _).trans hu, hu]
  split
  · exact hu
  · next hr =>
    obtain ⟨h1, h2⟩ := h.resolve_left hr
    rw [if_neg (by simp [hv, h1, h2]), hv]

@[simp] theorem contact_state (k : CalKind) (p : Nat) (s : State) : (contact k p s).run.state = s.run.state := by
  simp only [contact, updateActivity_state, requestRecord_state]
  exact setReference_state _ (.inl rfl)

theorem startLinerChange_state {s : State} (h : s.run.state ≠ .running ∧ s.run.state ≠ .held) :
    (startLinerChange s).run.state = s.run.state := by
  simp only [startLinerChange, requestRecord_state]
  exact setReference_state _ (.inr h)

/-! ### What the operations write of the reference, the totals and the tonnage -/

/-- The reference with its contact position, the wear and the totals (R115 to R118, R128), every other field of the Gap Controller
blank. -/
def State.wear (s : State) : GapController :=
  { GapController.reset with
    reference := s.gap.reference, wearAcc := s.gap.wearAcc, linerTonnes := s.gap.linerTonnes
    linerWear := s.gap.linerWear, calCount := s.gap.calCount, wearUnknown := s.gap.wearUnknown
    lastShift := s.gap.lastShift }

theorem State.wear_of_still {s t : State} (h : s.still = t.still) : s.wear = t.wear :=
  (congrArg State.wear h :)

theorem State.settings_of_still {s t : State} (h : s.still = t.still) : s.settings = t.settings :=
  (congrArg State.settings h :)

theorem State.target_of_still {s t : State} (h : s.still = t.still) : s.gap.target = t.gap.target :=
  (congrArg (fun u : State => u.gap.target) h :)

/-- A new reference writes itself and, beyond that, only what `still` blanks. -/
theorem setReference_still (r : Reference) (s : State) :
    (setReference r s).still = ({ s with gap.reference := r } : State).still := by
  unfold setReference
  extract_lets _ u v
  have hu : u.still = ({ s with gap.reference := r } : State).still := holdW_still _
  have hv : v.still = u.still := by
    unfold v
    split
    exacts [setActivity_still _ _, rfl]
  split
  · exact hu
  · split
    exacts [(changeRun_still _ _).trans (hv.trans hu), hv.trans hu]

/-- A record that arrives touches the memory and its interface only. -/
theorem recordArrives_frame (r : WearRecord) (s : State) :
    recordArrives r s =
      { s with interface := (recordArrives r s).interface, memory := (recordArrives r s).memory } := by
  unfold recordArrives
  split <;> rfl

/-- A record that is requested touches the memory and its interface only. -/
theorem requestRecord_frame (s : State) :
    requestRecord s = { s with interface := (requestRecord s).interface, memory := (requestRecord s).memory } :=
  recordArrives_frame _ s

/-- A pending record that starts touches the memory and its interface only. -/
theorem startPending_frame (s : State) :
    startPending s = { s with interface := (startPending s).interface, memory := (startPending s).memory } := by
  unfold startPending
  split
  · split <;> rfl
  · rfl

@[simp] theorem requestRecord_wear (s : State) : (requestRecord s).wear = s.wear := by
  rw [requestRecord_frame]
  rfl

@[simp] theorem requestRecord_target (s : State) : (requestRecord s).gap.target = s.gap.target := by
  rw [requestRecord_frame]

@[simp] theorem startPending_wear (s : State) : (startPending s).wear = s.wear := by
  rw [startPending_frame]
  rfl

@[simp] theorem startPending_target (s : State) : (startPending s).gap.target = s.gap.target := by
  rw [startPending_frame]

@[simp] theorem setReference_target (r : Reference) (s : State) : (setReference r s).gap.target = s.gap.target :=
  State.target_of_still (t := { s with gap.reference := r }) (setReference_still r s)

@[simp] theorem setReference_calibrationKg (r : Reference) (s : State) :
    (setReference r s).monitor.calibrationKg = s.monitor.calibrationKg :=
  (congrArg (fun u : State => u.monitor.calibrationKg) (setReference_still r s) :)

/-- A change of RUNNING to IDLE at the end of STOPPING touches none of them. -/
@[simp] theorem finishStopping_wear (s : State) : (finishStopping s).wear = s.wear := by
  rw [finishStopping, requestRecord_wear]
  exact State.wear_of_still (changeRun_still _ _)

@[simp] theorem finishStopping_target (s : State) : (finishStopping s).gap.target = s.gap.target := by
  simp [finishStopping]

/-! ### The start of a head (R144) -/

/-- `State.still` with the gap target blanked as well: what the start of a queued SET_GAP or CALIBRATE leaves as it was. -/
def State.steady (s : State) : State := { s.still with gap := { s.still.gap with target := 0 } }

theorem State.steady_of_still {s t : State} (h : s.still = t.still) : s.steady = t.steady :=
  congrArg (fun u : State => { u with gap := { u.gap with target := 0 } }) h

theorem State.wear_of_steady {s t : State} (h : s.steady = t.steady) : s.wear = t.wear :=
  (congrArg State.wear h :)

theorem State.linerKg_of_steady {s t : State} (h : s.steady = t.steady) : s.monitor.linerKg = t.monitor.linerKg :=
  (congrArg (fun u : State => u.monitor.linerKg) h :)

theorem State.calibrationKg_of_steady {s t : State} (h : s.steady = t.steady) :
    s.monitor.calibrationKg = t.monitor.calibrationKg :=
  (congrArg (fun u : State => u.monitor.calibrationKg) h :)

theorem startSetGap_steady (e : Entry) (s : State) : (startSetGap e s).steady = s.steady := by
  have htarget : ∀ (n : Nat) (u : State), ({ u with gap.target := n } : State).steady = u.steady := fun _ _ => rfl
  have happroach : ∀ (b : Bool) (u : State), ({ u with gap.approach := b } : State).steady = u.steady := fun _ _ => rfl
  unfold startSetGap
  split
  · exact State.steady_of_still (endActive_still _ _)
  · split
    · rw [State.steady_of_still (holdW_still _), htarget, State.steady_of_still (endActive_still _ _)]
    · dsimp only
      split
      · rw [State.steady_of_still (endActive_still _ _), State.steady_of_still (setAfresh_still _), htarget]
      · rw [happroach, State.steady_of_still (setAfresh_still _), htarget]

@[simp] theorem startLinerChange_target (s : State) : (startLinerChange s).gap.target = s.gap.target := by
  simp [startLinerChange]

@[simp] theorem startLinerChange_calibrationKg (s : State) :
    (startLinerChange s).monitor.calibrationKg = s.monitor.calibrationKg := by
  rw [startLinerChange, requestRecord_frame]
  exact setReference_calibrationKg _ _

/-- A head that may be started is WAITING. -/
theorem State.headStartable_waiting {s : State} {e : Entry} {rest : List Entry} (h : s.headStartable = true)
    (hq : s.queue = e :: rest) : e.active = false := by
  simp only [State.headStartable, hq, Bool.and_eq_true] at h
  simpa using h.2

/-- A kind of which none waits is not the kind of a head that may be started. -/
theorem NoneWaits.head_kind {k : QueuedKind} {s : State} {e : Entry} {rest : List Entry} (hn : NoneWaits k s.queue)
    (h : s.headStartable = true) (hq : s.queue = e :: rest) : e.kind ≠ k := fun hk => by
  have ha := hn e (by simp [hq]) hk
  simp [State.headStartable_waiting h hq] at ha

section
variable {s : State} (h : s.headStartable = true)
include h

/-- The start of a head that is no LINER_CHANGE writes the gap target and what `still` blanks. -/
theorem startHead_steady (hn : NoneWaits .linerChange s.queue) : (startHead s).steady = s.steady := by
  unfold startHead
  split
  · rfl
  · next e rest hq =>
    dsimp only
    split
    · exact startSetGap_steady _ _
    · exact State.steady_of_still (startRequestedCalibration_still _)
    · next hk => exact absurd hk (hn.head_kind h hq)

/-- The start of a head that is no SET_GAP leaves the gap target. -/
theorem startHead_target (hn : NoneWaits .setGap s.queue) : (startHead s).gap.target = s.gap.target := by
  unfold startHead
  split
  · rfl
  · next e rest hq =>
    dsimp only
    split
    · next hk => exact absurd hk (hn.head_kind h hq)
    · exact State.target_of_still (startRequestedCalibration_still _)
    · exact startLinerChange_target _

/-- The start of a head leaves the run state unless a LINER_CHANGE takes the reference from a feeding station (R44). -/
theorem startHead_state (hn : s.run.state = .running ∨ s.run.state = .held → NoneWaits .linerChange s.queue) :
    (startHead s).run.state = s.run.state := by
  unfold startHead
  split
  · rfl
  · next e rest hq =>
    dsimp only
    split
    · exact startSetGap_state _ _
    · exact startRequestedCalibration_state _
    · next hk =>
      refine startLinerChange_state ⟨fun hr => ?_, fun hr => ?_⟩
      exacts [(hn (.inl hr)).head_kind h hq hk, (hn (.inr hr)).head_kind h hq hk]

end

/-- No start of a head writes the calibration tonnage. -/
theorem startHead_calibrationKg (s : State) : (startHead s).monitor.calibrationKg = s.monitor.calibrationKg := by
  unfold startHead
  split
  · rfl
  · dsimp only
    split
    · exact State.calibrationKg_of_steady (startSetGap_steady _ _)
    · exact State.calibrationKg_of_steady (State.steady_of_still (startRequestedCalibration_still _))
    · exact startLinerChange_calibrationKg _

/-- What the start of one head keeps, a run of starts keeps: `P` holds of every queue on the way. -/
theorem startHeads_keeps {α : Type} {P : State → Prop} {f : State → α}
    (hstep : ∀ s, s.headStartable = true → P s → f (startHead s) = f s ∧ P (startHead s)) (n : Nat) {s : State} (hs : P s) :
    f (startHeads n s) = f s := by
  induction n generalizing s with
  | zero => rfl
  | succ n ih =>
    unfold startHeads
    split
    · next h =>
      obtain ⟨h1, h2⟩ := hstep s h hs
      rw [ih h2, h1]
    · rfl

theorem startHead_noneWaits {k : QueuedKind} {s : State} (h : NoneWaits k s.queue) : NoneWaits k (startHead s).queue :=
  (startHead_tame (.refl s)).noneWaits h

/-! ### The end of an event -/

/-- While no LINER_CHANGE waits, the end of an event writes the gap target and what `still` blanks. -/
theorem settle_steady {s : State} (h : NoneWaits .linerChange s.queue) : (settle s).steady = s.steady := by
  unfold settle
  rw [State.steady_of_still (primingTest_still _), State.steady_of_still (moveTest_still _),
    State.steady_of_still (internalCalibrationTest_still _)]
  exact startHeads_keeps (P := fun u => NoneWaits .linerChange u.queue)
    (fun u hu hn => ⟨startHead_steady hu hn, startHead_noneWaits hn⟩) _ h

/-- While no LINER_CHANGE waits, the end of an event leaves reference, wear and totals. -/
theorem settle_wear {s : State} (h : NoneWaits .linerChange s.queue) : (settle s).wear = s.wear :=
  State.wear_of_steady (settle_steady h)

/-- While no SET_GAP waits, the end of an event leaves the gap target. -/
theorem settle_target {s : State} (h : NoneWaits .setGap s.queue) : (settle s).gap.target = s.gap.target := by
  unfold settle
  rw [State.target_of_still (primingTest_still _), State.target_of_still (moveTest_still _),
    State.target_of_still (internalCalibrationTest_still _)]
  exact startHeads_keeps (P := fun u => NoneWaits .setGap u.queue) (f := fun u => u.gap.target)
    (fun u hu hn => ⟨startHead_target hu hn, startHead_noneWaits hn⟩) _ h

/-- The end of an event never writes the calibration tonnage. -/
@[simp] theorem settle_calibrationKg (s : State) : (settle s).monitor.calibrationKg = s.monitor.calibrationKg := by
  have of_still : ∀ {u v : State}, u.still = v.still → u.monitor.calibrationKg = v.monitor.calibrationKg :=
    fun h => State.calibrationKg_of_steady (State.steady_of_still h)
  unfold settle
  rw [of_still (primingTest_still _), of_still (moveTest_still _), of_still (internalCalibrationTest_still _)]
  exact startHeads_keeps (P := fun _ => True) (f := fun u => u.monitor.calibrationKg)
    (fun u _ _ => ⟨startHead_calibrationKg u, trivial⟩) _ trivial

/-- Out of PRIMING the end of an event leaves the run state, unless a LINER_CHANGE that waits takes the reference from a feeding
station. -/
theorem settle_state {s : State} (hp : s.run.state ≠ .priming)
    (hn : s.run.state = .running ∨ s.run.state = .held → NoneWaits .linerChange s.queue) :
    (settle s).run.state = s.run.state := by
  have heads : (startHeads s.queue.length s).run.state = s.run.state := by
    refine startHeads_keeps (f := fun u => u.run.state)
      (P := fun u => u.run.state = .running ∨ u.run.state = .held → NoneWaits .linerChange u.queue) ?_ _ hn
    intro u hu hq
    have hs := startHead_state hu hq
    exact ⟨hs, fun hr => startHead_noneWaits (hq (hs ▸ hr))⟩
  have hstate : (moveTest (internalCalibrationTest (startHeads s.queue.length s))).run.state = s.run.state := by
    simp [heads]
  unfold settle primingTest
  rw [if_neg (fun h => hp (hstate ▸ h.1)), hstate]

end Sys2Proof.Machine

/-! ## Field Measurements: the parts of a reading event (chapter 1) -/

namespace Sys2Proof.Machine

/-! ### Break checks (R5) -/

/-- The validity states after the break checks of one reading event (R5). -/
def brokenInputs (r : Readings) (c : Settings) (v : Inputs Validity) : Inputs Validity where
  power := if loopInRange r.power then v.power else .broken
  pressure := if loopInRange r.pressure then v.pressure else .broken
  cavity := if loopInRange r.cavity then v.cavity else .broken
  pile := if !c.pileInput || loopInRange r.pile then v.pile else .broken
  position := if (positionReading r).isSome then v.position else .broken

/-- An input is BROKEN after its check exactly when it was or its reading was out of range. -/
theorem validity_of_not_breaking {v : Validity} {ok : Bool} (h : ¬ (v = .valid ∧ ok = false)) :
    v = if ok then v else .broken := by
  cases ok <;> cases v <;> simp_all

theorem breakPower_still (ok : Bool) (s : State) :
    (breakPower ok s).still =
      { s.still with monitor.validity.power := if ok then s.still.monitor.validity.power else .broken } := by
  unfold breakPower
  split
  · next h => rw [report_still, h.2]; rfl
  · next h => simp only [State.still, ← validity_of_not_breaking h]

theorem breakPressure_still (ok : Bool) (s : State) :
    (breakPressure ok s).still =
      { s.still with monitor.validity.pressure := if ok then s.still.monitor.validity.pressure else .broken } := by
  unfold breakPressure
  split
  · next h => rw [report_still, h.2]; rfl
  · next h => simp only [State.still, ← validity_of_not_breaking h]

theorem breakCavity_still (ok : Bool) (s : State) :
    (breakCavity ok s).still =
      { s.still with monitor.validity.cavity := if ok then s.still.monitor.validity.cavity else .broken } := by
  unfold breakCavity
  split
  · next h => rw [report_still, h.2]; rfl
  · next h => simp only [State.still, ← validity_of_not_breaking h]

theorem breakPile_still (ok : Bool) (s : State) :
    (breakPile ok s).still =
      { s.still with monitor.validity.pile := if ok then s.still.monitor.validity.pile else .broken } := by
  unfold breakPile
  split
  · next h => rw [report_still, h.2]; rfl
  · next h => simp only [State.still, ← validity_of_not_breaking h]

theorem breakPosition_still (ok : Bool) (s : State) :
    (breakPosition ok s).still =
      { s.still with monitor.validity.position := if ok then s.still.monitor.validity.position else .broken } := by
  unfold breakPosition
  split
  · next h => rw [report_still, h.2]; rfl
  · next h => simp only [State.still, ← validity_of_not_breaking h]

/-- The break checks write the validity states and what `still` blanks. -/
theorem breakChecks_still (r : Readings) (s : State) :
    (breakChecks r s).still =
      ({ s with monitor.validity := brokenInputs r s.settings s.monitor.validity } : State).still := by
  simp only [breakChecks, breakPosition_still, breakPile_still, breakCavity_still, breakPressure_still, breakPower_still]
  rfl

theorem breakPower_tame {s t : State} (ok : Bool) (h : Tame s t) : Tame s (breakPower ok t) := by
  unfold breakPower
  split
  exacts [report_tame _ _ h.plain, h]

theorem breakPressure_tame {s t : State} (ok : Bool) (h : Tame s t) : Tame s (breakPressure ok t) := by
  unfold breakPressure
  split
  exacts [report_tame _ _ h.plain, h]

theorem breakCavity_tame {s t : State} (ok : Bool) (h : Tame s t) : Tame s (breakCavity ok t) := by
  unfold breakCavity
  split
  exacts [report_tame _ _ h.plain, h]

theorem breakPile_tame {s t : State} (ok : Bool) (h : Tame s t) : Tame s (breakPile ok t) := by
  unfold breakPile
  split
  exacts [report_tame _ _ h.plain, h]

theorem breakPosition_tame {s t : State} (ok : Bool) (h : Tame s t) : Tame s (breakPosition ok t) := by
  unfold breakPosition
  split
  exacts [report_tame _ _ h.plain, h]

theorem breakChecks_tame {s t : State} (r : Readings) (h : Tame s t) : Tame s (breakChecks r t) :=
  breakPosition_tame _ (breakPile_tame _ (breakCavity_tame _ (breakPressure_tame _ (breakPower_tame _ h))))

/-! ### What the Gap Controller finds at a reading -/

/-- The state from which the Gap Controller's tests of a reading event start: clock, sums, break checks and position are taken
(log entry 8). -/
def sensed (r : Readings) (s : State) : State :=
  notePosition (positionReading r) (breakChecks r (noteReading r (advanceReadingClock s)))

theorem readingEvent_eq (r : Readings) (s : State) :
    readingEvent r s = settle (wearChanged (estimateTonnage s.drive.output
      (gapReading (loopReading s.settings.pressureSpan r.pressure) (positionReading r) (sensed r s)))) := by
  simp only [readingEvent, sensed, State.settings_of_still (breakChecks_still r _), noteReading_settings,
    advanceReadingClock_settings]

theorem notePosition_still (p : Option Nat) (s : State) :
    (notePosition p s).still = { s.still with
      monitor.position := p.orElse (fun _ => s.still.monitor.position), monitor.positionValid := p.isSome } := rfl

theorem notePosition_tame {s t : State} (p : Option Nat) (h : Tame s t) : Tame s (notePosition p t) := h.plain

theorem noteReading_tame {s t : State} (r : Readings) (h : Tame s t) : Tame s (noteReading r t) := h.plain

theorem advanceReadingClock_tame {s t : State} (h : Tame s t) : Tame s (advanceReadingClock t) := h.gap

theorem sensed_tame (r : Readings) (s : State) : Tame s (sensed r s) :=
  notePosition_tame _ (breakChecks_tame r (noteReading_tame r (advanceReadingClock_tame (.refl s))))

/-- The Field Monitor once the readings of an event are taken: window sums and marks, validity states, position. -/
def sensedMonitor (r : Readings) (s : State) : Monitor :=
  { (noteReading r s).monitor with
    validity := brokenInputs r s.settings s.monitor.validity
    position := (positionReading r).orElse (fun _ => s.monitor.position)
    positionValid := (positionReading r).isSome }

/-- The readings write the monitor, the reading clock and what `still` blanks. -/
theorem sensed_still (r : Readings) (s : State) :
    (sensed r s).still = ({ s with monitor := sensedMonitor r s, gap := (advanceReadingClock s).gap } : State).still := by
  rw [sensed, notePosition_still, breakChecks_still]
  rfl

/-! ### The activity in progress at a reading (R131) -/

theorem moveReading_still (pressure : Option Nat) (s : State) : (moveReading pressure s).still = s.still := by
  unfold moveReading
  dsimp only
  split <;> simp

theorem reclosingReading_still (pressure : Option Nat) (s : State) : (reclosingReading pressure s).still = s.still := by
  unfold reclosingReading
  dsimp only
  split <;> simp

@[simp] theorem calibrationFails_still (k : CalKind) (s : State) : (calibrationFails k s).still = s.still := by
  cases k <;> simp [calibrationFails]

theorem settleReading_still (pressure : Option Nat) (timer : Timer) (s : State) :
    (settleReading pressure timer s).still = s.still := by
  unfold settleReading
  split <;> simp

/-- The reading finds contact by pressure: a calibration in SEEKING, a pressure above the contact mark and a valid position
(R122). -/
def ContactAt (pressure position : Option Nat) (s : State) : Prop :=
  ∃ c pulse p v, s.gap.activity = .calibrating c ∧ c.phase = .seeking pulse ∧ position = some p ∧ pressure = some v ∧
    s.settings.contactMark < v

/-- A contact by pressure. -/
theorem activityReading_contact {pressure position : Option Nat} {s : State} (h : ContactAt pressure position s) :
    ∃ k p, activityReading pressure position s = contact k p s := by
  obtain ⟨c, pulse, p, v, ha, hc, rfl, rfl, hv⟩ := h
  exact ⟨c.kind, p, by simp [activityReading, ha, calibrationReading, hc, hv]⟩

/-- Without a contact by pressure a calibration's reading writes only what `still` blanks. -/
theorem calibrationReading_still {pressure : Option Nat} {c : Calibration} (p : Nat) {s : State}
    (hc : ∀ pulse v, c.phase = .seeking pulse → pressure = some v → ¬ s.settings.contactMark < v) :
    (calibrationReading pressure c p s).still = s.still := by
  unfold calibrationReading
  split
  · split <;> simp
  · next pulse hp =>
    rw [if_neg]
    · split <;> simp
    · cases hv : pressure with
      | none => simp
      | some v => simpa using hc pulse v hp hv
  · dsimp only
    split
    · split <;> simp
    · simp

/-- Without a contact by pressure the tests of the activity in progress write only what `still` blanks. -/
theorem activityReading_still {pressure position : Option Nat} {s : State} (h : ¬ ContactAt pressure position s) :
    (activityReading pressure position s).still = s.still := by
  unfold activityReading
  split
  · exact settleReading_still _ _ _
  · exact moveReading_still _ _
  · exact reclosingReading_still _ _
  · next c p ha =>
    refine calibrationReading_still p fun pulse v hp hv hm => h ⟨c, pulse, p, v, ha, hp, rfl, hv, hm⟩
  · rfl

theorem moveReading_tame {s t : State} (pressure : Option Nat) (h : Tame s t) : Tame s (moveReading pressure t) := by
  unfold moveReading
  dsimp only
  split
  exacts [updateActivity_tame _ (moveCrossing_tame h), moveCrossing_tame h]

theorem reclosingReading_tame {s t : State} (pressure : Option Nat) (h : Tame s t) :
    Tame s (reclosingReading pressure t) := by
  unfold reclosingReading
  dsimp only
  split
  exacts [updateActivity_tame _ (reclosingArrival_tame h), reclosingArrival_tame h]

theorem calibrationFails_tame {s t : State} (k : CalKind) (h : Tame s t) : Tame s (calibrationFails k t) := by
  cases k with
  | internal => exact report_tame _ _ (stopCalibration_tame h)
  | requested => exact endActiveOf_tame _ _ (report_tame _ _ (stopCalibration_tame h))

theorem calibrationReading_tame {s t : State} (pressure : Option Nat) (c : Calibration) (p : Nat) (h : Tame s t) :
    Tame s (calibrationReading pressure c p t) := by
  unfold calibrationReading
  split
  · split
    exacts [updateActivity_tame _ h, h]
  · split
    · exact contact_tame _ _ h
    · split
      exacts [calibrationFails_tame _ h, h]
  · dsimp only
    split
    · split
      exacts [updateActivity_tame _ (backingArrival_tame h), backingArrival_tame h]
    · exact backingArrival_tame h

theorem activityReading_tame {s t : State} (pressure position : Option Nat) (h : Tame s t) :
    Tame s (activityReading pressure position t) := by
  unfold activityReading
  split
  · unfold settleReading
    split <;> exact updateActivity_tame _ h
  · exact moveReading_tame _ h
  · exact reclosingReading_tame _ h
  · exact calibrationReading_tame _ _ _ h
  · exact h

/-! ### The tramp tests (R131 to R136) -/

/-- A detection writes the marks of detection, the tramp list and what `still` blanks. -/
theorem detectTramp_still (s : State) :
    (detectTramp s).still = ({ s with
      gap.armed := false
      gap.lastDetection := s.gap.readingClock
      gap.trampList := trampListWith (s.settings.trampWindow * 60) s.seconds s.gap.trampList } : State).still := by
  have h : ∀ (t : State) (b : Prop) [Decidable b], (if b then report .trampRepeat true t else t).still = t.still :=
    fun t b _ => by split <;> simp
  simp only [detectTramp, h, setActivity_still, endActiveOf_still]
  rfl

/-- The tramp tests write the marks of detection, the tramp list and what `still` blanks. -/
theorem trampReading_still (pressure : Option Nat) (s : State) :
    (trampReading pressure s).still = { s.still with
      gap.armed := (trampReading pressure s).still.gap.armed
      gap.lastDetection := (trampReading pressure s).still.gap.lastDetection
      gap.trampList := (trampReading pressure s).still.gap.trampList } := by
  unfold trampReading
  extract_lets now kept added
  split
  · split
    · rw [detectTramp_still]
      rfl
    · rfl
  · split <;> rfl

theorem detectTramp_tame {s t : State} (h : Tame s t) : Tame s (detectTramp t) := by
  unfold detectTramp
  extract_lets list _ s1 s2 s3
  have h3 : Tame s s3 := setActivity_tame _ (endActiveOf_tame _ _ (endActiveOf_tame _ _ h.gap))
  split
  exacts [report_tame _ _ h3, h3]

theorem trampReading_tame {s t : State} (pressure : Option Nat) (h : Tame s t) : Tame s (trampReading pressure t) := by
  unfold trampReading
  extract_lets now kept added
  split
  · split
    exacts [detectTramp_tame h, h.gap]
  · split
    exacts [h.gap, h.gap]

theorem gapReading_tame {s t : State} (pressure position : Option Nat) (h : Tame s t) :
    Tame s (gapReading pressure position t) :=
  trampReading_tame _ (activityReading_tame _ _ h)

/-! ### Contact (R123) -/

/-- A contact takes the reference, the shift with the liner's wear, and the count, and starts the wear accumulator at 0. -/
theorem contact_wear (k : CalKind) (p : Nat) (s : State) :
    (contact k p s).wear = { s.wear with
      reference := .referenced p
      wearAcc := 0
      lastShift := s.gap.reference.contact?.map (fun old => (p : Int) - (old : Int))
      linerWear := match s.gap.reference.contact?.map (fun old => (p : Int) - (old : Int)) with
        | some d => min 65535 (s.gap.linerWear + d.toNat)
        | none => s.gap.linerWear
      calCount := min 65535 (s.gap.calCount + 1) } := by
  have happroach : ∀ (b : Bool) (u : State), ({ u with gap.approach := b } : State).wear = u.wear := fun _ _ => rfl
  unfold contact
  dsimp only
  rw [State.wear_of_still (updateActivity_still _ _), happroach, requestRecord_wear,
    State.wear_of_still (setReference_still _ _)]
  rfl

@[simp] theorem contact_target (k : CalKind) (p : Nat) (s : State) : (contact k p s).gap.target = s.gap.target := by
  unfold contact
  dsimp only
  rw [State.target_of_still (updateActivity_still _ _)]
  simp

/-- A contact starts the calibration tonnage at 0 and leaves the liner's. -/
theorem contact_tonnage (k : CalKind) (p : Nat) (s : State) :
    (contact k p s).monitor.calibrationKg = 0 ∧ (contact k p s).monitor.linerKg = s.monitor.linerKg := by
  have hb : ∀ (b : Bool) (u : State), ({ u with gap.approach := b } : State).still = u.still := fun _ _ => rfl
  have key : ∀ {u v : State}, u.still = v.still →
      u.monitor.calibrationKg = v.monitor.calibrationKg ∧ u.monitor.linerKg = v.monitor.linerKg := fun h =>
    ⟨State.calibrationKg_of_steady (State.steady_of_still h), State.linerKg_of_steady (State.steady_of_still h)⟩
  unfold contact
  dsimp only
  refine (key ((updateActivity_still _ _).trans (hb _ _))).imp (Eq.trans · ?_) (Eq.trans · ?_) <;> rw [requestRecord_frame]
  · exact (key (setReference_still _ _)).1
  · exact (key (setReference_still _ _)).2

end Sys2Proof.Machine

/-! ## Field Measurements: tonnage and the reading event as a whole (R13, R14) -/

namespace Sys2Proof.Machine

theorem State.monitor_of_fixed {t : State} {m : Monitor} (h : t.fixed.monitor = m) :
    t.monitor = { m with
      nofeed := t.monitor.nofeed, calibrationKg := t.monitor.calibrationKg, linerKg := t.monitor.linerKg } := by
  rw [← h]
  rfl

/-! ### Weighing and what follows it -/

theorem addTonnage_tame {s t : State} (kg : Nat) (h : Tame s t) : Tame s (addTonnage kg t) := h.plain

theorem estimateTonnage_tame {s t : State} (output : Nat) (h : Tame s t) : Tame s (estimateTonnage output t) := by
  unfold estimateTonnage
  split
  exacts [addTonnage_tame _ h.plain, h]

theorem settle_wearChanged_tame {s t : State} (h : Tame s t) : Tame s (settle (wearChanged t)) :=
  settle_tame (wearChanged_tame h)

theorem settle_wearChanged_calibrationKg (s : State) :
    (settle (wearChanged s)).monitor.calibrationKg = s.monitor.calibrationKg := by
  rw [settle_calibrationKg]
  exact State.calibrationKg_of_steady (State.steady_of_still (wearChanged_still s))

/-- While no LINER_CHANGE waits, what follows a weighing writes the gap target and what `still` blanks. -/
theorem settle_wearChanged_steady {s : State} (h : NoneWaits .linerChange s.queue) :
    (settle (wearChanged s)).steady = s.steady := by
  rw [settle_steady ((wearChanged_tame (.refl s)).noneWaits h)]
  exact State.steady_of_still (wearChanged_still s)

/-- The kilograms that a reading event delivers by estimate (R13). -/
def estimatedKg (output : Nat) (s : State) : Nat :=
  if s.settings.pulseWeight = 0 then (s.monitor.remainder + output * s.settings.feederCapacity) / 360000 else 0

/-- The remainder that the estimate carries (R13). -/
def carriedRemainder (output : Nat) (s : State) : Nat :=
  if s.settings.pulseWeight = 0 then (s.monitor.remainder + output * s.settings.feederCapacity) % 360000
  else s.monitor.remainder

/-- A counter after the estimate; with a belt scale there is none to add or to wrap (R13, R14). -/
theorem estimateTonnage_counters (output : Nat) (s : State) :
    let passes : Nat → Prop := fun n => s.settings.pulseWeight = 0 ∧ 100000 ≤ n + estimatedKg output s
    let counted : Nat → Nat := fun n =>
      if passes n then n + estimatedKg output s - 100000 else n + estimatedKg output s
    (estimateTonnage output s).monitor.calibrationKg = counted s.monitor.calibrationKg ∧
    (estimateTonnage output s).monitor.linerKg = counted s.monitor.linerKg ∧
    (estimateTonnage output s).gap.wearAcc =
      (if passes s.monitor.calibrationKg then min 65535 (s.gap.wearAcc + s.settings.wearRate) else s.gap.wearAcc) ∧
    (estimateTonnage output s).gap.linerTonnes =
      (if passes s.monitor.linerKg then min 65535 (s.gap.linerTonnes + 1) else s.gap.linerTonnes) := by
  by_cases h : s.settings.pulseWeight = 0
  · simp [estimateTonnage, estimatedKg, h, addTonnage, wrapKg]
  · simp [estimateTonnage, estimatedKg, h]

/-- The estimate writes the tonnage, the two totals and the remainder. -/
theorem estimateTonnage_fixed (output : Nat) (s : State) :
    (estimateTonnage output s).fixed = { s.fixed with monitor.remainder := carriedRemainder output s } := by
  unfold estimateTonnage carriedRemainder
  split <;> rfl

@[simp] theorem estimateTonnage_target (output : Nat) (s : State) :
    (estimateTonnage output s).gap.target = s.gap.target := by
  unfold estimateTonnage
  split <;> rfl

@[simp] theorem estimateTonnage_wearUnknown (output : Nat) (s : State) :
    (estimateTonnage output s).gap.wearUnknown = s.gap.wearUnknown := by
  unfold estimateTonnage
  split <;> rfl

/-! ### The Gap Controller's part -/

@[simp] theorem activityReading_fixed (pressure position : Option Nat) (s : State) :
    (activityReading pressure position s).fixed = s.fixed := by
  by_cases h : ContactAt pressure position s
  · obtain ⟨k, p, hk⟩ := activityReading_contact h
    rw [hk, contact_fixed]
  · exact State.fixed_of_still (activityReading_still h)

/-- The tests of a reading write the marks of detection and the tramp list, and beyond them only what `fixed` blanks. -/
theorem gapReading_fixed (pressure position : Option Nat) (s : State) :
    (gapReading pressure position s).fixed = { s.fixed with
      gap.armed := (gapReading pressure position s).gap.armed
      gap.lastDetection := (gapReading pressure position s).gap.lastDetection
      gap.trampList := (gapReading pressure position s).gap.trampList } := by
  have key : ∀ {u v : State}, u.still = { v.still with
      gap.armed := u.still.gap.armed, gap.lastDetection := u.still.gap.lastDetection
      gap.trampList := u.still.gap.trampList } → u.fixed = { v.fixed with
      gap.armed := u.gap.armed, gap.lastDetection := u.gap.lastDetection, gap.trampList := u.gap.trampList } :=
    fun h => (congrArg State.fixed h :)
  rw [gapReading, key (trampReading_still _ _), activityReading_fixed]

theorem trampReading_wear (pressure : Option Nat) (s : State) : (trampReading pressure s).wear = s.wear :=
  (congrArg State.wear (trampReading_still pressure s) :)

theorem trampReading_target (pressure : Option Nat) (s : State) :
    (trampReading pressure s).gap.target = s.gap.target :=
  (congrArg (fun u : State => u.gap.target) (trampReading_still pressure s) :)

theorem trampReading_tonnage (pressure : Option Nat) (s : State) :
    (trampReading pressure s).monitor.calibrationKg = s.monitor.calibrationKg ∧
      (trampReading pressure s).monitor.linerKg = s.monitor.linerKg :=
  ⟨(congrArg (fun u : State => u.monitor.calibrationKg) (trampReading_still pressure s) :),
    (congrArg (fun u : State => u.monitor.linerKg) (trampReading_still pressure s) :)⟩

end Sys2Proof.Machine

/-! ## The reading event -/

namespace Sys2Proof.Machine

/-! ### Contact and tonnage at the Gap Controller's tests -/

/-- A contact starts wear accumulator and calibration tonnage at 0; without one the tests of a reading leave both. -/
theorem gapReading_weighed (pressure position : Option Nat) (s : State) :
    (ContactAt pressure position s → (gapReading pressure position s).monitor.calibrationKg = 0 ∧
      (gapReading pressure position s).gap.wearAcc = 0) ∧
    (¬ ContactAt pressure position s →
      (gapReading pressure position s).monitor.calibrationKg = s.monitor.calibrationKg ∧
      (gapReading pressure position s).gap.wearAcc = s.gap.wearAcc) := by
  have hacc : ∀ {u v : State}, u.wear = v.wear → u.gap.wearAcc = v.gap.wearAcc :=
    fun h => (congrArg (fun g : GapController => g.wearAcc) h :)
  simp only [gapReading, (trampReading_tonnage _ _).1, hacc (trampReading_wear _ _)]
  refine ⟨fun h => ?_, fun h => ?_⟩
  · obtain ⟨k, p, hk⟩ := activityReading_contact h
    rw [hk]
    exact ⟨(contact_tonnage k p s).1, (congrArg (fun g : GapController => g.wearAcc) (contact_wear k p s) :)⟩
  · have hs := activityReading_still h
    exact ⟨State.calibrationKg_of_steady (State.steady_of_still hs), hacc (State.wear_of_still hs)⟩

/-- The tests of a reading leave the liner's counts, the WEAR_UNKNOWN mark and the gap target. -/
theorem gapReading_kept (pressure position : Option Nat) (s : State) :
    (gapReading pressure position s).monitor.linerKg = s.monitor.linerKg ∧
    (gapReading pressure position s).gap.linerTonnes = s.gap.linerTonnes ∧
    (gapReading pressure position s).gap.wearUnknown = s.gap.wearUnknown ∧
    (gapReading pressure position s).gap.target = s.gap.target := by
  have htonnes : ∀ {u v : State}, u.wear = v.wear → u.gap.linerTonnes = v.gap.linerTonnes :=
    fun h => (congrArg (fun g : GapController => g.linerTonnes) h :)
  have hunknown : ∀ {u v : State}, u.wear = v.wear → u.gap.wearUnknown = v.gap.wearUnknown :=
    fun h => (congrArg (fun g : GapController => g.wearUnknown) h :)
  simp only [gapReading, (trampReading_tonnage _ _).2, htonnes (trampReading_wear _ _), hunknown (trampReading_wear _ _),
    trampReading_target]
  by_cases h : ContactAt pressure position s
  · obtain ⟨k, p, hk⟩ := activityReading_contact h
    rw [hk]
    exact ⟨(contact_tonnage k p s).2, (congrArg (fun g : GapController => g.linerTonnes) (contact_wear k p s) :),
      (congrArg (fun g : GapController => g.wearUnknown) (contact_wear k p s) :), contact_target k p s⟩
  · have hs := activityReading_still h
    exact ⟨State.linerKg_of_steady (State.steady_of_still hs), htonnes (State.wear_of_still hs),
      hunknown (State.wear_of_still hs), State.target_of_still hs⟩

/-! ### What a break does to the activity in progress -/

/-- A report leaves the activity or, where it trips, ends it (R106, R126). -/
theorem report_activity (k : FaultKind) (trips : Bool) (s : State) :
    (report k trips s).gap.activity = s.gap.activity ∨
      trips = true ∧ (report k trips s).gap.activity = .holding := by
  unfold report
  split
  · next h =>
    rw [trip_activity, noteFault_gap]
    split
    exacts [.inr ⟨h.1, rfl⟩, .inl rfl]
  · exact .inl rfl

theorem report_activity_of_no_trip (k : FaultKind) (s : State) : (report k false s).gap.activity = s.gap.activity :=
  (report_activity k false s).resolve_right (by simp)

/-- Only a break of the pressure or of the position can end the activity at the break checks. -/
theorem breakChecks_activity (r : Readings) (s : State) :
    (breakChecks r s).gap.activity = s.gap.activity ∨
      ¬ (loopInRange r.pressure = true ∧ (positionReading r).isSome = true) ∧
        (breakChecks r s).gap.activity = .holding := by
  have hpower : ∀ ok u, (breakPower ok u).gap.activity = u.gap.activity := fun ok u => by
    unfold breakPower; split <;> simp [report_activity_of_no_trip]
  have hcavity : ∀ ok u, (breakCavity ok u).gap.activity = u.gap.activity := fun ok u => by
    unfold breakCavity; split <;> simp [report_activity_of_no_trip]
  have hpile : ∀ ok u, (breakPile ok u).gap.activity = u.gap.activity := fun ok u => by
    unfold breakPile; split <;> simp [report_activity_of_no_trip]
  have hpressure : ∀ ok u, (breakPressure ok u).gap.activity = u.gap.activity ∨
      ok = false ∧ (breakPressure ok u).gap.activity = .holding := fun ok u => by
    unfold breakPressure
    split
    · next h => exact (report_activity _ _ _).imp id fun ht => ⟨h.2, ht.2⟩
    · exact .inl rfl
  have hposition : ∀ ok u, (breakPosition ok u).gap.activity = u.gap.activity ∨
      ok = false ∧ (breakPosition ok u).gap.activity = .holding := fun ok u => by
    unfold breakPosition
    split
    · next h => exact (report_activity _ _ _).imp id fun ht => ⟨h.2, ht.2⟩
    · exact .inl rfl
  unfold breakChecks
  rcases hposition (positionReading r).isSome _ with h | ⟨hok, h⟩
  · rw [h, hpile, hcavity]
    rcases hpressure (loopInRange r.pressure) (breakPower (loopInRange r.power) s) with h | ⟨hok, h⟩
    · exact .inl (by rw [h, hpower])
    · exact .inr ⟨by simp [hok], h⟩
  · exact .inr ⟨by simp [hok], h⟩

/-- Whether a reading finds contact is settled by the state before it: what could end the calibration shuts out the contact too. -/
theorem contactAt_sensed (r : Readings) (s : State) (span : Nat) :
    ContactAt (loopReading span r.pressure) (positionReading r) (sensed r s) ↔
      ContactAt (loopReading span r.pressure) (positionReading r) s := by
  have hset : (sensed r s).settings = s.settings := (State.settings_of_still (sensed_still r s)).trans rfl
  have hact : (sensed r s).gap.activity = (breakChecks r (noteReading r (advanceReadingClock s))).gap.activity := rfl
  rcases breakChecks_activity r (noteReading r (advanceReadingClock s)) with h | ⟨hn, h⟩
  · simp only [ContactAt, hact, h, hset]
    rfl
  · constructor
    · rintro ⟨c, pulse, p, v, ha, -⟩
      simp [hact, h] at ha
    · rintro ⟨c, pulse, p, v, -, -, hp, hv, -⟩
      refine absurd ⟨?_, ?_⟩ hn
      · by_contra hr
        simp [loopReading, hr] at hv
      · simp [hp]

/-! ### The reading event as a whole (R1, R8) -/

/-- Estimate and end of event on top of the tests of a reading. -/
theorem settle_estimateTonnage_fixed (output : Nat) {s t : State} {armed : Bool} {last : Option Nat} {list : List Nat}
    (h : t.fixed = { s.fixed with gap.armed := armed, gap.lastDetection := last, gap.trampList := list }) :
    (settle (wearChanged (estimateTonnage output t))).fixed = { s.fixed with
      monitor.remainder := carriedRemainder output s
      gap.armed := armed, gap.lastDetection := last, gap.trampList := list } := by
  have hr : carriedRemainder output t = carriedRemainder output s := (congrArg (carriedRemainder output) h :)
  rw [settle_fixed, wearChanged_fixed, estimateTonnage_fixed, hr, h]

/-- A reading event writes what the readings and the tests of the Gap Controller write, and carries the remainder of the
estimate. -/
theorem readingEvent_fixed (r : Readings) (s : State) :
    ∃ armed last list, (readingEvent r s).fixed = { ({ s with
        monitor := sensedMonitor r s, gap := (advanceReadingClock s).gap } : State).fixed with
      monitor.remainder := carriedRemainder s.drive.output s
      gap.armed := armed, gap.lastDetection := last, gap.trampList := list } := by
  have hg := gapReading_fixed (loopReading s.settings.pressureSpan r.pressure) (positionReading r) (sensed r s)
  rw [State.fixed_of_still (sensed_still r s)] at hg
  rw [readingEvent_eq]
  exact ⟨_, _, _, settle_estimateTonnage_fixed _ hg⟩

/-- The Field Monitor after a reading event, but for the NOFEED latch and the two tonnage counters. -/
theorem readingEvent_monitor (r : Readings) (s : State) :
    (readingEvent r s).monitor = { sensedMonitor r s with
      remainder := carriedRemainder s.drive.output s
      nofeed := (readingEvent r s).monitor.nofeed
      calibrationKg := (readingEvent r s).monitor.calibrationKg
      linerKg := (readingEvent r s).monitor.linerKg } := by
  obtain ⟨armed, last, list, h⟩ := readingEvent_fixed r s
  generalize readingEvent r s = t at h ⊢
  exact State.monitor_of_fixed (congrArg State.monitor h)

/-- The reading clock after a reading event (R133). -/
theorem readingEvent_readingClock (r : Readings) (s : State) :
    (readingEvent r s).gap.readingClock = (advanceReadingClock s).gap.readingClock := by
  obtain ⟨armed, last, list, h⟩ := readingEvent_fixed r s
  generalize readingEvent r s = t at h ⊢
  exact (congrArg (fun u : State => u.gap.readingClock) h :)

theorem readingEvent_tame_sensed (r : Readings) (s : State) : Tame (sensed r s) (readingEvent r s) := by
  rw [readingEvent_eq]
  exact settle_wearChanged_tame (estimateTonnage_tame _ (gapReading_tame _ _ (.refl _)))

theorem readingEvent_tame (r : Readings) (s : State) : Tame s (readingEvent r s) :=
  (sensed_tame r s).trans (readingEvent_tame_sensed r s)

end Sys2Proof.Machine

/-! ## The statements about readings (O10, O11) -/

namespace Sys2Proof.Machine

/-! ### Loop currents (R2) -/

theorem loopInRange_iff {i : Nat} : loopInRange i = true ↔ 3600 ≤ i ∧ i ≤ 21000 := by
  simp [loopInRange, within]

theorem loopReading_of_inRange {span i : Nat} (h : 3600 ≤ i ∧ i ≤ 21000) :
    loopReading span i = some (min ((i - 4000) * span / 16000) span) := if_pos (loopInRange_iff.2 h)

theorem loopReading_of_outOfRange {span i : Nat} (h : ¬ (3600 ≤ i ∧ i ≤ 21000)) : loopReading span i = none :=
  if_neg (mt loopInRange_iff.1 h)

theorem loopReading_isSome (span i : Nat) :
    (loopReading span i).isSome = (decide (3600 ≤ i) && decide (i ≤ 21000)) := by
  unfold loopReading
  split <;> simp_all [loopInRange, within]

/-- The sum of R8: an in-range loop is scaled and counted. -/
theorem Accumulator.add_loopReading (a : Accumulator) (span i : Nat) :
    a.add (loopReading span i) =
      if 3600 ≤ i ∧ i ≤ 21000 then ⟨a.sum + min ((i - 4000) * span / 16000) span, a.count + 1⟩ else a := by
  split
  · next h => rw [loopReading_of_inRange h, Accumulator.add]
  · next h => rw [loopReading_of_outOfRange h, Accumulator.add]

theorem raisePeak_loopReading (peak : Option Nat) (span i : Nat) :
    raisePeak peak (loopReading span i) =
      if 3600 ≤ i ∧ i ≤ 21000 then some (max (peak.getD 0) (min ((i - 4000) * span / 16000) span)) else peak := by
  split
  · next h => rw [loopReading_of_inRange h]; cases peak <;> simp [raisePeak]
  · next h => rw [loopReading_of_outOfRange h]; cases peak <;> rfl

theorem positionReading_isSome (r : Readings) :
    (positionReading r).isSome = (r.positionMarked && decide (r.position ≤ 4095)) := by
  unfold positionReading
  split <;> simp_all

/-- The position is taken when it is valid (R3). -/
theorem positionReading_cases (r : Readings) :
    if r.positionMarked = true ∧ r.position ≤ 4095 then positionReading r = some r.position
    else positionReading r = none := by
  split
  · next h => exact if_pos h
  · next h => exact if_neg h

/-- Contact by pressure, in the terms of R122. -/
theorem contactAt_iff {span : Nat} {r : Readings} {s : State} :
    ContactAt (loopReading span r.pressure) (positionReading r) s ↔
      (∃ k pulse, s.gap.activity = .calibrating k ∧ k.phase = .seeking pulse) ∧
        (3600 ≤ r.pressure ∧ r.pressure ≤ 21000) ∧
        s.settings.contactMark < min ((r.pressure - 4000) * span / 16000) span ∧
        r.positionMarked = true ∧ r.position ≤ 4095 := by
  by_cases hr : 3600 ≤ r.pressure ∧ r.pressure ≤ 21000
  · have hpos := positionReading_cases r
    split at hpos
    · next hp => simp [ContactAt, loopReading_of_inRange hr, hpos, hr, hp]; tauto
    · next hp => simp only [ContactAt, hpos, hp]; simp
  · simp [ContactAt, loopReading_of_outOfRange hr, hr]

/-! ### Tonnage of a reading event -/

/-- What a reading event adds to the counters, on the values that a contact at the same reading leaves (log entry 8). -/
theorem readingEvent_tonnage (r : Readings) (s : State) :
    let kg := estimatedKg s.drive.output s
    let passes : Nat → Prop := fun n => s.settings.pulseWeight = 0 ∧ 100000 ≤ n + kg
    let counted : Nat → Nat := fun n => if passes n then n + kg - 100000 else n + kg
    let found := ContactAt (loopReading s.settings.pressureSpan r.pressure) (positionReading r) s
    let weighs : Nat → Nat → Prop := fun kilograms wear =>
      (readingEvent r s).monitor.calibrationKg = counted kilograms ∧
      (NoneWaits .linerChange s.queue → (readingEvent r s).gap.wearAcc =
        if passes kilograms then min 65535 (wear + s.settings.wearRate) else wear)
    (found → weighs 0 0) ∧ (¬ found → weighs s.monitor.calibrationKg s.gap.wearAcc) ∧
    (NoneWaits .linerChange s.queue → (readingEvent r s).monitor.linerKg = counted s.monitor.linerKg ∧
      (readingEvent r s).gap.linerTonnes =
        if passes s.monitor.linerKg then min 65535 (s.gap.linerTonnes + 1) else s.gap.linerTonnes) := by
  have hsensed : (sensed r s).monitor.calibrationKg = s.monitor.calibrationKg ∧
      (sensed r s).monitor.linerKg = s.monitor.linerKg ∧ (sensed r s).gap.wearAcc = s.gap.wearAcc ∧
      (sensed r s).gap.linerTonnes = s.gap.linerTonnes := by
    have h := sensed_still r s
    generalize sensed r s = t at h ⊢
    exact ⟨(congrArg (fun u : State => u.monitor.calibrationKg) h :), (congrArg (fun u : State => u.monitor.linerKg) h :),
      (congrArg (fun u : State => u.gap.wearAcc) h :), (congrArg (fun u : State => u.gap.linerTonnes) h :)⟩
  obtain ⟨hcal, hliner, hacc, htonnes⟩ := hsensed
  have hfound := contactAt_sensed r s s.settings.pressureSpan
  have htame := gapReading_tame (loopReading s.settings.pressureSpan r.pressure) (positionReading r) (sensed_tame r s)
  have hfixed := gapReading_fixed (loopReading s.settings.pressureSpan r.pressure) (positionReading r) (sensed r s)
  rw [State.fixed_of_still (sensed_still r s)] at hfixed
  obtain ⟨hcontact, hnone⟩ := gapReading_weighed (loopReading s.settings.pressureSpan r.pressure) (positionReading r) (sensed r s)
  obtain ⟨hliner', htonnes', -, -⟩ := gapReading_kept (loopReading s.settings.pressureSpan r.pressure) (positionReading r) (sensed r s)
  rw [readingEvent_eq]
  rw [hfound] at hcontact hnone
  rw [hliner] at hliner'
  rw [htonnes] at htonnes'
  rw [hcal, hacc] at hnone
  generalize gapReading (loopReading s.settings.pressureSpan r.pressure) (positionReading r) (sensed r s) = g at *
  have hset : g.settings = s.settings := (congrArg State.settings hfixed :)
  have hkg : estimatedKg s.drive.output g = estimatedKg s.drive.output s :=
    (congrArg (estimatedKg s.drive.output) hfixed :)
  obtain ⟨h1, h2, h3, h4⟩ := estimateTonnage_counters s.drive.output g
  rw [hkg, hset] at h1 h2 h3 h4
  have hsteady : NoneWaits .linerChange s.queue →
      (settle (wearChanged (estimateTonnage s.drive.output g))).steady = (estimateTonnage s.drive.output g).steady :=
    fun hn => settle_wearChanged_steady ((estimateTonnage_tame _ htame).noneWaits hn)
  have hwear : ∀ {u v : State}, u.steady = v.steady →
      u.gap.wearAcc = v.gap.wearAcc ∧ u.gap.linerTonnes = v.gap.linerTonnes := fun h =>
    ⟨(congrArg (fun u : State => u.gap.wearAcc) h :), (congrArg (fun u : State => u.gap.linerTonnes) h :)⟩
  refine ⟨fun hc => ?_, fun hc => ?_, fun hn => ?_⟩
  · rw [settle_wearChanged_calibrationKg, h1, (hcontact hc).1]
    exact ⟨rfl, fun hn => by rw [(hwear (hsteady hn)).1, h3, (hcontact hc).1, (hcontact hc).2]⟩
  · rw [settle_wearChanged_calibrationKg, h1, (hnone hc).1]
    exact ⟨rfl, fun hn => by rw [(hwear (hsteady hn)).1, h3, (hnone hc).1, (hnone hc).2]⟩
  · rw [State.linerKg_of_steady (hsteady hn), h2, hliner', (hwear (hsteady hn)).2, h4, hliner', htonnes']
    exact ⟨rfl, rfl⟩

end Sys2Proof.Machine

namespace Sys2Proof.Machine

/-- The in-range marks after a reading event (R5, R6). -/
theorem sensedMonitor_inRange (r : Readings) (s : State) :
    let ok : Nat → Bool := fun i => decide (3600 ≤ i) && decide (i ≤ 21000)
    (sensedMonitor r s).inRange =
      { power := s.monitor.inRange.power && ok r.power
        pressure := s.monitor.inRange.pressure && ok r.pressure
        cavity := s.monitor.inRange.cavity && ok r.cavity
        pile := s.monitor.inRange.pile && (ok r.pile || !s.settings.pileInput)
        position := s.monitor.inRange.position && (r.positionMarked && decide (r.position ≤ 4095)) } := by
  have hpile : ((pileReading s.settings r).isSome || !s.settings.pileInput) =
      (decide (3600 ≤ r.pile) && decide (r.pile ≤ 21000) || !s.settings.pileInput) := by
    unfold pileReading
    split
    · rw [loopReading_isSome]
    · next h => simp [h]
  simp only [sensedMonitor, noteReading, loopReading_isSome, positionReading_isSome, hpile]

/-- The present pressure after a reading event: the reading in range while the input is VALID, and none out of range (R2, R15). -/
theorem readingEvent_pressure (r : Readings) (s : State) :
    let pressure := min ((r.pressure - 4000) * s.settings.pressureSpan / 16000) s.settings.pressureSpan
    if 3600 ≤ r.pressure ∧ r.pressure ≤ 21000 then
      (readingEvent r s).monitor.latestPressure = some pressure ∧
        (readingEvent r s).presentPressure = (if s.monitor.validity.pressure = .valid then some pressure else none)
    else (readingEvent r s).monitor.latestPressure = s.monitor.latestPressure ∧
        (readingEvent r s).presentPressure = none := by
  have hm := readingEvent_monitor r s
  generalize readingEvent r s = t at hm ⊢
  have hlatest : t.monitor.latestPressure =
      (loopReading s.settings.pressureSpan r.pressure).orElse (fun _ => s.monitor.latestPressure) :=
    (congrArg Monitor.latestPressure hm :)
  have hvalid : t.monitor.validity.pressure = if loopInRange r.pressure then s.monitor.validity.pressure else .broken :=
    (congrArg (fun m : Monitor => m.validity.pressure) hm :)
  dsimp only
  split
  · next h =>
    rw [loopReading_of_inRange h] at hlatest
    rw [if_pos (loopInRange_iff.2 h)] at hvalid
    simp [State.presentPressure, hlatest, hvalid]
  · next h =>
    rw [loopReading_of_outOfRange h] at hlatest
    rw [if_neg (mt loopInRange_iff.1 h)] at hvalid
    simp [State.presentPressure, hlatest, hvalid]

/-- Settles O10: the monitor's fields are those of `sensedMonitor`, which the rest of the event leaves, and the tonnage is weighed on
what a contact at the same reading leaves. -/
theorem readingEventSumsEveryInput : Obligations.ReadingEventSumsEveryInput := by
  unfold Obligations.ReadingEventSumsEveryInput
  intro r s hactive summed c m
  have hm := readingEvent_monitor r s
  obtain ⟨hcontact, hnone, hliner⟩ := readingEvent_tonnage r s
  refine ⟨readingEvent r s, by simp [exec, execReadingEvent, hactive], ?power, ?pressure, ?cavity, ?pile, ?output, ?peak,
    ?position, ?clock, ?remainder, ?tonnage, ?inRange, ?window, ?pulses⟩
  case power => exact (congrArg Monitor.power hm).trans (Accumulator.add_loopReading _ _ _)
  case pressure => exact (congrArg Monitor.pressure hm).trans (Accumulator.add_loopReading _ _ _)
  case cavity => exact (congrArg Monitor.cavity hm).trans (Accumulator.add_loopReading _ _ _)
  case pile =>
    refine (congrArg Monitor.pile hm).trans ?_
    show m.pile.add (pileReading c r) = _
    unfold pileReading
    split
    exacts [Accumulator.add_loopReading _ _ _, rfl]
  case output => exact (congrArg Monitor.output hm :)
  case peak => exact (congrArg Monitor.peak hm).trans (raisePeak_loopReading _ _ _)
  case position =>
    have hpos := positionReading_cases r
    have h1 : (readingEvent r s).monitor.position = (positionReading r).orElse (fun _ => m.position) :=
      (congrArg Monitor.position hm :)
    have h2 : (readingEvent r s).monitor.positionValid = (positionReading r).isSome :=
      (congrArg Monitor.positionValid hm :)
    rw [h1, h2]
    split
    · next h => rw [if_pos h] at hpos; rw [hpos]; exact ⟨rfl, rfl⟩
    · next h => rw [if_neg h] at hpos; rw [hpos]; exact ⟨rfl, rfl⟩
  case clock => exact readingEvent_readingClock r s
  case remainder => exact (congrArg Monitor.remainder hm :)
  case tonnage =>
    intro pressure inRange contacts kg passes counted noLiner weighs
    have hwaits : noLiner → NoneWaits .linerChange s.queue := fun h e he hk => absurd hk (h e he)
    have hcontacts : contacts ↔ ContactAt (loopReading c.pressureSpan r.pressure) (positionReading r) s :=
      contactAt_iff.symm
    refine ⟨readingEvent_pressure r s, fun hc => ?_, fun hc => ?_, fun hn => hliner (hwaits hn)⟩
    · exact (hcontact (hcontacts.1 hc)).imp id fun h hn => h (hwaits hn)
    · exact (hnone (mt hcontacts.2 hc)).imp id fun h hn => h (hwaits hn)
  case inRange => exact (congrArg Monitor.inRange hm).trans (sensedMonitor_inRange r s)
  case window => exact (congrArg Monitor.window hm :)
  case pulses => exact (congrArg Monitor.pulseCount hm :)

end Sys2Proof.Machine

/-! ## The statement about broken inputs (O11) -/

namespace Sys2Proof.Machine

/-! ### A trip stops the station (R49) -/

/-- A change of the run state into a drive mode that is ZEROED sets the output to 0 (R87). -/
theorem changeRun_output_of_zeroed {r : RunState} {s : State} (h : driveModeOf r s.gapState = .zeroed) :
    (changeRun r s).drive.output = 0 := by
  unfold changeRun
  refine zeroIfZeroed_output _ ?_
  simpa [State.driveMode, State.gapState] using h

/-- The station stands TRIPPED, its queue empty and its feeder at 0 (R49, R87, R150). -/
def StoppedByTrip (s : State) : Prop := s.run.state = .tripped ∧ s.queue = [] ∧ s.drive.output = 0

theorem trip_stops (s : State) : StoppedByTrip (trip s) :=
  ⟨trip_state s, trip_queue s, changeRun_output_of_zeroed (by cases (endForTrip (flushQueue s)).gapState <;> rfl)⟩

theorem Tame.stoppedByTrip {s t : State} (h : Tame s t) (hs : StoppedByTrip s) : StoppedByTrip t := by
  obtain ⟨hstate, hqueue, houtput⟩ := hs
  exact ⟨(h.stays (.inl hstate)).trans hstate, h.queue_nil hqueue, h.output.elim (·.trans houtput) id⟩

theorem report_stops (k : FaultKind) {s : State} (h : s.run.state.trippable = true) : StoppedByTrip (report k true s) := by
  rw [report_of_trip k h]
  exact trip_stops _

theorem report_noted (k : FaultKind) (trips : Bool) (s : State) : k ∈ (report k trips s).faults.seen := by
  rw [report_faults]
  exact (noteFault_seen k k s).2 (.inl rfl)

/-! ### The break checks one by one -/

theorem breakPower_validity (ok : Bool) (s : State) : (breakPower ok s).monitor.validity =
    { s.monitor.validity with power := if ok then s.monitor.validity.power else .broken } :=
  (congrArg (fun u : State => u.monitor.validity) (breakPower_still ok s) :)

theorem breakPressure_validity (ok : Bool) (s : State) : (breakPressure ok s).monitor.validity =
    { s.monitor.validity with pressure := if ok then s.monitor.validity.pressure else .broken } :=
  (congrArg (fun u : State => u.monitor.validity) (breakPressure_still ok s) :)

theorem breakCavity_validity (ok : Bool) (s : State) : (breakCavity ok s).monitor.validity =
    { s.monitor.validity with cavity := if ok then s.monitor.validity.cavity else .broken } :=
  (congrArg (fun u : State => u.monitor.validity) (breakCavity_still ok s) :)

theorem breakPile_validity (ok : Bool) (s : State) : (breakPile ok s).monitor.validity =
    { s.monitor.validity with pile := if ok then s.monitor.validity.pile else .broken } :=
  (congrArg (fun u : State => u.monitor.validity) (breakPile_still ok s) :)

/-- Power, cavity and pile level report without a trip. -/
theorem breakPower_run (ok : Bool) (s : State) : (breakPower ok s).run = s.run := by
  unfold breakPower
  split
  · rw [report_of_noted _ (.inl rfl)]; rfl
  · rfl

theorem breakCavity_run (ok : Bool) (s : State) : (breakCavity ok s).run = s.run := by
  unfold breakCavity
  split
  · rw [report_of_noted _ (.inl rfl)]; rfl
  · rfl

theorem breakPile_run (ok : Bool) (s : State) : (breakPile ok s).run = s.run := by
  unfold breakPile
  split
  · rw [report_of_noted _ (.inl rfl)]; rfl
  · rfl

/-- Every VALID input whose reading is out of range has its fault reported (R5). -/
theorem breakChecks_reports (r : Readings) (s : State) :
    let v := s.monitor.validity
    let seen := (breakChecks r s).faults.seen
    (v.power = .valid → loopInRange r.power = false → .powerLoop ∈ seen) ∧
    (v.cavity = .valid → loopInRange r.cavity = false → .cavityLoop ∈ seen) ∧
    (v.pile = .valid → s.settings.pileInput = true → loopInRange r.pile = false → .pileLoop ∈ seen) ∧
    (v.pressure = .valid → loopInRange r.pressure = false → .pressureLoop ∈ seen) ∧
    (v.position = .valid → (positionReading r).isSome = false → .positionLoop ∈ seen) := by
  refine ⟨fun hv hr => ?_, fun hv hr => ?_, fun hv hp hr => ?_, fun hv hr => ?_, fun hv hr => ?_⟩
  · refine (breakPosition_tame _ (breakPile_tame _ (breakCavity_tame _ (breakPressure_tame _ (.refl _))))).seen _ ?_
    rw [breakPower, if_pos ⟨hv, hr⟩]
    exact report_noted _ _ _
  · refine (breakPosition_tame _ (breakPile_tame _ (.refl _))).seen _ ?_
    rw [breakCavity, if_pos ⟨by simp only [breakPressure_validity, breakPower_validity, hv], hr⟩]
    exact report_noted _ _ _
  · refine (breakPosition_tame _ (.refl _)).seen _ ?_
    rw [breakPile, if_pos ⟨by simp only [breakCavity_validity, breakPressure_validity, breakPower_validity, hv],
      by simp [hp, hr]⟩]
    exact report_noted _ _ _
  · refine (breakPosition_tame _ (breakPile_tame _ (breakCavity_tame _ (.refl _)))).seen _ ?_
    rw [breakPressure, if_pos ⟨by simp only [breakPower_validity, hv], hr⟩]
    exact report_noted _ _ _
  · rw [breakChecks, breakPosition, if_pos ⟨by
      simp only [breakPile_validity, breakCavity_validity, breakPressure_validity, breakPower_validity, hv], hr⟩]
    exact report_noted _ _ _

/-- A break of the pressure or of the position trips a station that can trip (R5, R49). -/
theorem breakChecks_stops {r : Readings} {s : State} (ht : s.run.state.trippable = true)
    (h : (s.monitor.validity.pressure = .valid ∧ loopInRange r.pressure = false) ∨
      (s.monitor.validity.position = .valid ∧ (positionReading r).isSome = false)) :
    StoppedByTrip (breakChecks r s) := by
  by_cases hp : s.monitor.validity.pressure = .valid ∧ loopInRange r.pressure = false
  · refine (breakPosition_tame _ (breakPile_tame _ (breakCavity_tame _ (.refl _)))).stoppedByTrip ?_
    rw [breakPressure, if_pos (by simpa only [breakPower_validity] using hp)]
    exact report_stops _ (by simpa only [breakPower_run] using ht)
  · have hskip : breakPressure (loopInRange r.pressure) (breakPower (loopInRange r.power) s) =
        breakPower (loopInRange r.power) s :=
      if_neg (by simpa only [breakPower_validity] using hp)
    obtain ⟨hv, hr⟩ := h.resolve_left hp
    rw [breakChecks, hskip, breakPosition, if_pos ⟨by
      simp only [breakPile_validity, breakCavity_validity, breakPower_validity, hv], hr⟩]
    exact report_stops _ (by simpa only [breakPile_run, breakCavity_run, breakPower_run] using ht)

/-- A station whose blocks are active can trip unless it stands TRIPPED. -/
theorem RunState.trippable_of_active {r : RunState} (h : r.active = true) (ht : r ≠ .tripped) : r.trippable = true := by
  cases r <;> simp_all [RunState.active, RunState.trippable]

/-- Settles O11: the break checks write validity states and faults and may trip; the rest of the event keeps what they leave. -/
theorem outOfRangeReadingBreaksItsInput : Obligations.OutOfRangeReadingBreaksItsInput := by
  unfold Obligations.OutOfRangeReadingBreaksItsInput
  intro r s hactive bad v badPosition
  have hbad : ∀ i, loopInRange i = !bad i := fun i => by
    rw [Bool.eq_iff_iff, loopInRange_iff]
    simp [bad]
  have hpos : (positionReading r).isSome = !badPosition := by
    rw [positionReading_isSome]
    simp [badPosition]
  have htame : Tame (breakChecks r (noteReading r (advanceReadingClock s))) (readingEvent r s) :=
    (notePosition_tame _ (.refl _)).trans (readingEvent_tame_sensed r s)
  obtain ⟨hpower, hcavity, hpile, hpressure, hposition⟩ := breakChecks_reports r (noteReading r (advanceReadingClock s))
  have hvalidity : (readingEvent r s).monitor.validity = brokenInputs r s.settings v := by
    rw [readingEvent_monitor]
    rfl
  refine ⟨readingEvent r s, by simp [exec, execReadingEvent, hactive], ?_,
    fun hv hr => htame.seen _ (hpower hv (by simp [hbad, hr])),
    fun hv hr => htame.seen _ (hcavity hv (by simp [hbad, hr])),
    fun hv hp hr => htame.seen _ (hpile hv hp (by simp [hbad, hr])),
    fun hv hr => htame.seen _ (hpressure hv (by simp [hbad, hr])),
    fun hv hr => htame.seen _ (hposition hv (by simp [hpos, hr])), fun h => ?_⟩
  · rw [hvalidity]
    simp only [brokenInputs, hbad, hpos, ← Bool.not_and, Bool.not_eq_true', ← Bool.not_eq_true, ite_not, Bool.and_eq_true]
  · by_cases htrip : s.run.state = .tripped
    · exact ⟨((readingEvent_tame r s).stays (.inl htrip)).trans htrip, fun hn => absurd htrip hn⟩
    · have hstop := breakChecks_stops (r := r) (s := noteReading r (advanceReadingClock s))
        (RunState.trippable_of_active hactive htrip)
        (h.imp (fun h => ⟨h.1, by simp [hbad, h.2]⟩) (fun h => ⟨h.1, by simp [hpos, h.2]⟩))
      obtain ⟨hstate, hqueue, houtput⟩ := htame.stoppedByTrip hstop
      exact ⟨hstate, fun _ => ⟨hqueue, houtput⟩⟩

end Sys2Proof.Machine

/-! ## The belt-scale pulse and the window close (O12, O13) -/

namespace Sys2Proof.Machine

/-! ### BELT_SCALE_PULSE (R4) -/

/-- The state that a belt-scale pulse weighs. -/
def pulsed (s : State) : State :=
  addTonnage s.settings.pulseWeight { s with monitor.pulseCount := s.monitor.pulseCount + 1 }

theorem execBeltScalePulse_eq (s : State) :
    exec .beltScalePulse s =
      .next (if s.active ∧ s.settings.pulseWeight ≠ 0 then settle (wearChanged (pulsed s)) else s) := rfl

theorem pulsed_tame (s : State) : Tame s (pulsed s) := addTonnage_tame _ (Tame.refl s).plain

/-- Settles O12: what follows the weighing leaves the counters, the liner's while no LINER_CHANGE waits. -/
theorem pulseWeighsIntoBothCounters : Obligations.PulseWeighsIntoBothCounters := by
  unfold Obligations.PulseWeighsIntoBothCounters
  intro s
  refine ⟨fun hw => by simp [execBeltScalePulse_eq, hw], fun hactive hw => ?_⟩
  refine ⟨settle (wearChanged (pulsed s)), by simp [execBeltScalePulse_eq, hactive, hw], ?_, ?_, fun hliner => ?_⟩
  · have hfixed : (settle (wearChanged (pulsed s))).fixed = (pulsed s).fixed := by simp
    generalize settle (wearChanged (pulsed s)) = t at hfixed ⊢
    exact (congrArg (fun u : State => u.monitor.pulseCount) hfixed :)
  · rw [settle_wearChanged_calibrationKg]
    rfl
  · have hwaits : NoneWaits .linerChange (pulsed s).queue := fun e he hk => absurd hk (hliner e he)
    have hsteady := settle_wearChanged_steady hwaits
    generalize settle (wearChanged (pulsed s)) = t at hsteady ⊢
    exact ⟨State.linerKg_of_steady hsteady, (congrArg (fun u : State => u.gap.wearAcc) hsteady :),
      (congrArg (fun u : State => u.gap.linerTonnes) hsteady :)⟩

/-! ### WINDOW_CLOSE (R6 to R12) -/

/-- The load sample that a window close forms (R10). -/
def closingSample (s : State) : LoadSample := loadSampleOf s.settings s.monitor (restoreAll s.monitor) s.freeCount

/-- The state with the sample formed and the next window open, from which the sample is handed on. -/
def reopened (s : State) : State :=
  openWindow { s with monitor.validity := restoreAll s.monitor, monitor.sample := some (closingSample s)
                      freeCount := s.freeCount + 5 }

theorem windowClose_eq (s : State) :
    windowClose s = settle (clearTakes (closingSample s) (historyTakes (closingSample s) (reopened s))) := by
  simp only [windowClose, closingSample, reopened]

theorem stepDecision_still (s : State) : (stepDecision s).still = s.still := by
  unfold stepDecision
  split
  · split
    · rfl
    · split <;> rfl
  · rfl

theorem historyTakes_still (l : LoadSample) (s : State) : (historyTakes l s).still = s.still := by
  unfold historyTakes
  split
  · rw [stepDecision_still]; rfl
  · rfl

@[simp] theorem clearTakes_fixed (l : LoadSample) (s : State) : (clearTakes l s).fixed = s.fixed := by
  unfold clearTakes
  split
  exacts [finishStopping_fixed s, rfl]

theorem stepDecision_tame {s t : State} (h : Tame s t) : Tame s (stepDecision t) := by
  unfold stepDecision
  split
  · split
    · exact h.gap
    · split
      exacts [h.gap, h]
  · exact h

theorem historyTakes_tame {s t : State} (l : LoadSample) (h : Tame s t) : Tame s (historyTakes l t) := by
  unfold historyTakes
  split
  exacts [stepDecision_tame h.gap, h]

theorem clearTakes_tame {s t : State} (l : LoadSample) (h : Tame s t) : Tame s (clearTakes l t) := by
  unfold clearTakes
  split
  · next hs => exact finishStopping_tame h hs.1
  · exact h

/-- The sample is handed on without touching anything that the opening of the window wrote but the NOFEED latch. -/
theorem windowClose_fixed (s : State) : (windowClose s).fixed = (reopened s).fixed := by
  rw [windowClose_eq, settle_fixed, clearTakes_fixed, State.fixed_of_still (historyTakes_still _ _)]

theorem windowClose_tame (s : State) : Tame (reopened s) (windowClose s) := by
  rw [windowClose_eq]
  exact settle_tame (clearTakes_tame _ (historyTakes_tame _ (.refl _)))

/-! ### The feeder at a window close -/

@[simp] theorem emptyJumpIfOpening_drive (s : State) : (emptyJumpIfOpening s).drive = s.drive := by
  unfold emptyJumpIfOpening
  split <;> rfl

/-- A change of the gap state into one that may feed leaves the output (R87). -/
theorem setActivity_output_of_feeding {act : Activity} {s : State} (hs : s.gapState ≠ .stuck)
    (h : driveModeOf s.run.state act.state ≠ .zeroed) : (setActivity act s).drive.output = s.drive.output := by
  have hmode : (dropCapacity { s with gap.activity := act }).driveMode ≠ .zeroed := by
    simpa [State.driveMode, State.gapState] using h
  unfold setActivity
  rw [if_neg (fun hc => hs hc.1), emptyJumpIfOpening_drive, zeroIfZeroed_of_feeding hmode, dropCapacity_frame]

/-- A move starts while the station feeds (R39). -/
theorem moveTest_output_of_feeding {s : State} (h : s.run.state = .running ∨ s.run.state = .held) :
    (moveTest s).drive.output = s.drive.output := by
  unfold moveTest
  split
  · split
    · next hm =>
      have hold : s.gapState = .holding := by
        have ha := hm.1
        simp only [State.movesAllowed, Bool.and_eq_true, decide_eq_true_eq] at ha
        exact ha.1.1.1.2
      refine setActivity_output_of_feeding (by simp [hold]) ?_
      rcases h with h | h <;> simp [h, driveModeOf, Activity.state, GapState.feeds]
    · rfl
  · rfl

/-- Nothing at the end of an event stops the feeder of a RUNNING or HELD station that has no request queued. -/
theorem settle_output_of_feeding {s : State} (h : s.run.state = .running ∨ s.run.state = .held) (hq : s.queue = []) :
    (settle s).drive.output = s.drive.output := by
  have hheads : startHeads s.queue.length s = s := by rw [hq]; rfl
  have hcal : internalCalibrationTest s = s := if_neg fun hc => by
    rcases h with h | h <;> simp [State.standingRequest, h] at hc
  have hpriming : primingTest (moveTest s) = moveTest s := if_neg fun hp => by
    have hs := (moveTest_state s).symm.trans hp.1
    rcases h with h | h <;> simp [h] at hs
  rw [settle, hheads, hcal, hpriming, moveTest_output_of_feeding h]

/-- A sample that is handed on touches neither run state, queue nor feeder of a station that is not STOPPING. -/
theorem historyTakes_frame (l : LoadSample) (s : State) :
    historyTakes l s = { s with gap := (historyTakes l s).gap } := by
  unfold historyTakes stepDecision
  split
  · split
    · split
      · rfl
      · split <;> rfl
    · rfl
  · rfl

theorem windowClose_output_of_feeding {s : State} (h : s.run.state = .running ∨ s.run.state = .held)
    (hq : s.queue = []) : (windowClose s).drive.output = s.drive.output := by
  have hframe := historyTakes_frame (closingSample s) (reopened s)
  rw [windowClose_eq]
  generalize historyTakes (closingSample s) (reopened s) = t at hframe ⊢
  have hstate : t.run.state = s.run.state := by rw [hframe]; rfl
  have hqueue : t.queue = s.queue := by rw [hframe]; rfl
  have houtput : t.drive.output = s.drive.output := by rw [hframe]; rfl
  have hclear : clearTakes (closingSample s) t = t := if_neg fun hc => by
    rw [hstate] at hc
    rcases h with h | h <;> simp [h] at hc
  rw [hclear, settle_output_of_feeding (hstate ▸ h) (hqueue.trans hq), houtput]

/-! ### The load sample (R10 to R12) -/

theorem Accumulator.mean_of_counted {a : Accumulator} (span free : Nat) (h : a.count ≠ 0) :
    a.mean span free = a.sum / a.count := if_neg h

/-- The load class (R11). -/
theorem loadClassOf_cases (c : Settings) (v : Inputs Validity) (power : Nat) (peak : Option Nat) :
    let level := power * 1000 / c.ratedPower
    let overByPower := v.power = .valid ∧ c.overPower < level
    let overByPressure := v.pressure = .valid ∧ ∃ p, peak = some p ∧ c.pressureOver < p
    (overByPower ∨ overByPressure → loadClassOf c v power peak = .over) ∧
    (¬ (overByPower ∨ overByPressure) → v.power = .valid → level < c.underPower →
      loadClassOf c v power peak = .under) ∧
    (¬ (overByPower ∨ overByPressure) → ¬ (v.power = .valid ∧ level < c.underPower) →
      loadClassOf c v power peak = .normal) := by
  intro level overByPower overByPressure
  have hover : ((decide (v.power = .valid) && decide (c.overPower < powerLevel c power)) ||
      (decide (v.pressure = .valid) && peak.any (fun p => decide (c.pressureOver < p)))) = true ↔
        overByPower ∨ overByPressure := by
    simp only [Bool.or_eq_true, Bool.and_eq_true, decide_eq_true_eq, Option.any_eq_true]
    rfl
  have hunder : (decide (v.power = .valid) && decide (powerLevel c power < c.underPower)) = true ↔
      v.power = .valid ∧ level < c.underPower := by
    simp only [Bool.and_eq_true, decide_eq_true_eq]
    rfl
  unfold loadClassOf
  refine ⟨fun h => if_pos (hover.2 h), fun h hv hl => ?_, fun h hn => ?_⟩
  · exact (if_neg (mt hover.1 h)).trans (if_pos (hunder.2 ⟨hv, hl⟩))
  · exact (if_neg (mt hover.1 h)).trans (if_neg (mt hunder.1 hn))

/-- Settles O13: the sample is formed from the closing window, and what follows keeps all the opening wrote but the NOFEED latch,
which follows the output. -/
theorem windowCloseFormsTheSample : Obligations.WindowCloseFormsTheSample := by
  unfold Obligations.WindowCloseFormsTheSample
  intro s hactive m c restored
  have hm := State.monitor_of_fixed (congrArg State.monitor (windowClose_fixed s))
  have hnofeed := (windowClose_tame s).nofeed
  have hfeed := windowClose_output_of_feeding (s := s)
  generalize ht : windowClose s = t at hm hnofeed hfeed
  refine ⟨t, closingSample s, by simp [exec, execWindowClose, hactive, ht], congrArg Monitor.sample hm, rfl,
    congrArg Monitor.validity hm, ?powerBroken, ?power, ?cavityBroken, ?cavity, ?pressureBroken, ?pressure, ?pileAbsent,
    ?pile, rfl, ?scale, ?estimate, loadClassOf_cases _ _ _ _, congrArg Monitor.window hm, congrArg Monitor.power hm,
    congrArg Monitor.pressure hm, congrArg Monitor.cavity hm, congrArg Monitor.pile hm, congrArg Monitor.output hm,
    congrArg Monitor.peak hm, congrArg Monitor.pulseCount hm, congrArg Monitor.inRange hm, ?nofeed, hfeed⟩
  case nofeed =>
    have hopen : (reopened s).monitor.nofeed = decide (s.drive.output = 0) := rfl
    have houtput : (reopened s).drive.output = s.drive.output := rfl
    rw [hnofeed, hopen, houtput]
    by_cases h : s.drive.output = 0 <;> simp [h, Nat.pos_iff_ne_zero]
  all_goals simp only [closingSample, loadSampleOf]
  case powerBroken => exact fun hv => if_pos hv
  case power => exact fun hv hn => (if_neg (by simp [hv])).trans (Accumulator.mean_of_counted _ _ hn)
  case cavityBroken => exact fun hv => if_pos hv
  case cavity => exact fun hv hn => (if_neg (by simp [hv])).trans (Accumulator.mean_of_counted _ _ hn)
  case pressureBroken => exact fun hv => ⟨if_pos hv, if_pos hv⟩
  case pressure =>
    exact fun hv => ⟨if_neg (by simp [hv]), fun hn => (if_neg (by simp [hv])).trans
      (congrArg some (Accumulator.mean_of_counted _ _ hn))⟩
  case pileAbsent =>
    refine fun hp => if_neg fun h => ?_
    rcases hp with hp | hp
    · exact absurd (h.1.symm.trans hp) (by simp)
    · exact absurd (h.2.symm.trans hp) (by simp)
  case pile => exact fun hp hv hn => (if_pos ⟨hp, hv⟩).trans (congrArg some (Accumulator.mean_of_counted _ _ hn))
  case scale => exact fun hw => congrArg (min 65535) (if_neg hw)
  case estimate =>
    intro hw hn
    rw [Accumulator.mean_of_counted _ _ hn]
    exact congrArg (min 65535) (if_pos hw)

end Sys2Proof.Machine

/-! ## Events without effect, and reset (O5, O7) -/

namespace Sys2Proof.Machine

/-- A stall timer runs in a move or a re-closing that is not paused, and in BACKING; elsewhere its expiry does nothing. -/
theorem stall_of_idle {s : State} (hm : ∀ m, s.gap.activity = .moving m → m.paused = true)
    (hr : ∀ d, s.gap.activity = .recovering d → d.paused = true)
    (hc : ∀ c mark left, s.gap.activity = .calibrating c → c.phase ≠ .backing mark left) : stall s = s := by
  unfold stall
  split
  · next m _ ha _ => exact if_pos (hm m ha)
  · next c _ ha _ =>
    split
    · next mark left hp => exact absurd hp (hc c mark left ha)
    · rfl
  · next d _ ha _ => exact if_pos (hr d ha)
  · rfl

theorem seekLimitExpires_of_idle {s : State} (h : ∀ c, s.gap.activity = .calibrating c → c.seekLimit = none) :
    seekLimitExpires s = s := by
  unfold seekLimitExpires
  split
  · next c ha => rw [h c ha]; rfl
  · rfl

theorem pulseOnEnds_of_idle {s : State}
    (h : ∀ c p, s.gap.activity = .calibrating c → c.phase = .seeking p → p.on = false) : pulseOnEnds s = s := by
  unfold pulseOnEnds
  split
  · next c ha =>
    split
    · next p hp => rw [h c p ha hp]; rfl
    · rfl
  · rfl

theorem pulseOffEnds_of_idle {s : State}
    (h : ∀ c p, s.gap.activity = .calibrating c → c.phase = .seeking p → p.on = true) : pulseOffEnds s = s := by
  unfold pulseOffEnds
  split
  · next c ha =>
    split
    · next p hp => rw [h c p ha hp]; rfl
    · rfl
  · rfl

theorem execSettleTimerExpiry_of_idle {s : State} (h : ∀ left, s.gap.activity ≠ .relieved (some left)) :
    execSettleTimerExpiry s = .next s := by
  unfold execSettleTimerExpiry
  split
  · next left ha => exact absurd ha (h left)
  · rfl

/-- Settles O5: each event is guarded by its block's activity and by its timer. -/
theorem eventsOfIdleBlocksDoNothing : Obligations.EventsOfIdleBlocksDoNothing := by
  unfold Obligations.EventsOfIdleBlocksDoNothing
  intro r s
  refine ⟨fun h => ?inactive, fun h => ?priming, fun h => ?clear, fun h => ?held, fun h => ?report,
    fun hm hr hc => ?stall, fun h => ?limit, fun h => ?pulseOn, fun h => ?pulseOff, fun h => ?settle, fun h => ?ready⟩
  case inactive =>
    simp [exec, execReadingEvent, execBeltScalePulse, execWindowClose, execAgeingEvent, execSharePeriodExpiry,
      execRampInterval, h]
  case priming => rcases h with h | h <;> simp [exec, execPrimingTimerExpiry, h]
  case clear => rcases h with h | h <;> simp [exec, execClearTimerExpiry, h]
  case held =>
    have hn : ¬ (s.active = true ∧ s.monitor.positionValid = true) := by rcases h with h | h <;> simp [h]
    simp [exec, execStallTimerExpiry, execSeekLimitExpiry, execSeekPulseOnEnd, execSeekPulseOffEnd, if_neg hn]
  case report => simp [exec, execReportTimerExpiry, h]
  case stall => simp [exec, execStallTimerExpiry, stall_of_idle hm hr hc]
  case limit => simp [exec, execSeekLimitExpiry, seekLimitExpires_of_idle h]
  case pulseOn => simp [exec, execSeekPulseOnEnd, pulseOnEnds_of_idle h]
  case pulseOff => simp [exec, execSeekPulseOffEnd, pulseOffEnds_of_idle h]
  case settle => exact execSettleTimerExpiry_of_idle h
  case ready => simp [exec, execReadyTimerExpiry, h]

/-! ### RESET (R167) -/

/-- The setting memory through a reset finishes the word it has begun, and a campaign cut off before its check word leaves an invalid
record (R160, R165). -/
theorem memoryThroughReset_memory (s : State) :
    ((∀ c, s.interface.campaign = some c → c.cutOff = false ∨ c.word = 71) →
      (memoryThroughReset s).memory = s.memory.finish) ∧
    (∀ c, s.interface.campaign = some c → c.cutOff = true → c.word ≠ 71 → s.memory.wf = true → 64 ≤ c.word →
      c.word ≤ 71 → (∀ a, a ≠ c.word → (memoryThroughReset s).memory.read a = s.memory.finish.read a) ∧
      ∀ straps, wearRecordValid straps (memoryThroughReset s).memory.read = false) := by
  refine ⟨fun h => ?_, fun c hc hcut hw hwf h64 h71 => ?_⟩
  · unfold memoryThroughReset
    dsimp only
    split
    · next c hc =>
      rw [if_neg]
      rcases h c hc with h | h <;> simp [h]
    · rfl
  · have hshort : memoryThroughReset s = cutShort c { s with memory := s.memory.finish } := by
      simp [memoryThroughReset, hc, hcut, hw]
    rw [hshort]
    exact ⟨fun a ha => cutShort_read_other c _ ha, fun straps => cutShort_invalid straps (Memory.finish_wf hwf) h64 h71⟩

/-- What the setting memory does through a reset touches neither the inputs nor the waiting commands. -/
theorem memoryThroughReset_frame (s : State) :
    memoryThroughReset s =
      { s with memory := (memoryThroughReset s).memory, freeCount := (memoryThroughReset s).freeCount } := by
  unfold memoryThroughReset
  dsimp only
  split
  · split
    · exact cutShort_frame _ _
    · rfl
  · rfl

/-- Settles O7: RESET answers `State.reset` but for the inputs, the waiting commands and the setting memory. -/
theorem resetRestoresEveryBlock : Obligations.ResetRestoresEveryBlock := by
  unfold Obligations.ResetRestoresEveryBlock
  intro s
  have hsupply : (memoryThroughReset s).supplyLow = s.supplyLow := by rw [memoryThroughReset_frame]
  have hmotor : (memoryThroughReset s).motorRunning = s.motorRunning := by rw [memoryThroughReset_frame]
  have hpending : (memoryThroughReset s).pending = s.pending := by rw [memoryThroughReset_frame]
  refine ⟨_, rfl, ?_⟩
  simpa [hsupply, hmotor, hpending, State.reset, Monitor.reset, GapController.reset, State.active, RunState.active,
    State.standingRequest, State.feedPermitted, State.driveMode, driveModeOf, State.rateTerminal, State.runPermit,
    State.presentPressure, State.gapState, Activity.state, State.valve, State.gapEstimate, State.linerWorn] using
    memoryThroughReset_memory s

end Sys2Proof.Machine

/-! ## What each command writes (O3) -/

namespace Sys2Proof.Machine

/-! ### Wear, totals and gap target across an event -/

/-- What an event may do to the reference, the totals and the gap target: nothing while no LINER_CHANGE, respectively no SET_GAP,
waits to be started at its end. -/
structure Spares (s t : State) : Prop where
  wear   : NoneWaits .linerChange s.queue → t.wear = s.wear
  target : NoneWaits .setGap s.queue → t.gap.target = s.gap.target

theorem Spares.of_eq {s t : State} (hw : t.wear = s.wear) (ht : t.gap.target = s.gap.target) : Spares s t :=
  ⟨fun _ => hw, fun _ => ht⟩

theorem Spares.of_still {s t : State} (h : t.still = s.still) : Spares s t :=
  .of_eq (State.wear_of_still h) (State.target_of_still h)

/-- The end of an event after operations that spare both and let no entry wait that did not. -/
theorem Spares.settle {s t : State} (h : Spares s t) (he : Eases s t) : Spares s (settle t) :=
  ⟨fun hn => (settle_wear (he.noneWaits hn)).trans (h.wear hn),
    fun hn => (settle_target (he.noneWaits hn)).trans (h.target hn)⟩

/-! ### Frames and requests (R142, R143, R152) -/

/-- A frame is not taken, or ends at the receiver and is taken up. -/
theorem onFrame_cases (act : State → State) (s : State) : onFrame act s = s ∨ onFrame act s = act (frameEnds s) := by
  unfold onFrame
  split
  exacts [.inl rfl, .inr rfl]

/-- A request frame is not taken, is taken and discarded, or is taken up by the queue. -/
theorem onRequest_cases (header : Address) (act : State → State) (s : State) :
    onRequest header act s = s ∨ onRequest header act s = frameEnds s ∨ onRequest header act s = act (frameEnds s) := by
  rcases onFrame_cases (fun s => if s.takesRequest header then act s else s) s with h | h
  · exact .inl h
  · right
    rw [onRequest, h]
    split
    exacts [.inr rfl, .inl rfl]

theorem frameEnds_tame {s t : State} (h : Tame s t) : Tame s (frameEnds t) := h.plain

/-- What holds of an untouched state, of one whose receiver has ended a frame, and of what the queue makes of that one, holds after
a request frame. -/
theorem onRequest_of {P : State → Prop} {header : Address} {act : State → State} {s : State} (h0 : P s)
    (h1 : P (frameEnds s)) (h2 : P (act (frameEnds s))) : P (onRequest header act s) := by
  rcases onRequest_cases header act s with h | h | h <;> rw [h]
  exacts [h0, h1, h2]

theorem answerNow_tame {s t : State} (header : Address) (tag : BitVec 3) (kind : Option RequestKind) (o : AnswerOutcome)
    (h : Tame s t) : Tame s (answerNow header tag kind o t) := answer_tame _ h

@[simp] theorem answerNow_still (header : Address) (tag : BitVec 3) (kind : Option RequestKind) (o : AnswerOutcome)
    (s : State) : (answerNow header tag kind o s).still = s.still := answer_still _ s

theorem answerQuery_tame {s t : State} (header : Address) (tag : BitVec 3) (data : QueryData) (h : Tame s t) :
    Tame s (answerQuery header tag data t) := answer_tame _ h

@[simp] theorem answerQuery_still (header : Address) (tag : BitVec 3) (data : QueryData) (s : State) :
    (answerQuery header tag data s).still = s.still := answer_still _ s

/-! ### A queued kind arrives (R143) -/

/-- The state with an entry at the queue's tail. -/
def appended (e : Entry) (s : State) : State := { s with queue := s.queue ++ [e] }

/-- A queued kind is refused with an answer, or appended, answered and the event ended. -/
theorem enqueue_cases (e : Entry) (s : State) :
    (∃ a, enqueue e s = State.answer a s) ∨
      stateRefusal e.kind s = none ∧ ∃ a, enqueue e s = settle (State.answer a (appended e s)) := by
  unfold enqueue
  dsimp only
  split
  · exact .inl ⟨_, rfl⟩
  · next h =>
    refine .inr ⟨?_, _, rfl⟩
    unfold queuedRefusal at h
    split at h
    · cases h
    · next h' => exact h'

theorem enqueue_fixed (e : Entry) (s : State) : (enqueue e s).fixed = s.fixed := by
  rcases enqueue_cases e s with ⟨a, h⟩ | ⟨-, a, h⟩ <;> rw [h]
  · exact answer_fixed a s
  · rw [settle_fixed, answer_fixed]
    rfl

/-- An arrival moves the feeder only to 0 and does not clear the congestion flag. -/
theorem enqueue_eases (e : Entry) (s : State) :
    ((enqueue e s).drive.output = s.drive.output ∨ (enqueue e s).drive.output = 0) ∧
    ((enqueue e s).drive.setpoint = s.drive.setpoint ∨ (enqueue e s).drive.setpoint = 0) ∧
    (s.line.congested = true → (enqueue e s).line.congested = true) := by
  rcases enqueue_cases e s with ⟨a, h⟩ | ⟨-, a, h⟩ <;> rw [h]
  · have ht := answer_tame a (.refl s)
    exact ⟨ht.output, ht.setpoint, ht.congested⟩
  · have ht : Tame (appended e s) (settle (State.answer a (appended e s))) := settle_tame (answer_tame a (.refl _))
    exact ⟨ht.output, ht.setpoint, ht.congested⟩

theorem NoneWaits.append {k : QueuedKind} {q : List Entry} {e : Entry} (h : NoneWaits k q) (he : e.kind ≠ k) :
    NoneWaits k (q ++ [e]) := fun f hf hk => by
  rcases List.mem_append.1 hf with hf | hf
  · exact h f hf hk
  · exact absurd hk (List.mem_singleton.1 hf ▸ he)

/-- An arrival of another kind than LINER_CHANGE leaves the totals, and one of another kind than SET_GAP the gap target. -/
theorem enqueue_spares (e : Entry) (s : State) :
    (e.kind ≠ .linerChange → NoneWaits .linerChange s.queue → (enqueue e s).wear = s.wear) ∧
    (e.kind ≠ .setGap → NoneWaits .setGap s.queue → (enqueue e s).gap.target = s.gap.target) := by
  rcases enqueue_cases e s with ⟨a, h⟩ | ⟨-, a, h⟩ <;> rw [h]
  · exact ⟨fun _ _ => rfl, fun _ _ => rfl⟩
  · have hs : Spares (appended e s) (settle (State.answer a (appended e s))) :=
      (Spares.of_still (answer_still a _)).settle (answer_tame a (.refl _)).toEases
    exact ⟨fun he hn => (hs.wear (hn.append he)).trans rfl, fun he hn => (hs.target (hn.append he)).trans rfl⟩

/-- An arrival out of PRIMING leaves the run state: a LINER_CHANGE is taken in IDLE only (R143). -/
theorem enqueue_state (e : Entry) {s : State} (hp : s.run.state ≠ .priming) (hn : NoneWaits .linerChange s.queue) :
    (enqueue e s).run.state = s.run.state := by
  rcases enqueue_cases e s with ⟨a, h⟩ | ⟨hr, a, h⟩ <;> rw [h]
  · rfl
  · refine (settle_state (s := State.answer a (appended e s)) hp fun hrun => hn.append fun hk => ?_).trans rfl
    have hrun' : s.run.state = .running ∨ s.run.state = .held := hrun
    rw [hk, stateRefusal] at hr
    rcases hrun' with h | h <;> simp [h] at hr

/-! ### CANCEL (R146) -/

theorem cancelActive_still (k : QueuedKind) (s : State) : (cancelActive k s).still = s.still := by
  cases k with
  | setGap =>
    simp only [cancelActive, restW_still]
    split <;> simp
  | calibrate =>
    simp only [cancelActive]
    split <;> simp
  | linerChange => simp [cancelActive]

theorem cancelActive_state (k : QueuedKind) (s : State) : (cancelActive k s).run.state = s.run.state := by
  cases k with
  | setGap =>
    simp only [cancelActive, restW_state]
    split <;> simp
  | calibrate =>
    simp only [cancelActive]
    split <;> simp
  | linerChange => simp [cancelActive]

theorem cancelActive_tame {s t : State} (k : QueuedKind) (h : Tame s t) : Tame s (cancelActive k t) := by
  have he := endActive_tame (.stopped .cancelled) h
  cases k with
  | setGap =>
    simp only [cancelActive]
    split
    exacts [restW_tame (setActivity_tame _ he), restW_tame he]
  | calibrate =>
    simp only [cancelActive]
    split
    exacts [stopCalibration_tame he, he]
  | linerChange => exact he

/-- A CANCEL is refused, or ends an entry, answers and ends the event. -/
theorem cancelEntry_cases (header : Address) (tag : BitVec 3) (argument : Word) (s : State) :
    (∃ o, cancelEntry header tag argument s = answerNow header tag (some .cancel) o s) ∨
    ∃ u, Tame s u ∧ u.still = s.still ∧ u.run.state = s.run.state ∧
      cancelEntry header tag argument s = settle (answerNow header tag (some .cancel) .done u) := by
  unfold cancelEntry
  split
  · exact .inl ⟨_, rfl⟩
  · next e _ =>
    refine .inr ⟨_, ?_, ?_, ?_, rfl⟩ <;> split
    · exact cancelActive_tame _ (.refl s)
    · exact (Tame.refl s).dequeue List.filter_sublist (LinePort.push_congested _)
    · exact cancelActive_still _ s
    · exact answer_still _ _
    · exact cancelActive_state _ s
    · rfl

theorem cancelEntry_tame (header : Address) (tag : BitVec 3) (argument : Word) (s : State) :
    Tame s (cancelEntry header tag argument s) := by
  rcases cancelEntry_cases header tag argument s with ⟨o, h⟩ | ⟨u, hu, -, -, h⟩ <;> rw [h]
  exacts [answerNow_tame _ _ _ _ (.refl s), settle_tame (answerNow_tame _ _ _ _ hu)]

theorem cancelEntry_fixed (header : Address) (tag : BitVec 3) (argument : Word) (s : State) :
    (cancelEntry header tag argument s).fixed = s.fixed := by
  rcases cancelEntry_cases header tag argument s with ⟨o, h⟩ | ⟨u, -, hu, -, h⟩ <;> rw [h]
  · exact State.fixed_of_still (answerNow_still _ _ _ _ s)
  · rw [settle_fixed, State.fixed_of_still (answerNow_still _ _ _ _ u), State.fixed_of_still hu]

theorem cancelEntry_spares (header : Address) (tag : BitVec 3) (argument : Word) (s : State) :
    Spares s (cancelEntry header tag argument s) := by
  rcases cancelEntry_cases header tag argument s with ⟨o, h⟩ | ⟨u, ht, hu, -, h⟩ <;> rw [h]
  · exact .of_still (answerNow_still _ _ _ _ s)
  · exact (Spares.of_still ((answerNow_still _ _ _ _ u).trans hu)).settle (answerNow_tame _ _ _ _ ht).toEases

theorem cancelEntry_state (header : Address) (tag : BitVec 3) (argument : Word) {s : State}
    (hp : s.run.state ≠ .priming) (hn : NoneWaits .linerChange s.queue) :
    (cancelEntry header tag argument s).run.state = s.run.state := by
  rcases cancelEntry_cases header tag argument s with ⟨o, h⟩ | ⟨u, ht, -, hu, h⟩ <;> rw [h]
  · rfl
  · have hu' : (answerNow header tag (some .cancel) .done u).run.state = s.run.state := hu
    exact (settle_state (hu' ▸ hp) fun _ => (answerNow_tame _ _ _ _ ht).noneWaits hn).trans hu'

/-! ### HOLD_FEED and RELEASE_FEED (R47) -/

/-- Between RUNNING and HELD the motor is not asked again (R48). -/
theorem enterRun_of_required (r : RunState) {s : State} (h : s.run.state.motorRequired = true) :
    enterRun r s = changeRun r s := if_neg fun hc => hc.2.1 h

/-- HOLD_FEED only answers, or changes the run state from RUNNING and answers. -/
theorem holdFeed_cases (header : Address) (tag : BitVec 3) (s : State) :
    ∃ o u, holdFeed header tag s = answerNow header tag (some .holdFeed) o u ∧
      (u = s ∨ s.run.state = .running ∧ u = changeRun .held s) := by
  unfold holdFeed
  split
  · next h => exact ⟨_, _, rfl, .inr ⟨h, enterRun_of_required _ (by rw [h]; rfl)⟩⟩
  · exact ⟨_, _, rfl, .inl rfl⟩

/-- RELEASE_FEED only answers, or changes the run state from HELD and answers. -/
theorem releaseFeed_cases (header : Address) (tag : BitVec 3) (s : State) :
    ∃ o u, releaseFeed header tag s = answerNow header tag (some .releaseFeed) o u ∧
      (u = s ∨ s.run.state = .held ∧ u = changeRun .running s) := by
  unfold releaseFeed
  split
  · next h => exact ⟨_, _, rfl, .inr ⟨h, enterRun_of_required _ (by rw [h]; rfl)⟩⟩
  · exact ⟨_, _, rfl, .inl rfl⟩

theorem holdFeed_tame (header : Address) (tag : BitVec 3) (s : State) : Tame s (holdFeed header tag s) := by
  obtain ⟨o, u, h, rfl | ⟨hs, rfl⟩⟩ := holdFeed_cases header tag s <;> rw [h]
  exacts [answerNow_tame _ _ _ _ (.refl _), answerNow_tame _ _ _ _ (changeRun_tame _ (.refl _) (by simp [hs]) (by simp [hs]))]

theorem releaseFeed_tame (header : Address) (tag : BitVec 3) (s : State) : Tame s (releaseFeed header tag s) := by
  obtain ⟨o, u, h, rfl | ⟨hs, rfl⟩⟩ := releaseFeed_cases header tag s <;> rw [h]
  exacts [answerNow_tame _ _ _ _ (.refl _), answerNow_tame _ _ _ _ (changeRun_tame _ (.refl _) (by simp [hs]) (by simp [hs]))]

theorem holdFeed_still (header : Address) (tag : BitVec 3) (s : State) : (holdFeed header tag s).still = s.still := by
  obtain ⟨o, u, h, rfl | ⟨-, rfl⟩⟩ := holdFeed_cases header tag s <;> simp [h]

theorem releaseFeed_still (header : Address) (tag : BitVec 3) (s : State) :
    (releaseFeed header tag s).still = s.still := by
  obtain ⟨o, u, h, rfl | ⟨-, rfl⟩⟩ := releaseFeed_cases header tag s <;> simp [h]

/-! ### CLEAR_FAULT (R148) -/

/-- The state in which CLEAR_FAULT has emptied Fault Record and tramp list. -/
def faultsCleared (s : State) : State := { s with faults := { first := none, seen := [], further := false }, gap.trampList := [] }

/-- What CLEAR_FAULT ends beside the record writes only what `still` blanks. -/
theorem clearAccepted_effect (s : State) : Eases s (clearAccepted s) ∧ (clearAccepted s).still = (faultsCleared s).still := by
  unfold clearAccepted
  extract_lets _ u v
  have hv : Eases s v ∧ v.still = u.still := by
    unfold v
    have hu : Eases s u := .of_eq rfl rfl rfl rfl
    split
    exacts [⟨hu.trans (changeRun_eases _ _), changeRun_still _ _⟩, ⟨hu, rfl⟩]
  split
  exacts [⟨hv.1.trans (setActivity_tame _ (.refl v)).toEases, (setActivity_still _ _).trans hv.2⟩, hv]

/-- CLEAR_FAULT is refused, or accepted, answered and the event ended. -/
theorem clearFault_cases (header : Address) (tag : BitVec 3) (s : State) :
    (∃ o, clearFault header tag s = answerNow header tag (some .clearFault) o s) ∨
    ∃ u, Eases s u ∧ u.still = (faultsCleared s).still ∧
      clearFault header tag s = settle (answerNow header tag (some .clearFault) .done u) := by
  unfold clearFault
  split
  · exact .inl ⟨_, rfl⟩
  · exact .inr ⟨_, (clearAccepted_effect s).1, (clearAccepted_effect s).2, rfl⟩

theorem clearFault_eases (header : Address) (tag : BitVec 3) (s : State) : Eases s (clearFault header tag s) := by
  rcases clearFault_cases header tag s with ⟨o, h⟩ | ⟨u, hu, -, h⟩ <;> rw [h]
  exacts [(answerNow_tame _ _ _ _ (.refl s)).toEases, hu.trans (settle_tame (answerNow_tame _ _ _ _ (.refl u))).toEases]

theorem clearFault_fixed (header : Address) (tag : BitVec 3) (s : State) :
    (clearFault header tag s).fixed = s.fixed ∨ (clearFault header tag s).fixed = (faultsCleared s).fixed := by
  rcases clearFault_cases header tag s with ⟨o, h⟩ | ⟨u, -, hu, h⟩ <;> rw [h]
  · exact .inl (State.fixed_of_still (answerNow_still _ _ _ _ s))
  · right
    rw [settle_fixed, State.fixed_of_still (answerNow_still _ _ _ _ u), State.fixed_of_still hu]

theorem clearFault_spares (header : Address) (tag : BitVec 3) (s : State) : Spares s (clearFault header tag s) := by
  rcases clearFault_cases header tag s with ⟨o, h⟩ | ⟨u, he, hu, h⟩ <;> rw [h]
  · exact .of_still (answerNow_still _ _ _ _ s)
  · have hu' := (answerNow_still header tag (some .clearFault) .done u).trans hu
    exact (Spares.of_eq (s := s) ((State.wear_of_still hu').trans rfl) ((State.target_of_still hu').trans rfl)).settle
      (he.trans (answerNow_tame _ _ _ _ (.refl u)).toEases)

end Sys2Proof.Machine

/-! ### DEMAND, RUN and STOP (R34 to R45) -/

namespace Sys2Proof.Machine

/-- `s` with the fields of Run Control and the span blanked, which an accepted DEMAND writes (R36, R37). -/
def State.undemanded (s : State) : State :=
  { s.fixed with run := State.reset.run, gap := { s.fixed.gap with span := 0 } }

theorem State.undemanded_of_fixed {s t : State} (h : s.fixed = t.fixed) : s.undemanded = t.undemanded :=
  (congrArg State.undemanded h :)

theorem spanArrives_undemanded (n : Nat) (s : State) : (spanArrives n s).undemanded = s.undemanded := by
  unfold spanArrives
  split
  · rfl
  · exact (State.undemanded_of_fixed (targetChanged_fixed _)).trans rfl

theorem spanArrives_wear (n : Nat) (s : State) : (spanArrives n s).wear = s.wear := by
  unfold spanArrives
  split
  · rfl
  · exact (State.wear_of_still (targetChanged_still _)).trans rfl

theorem gapTargetArrives_wear (n : Nat) (s : State) : (gapTargetArrives n s).wear = s.wear := by
  unfold gapTargetArrives
  extract_lets u v
  have hv : v.wear = s.wear := by
    unfold v
    split
    · exact (State.wear_of_still (updateActivity_still _ _)).trans (State.wear_of_still (endActiveOf_still _ _ s))
    · exact State.wear_of_still (endActiveOf_still _ _ s)
  exact (State.wear_of_still (targetChanged_still _)).trans (Eq.trans rfl hv)

/-- Storing a demand keeps queue and feeder tame, leaves the totals, and writes beyond that what an accepted DEMAND owns. -/
theorem storeDemand_effect (p : DemandPayload) (s : State) :
    Tame s (storeDemand p s) ∧ (storeDemand p s).wear = s.wear ∧ (storeDemand p s).undemanded = s.undemanded := by
  unfold storeDemand
  extract_lets _ u v
  have hu : Tame s u ∧ u.wear = s.wear ∧ u.undemanded = s.undemanded := ⟨(Tame.refl s).plain, rfl, rfl⟩
  have hv : Tame s v ∧ v.wear = s.wear ∧ v.undemanded = s.undemanded := by
    unfold v
    split
    · split
      · exact ⟨gapTargetArrives_tame _ hu.1, (gapTargetArrives_wear _ u).trans hu.2.1,
          (State.undemanded_of_fixed (gapTargetArrives_fixed _ u)).trans hu.2.2⟩
      · exact hu
    · exact hu
  split
  · split
    · exact ⟨spanArrives_tame _ hv.1, (spanArrives_wear _ v).trans hv.2.1, (spanArrives_undemanded _ v).trans hv.2.2⟩
    · exact hv
  · exact hv

theorem beginRun_tame {s t : State} (h : Tame s t) (h1 : t.run.state ≠ .tripped) (h2 : t.run.state ≠ .unconfigured) :
    Tame s (beginRun t) := by
  unfold beginRun
  split
  exacts [enterRun_tame _ h h1 h2, changeRun_tame _ h h1 h2]

theorem beginRun_still (s : State) : (beginRun s).still = s.still := by
  unfold beginRun
  split <;> simp

theorem actRun_tame {s t : State} (h : Tame s t) : Tame s (actRun t) := by
  unfold actRun
  split
  · next hs => exact beginRun_tame h (by simp [hs]) (by simp [hs])
  · next hs => exact beginRun_tame h (by simp [hs]) (by simp [hs])
  · exact h

theorem actRun_still (s : State) : (actRun s).still = s.still := by
  unfold actRun
  split
  exacts [beginRun_still s, beginRun_still s, rfl]

theorem abortInternal_tame {s t : State} (h : Tame s t) : Tame s (abortInternal t) := by
  unfold abortInternal
  split
  · split
    exacts [stopCalibration_tame h, h]
  · exact h

theorem abortInternal_still (s : State) : (abortInternal s).still = s.still := by
  unfold abortInternal
  split
  · split <;> simp
  · rfl

theorem actStop_tame {s t : State} (h : Tame s t) : Tame s (actStop t) := by
  unfold actStop beginStop
  split
  · next hs => exact enterRun_tame _ h (by simp [hs]) (by simp [hs])
  · next hs => exact enterRun_tame _ h (by simp [hs]) (by simp [hs])
  · next hs => exact abortInternal_tame (enterRun_tame _ h (by simp [hs]) (by simp [hs]))
  · exact h

theorem actStop_still (s : State) : (actStop s).still = s.still := by
  unfold actStop beginStop
  split <;> simp [abortInternal_still]

/-- The command of a DEMAND writes the last command and what `still` blanks. -/
theorem actCommand_effect (c : Option Command) (s : State) :
    Tame s (actCommand c s) ∧ (actCommand c s).wear = s.wear ∧ (actCommand c s).undemanded = s.undemanded := by
  have key : ∀ (o : Option Command) {u : State}, u.still = ({ s with run.lastCommand := o } : State).still →
      u.wear = s.wear ∧ u.undemanded = s.undemanded := fun o u h =>
    ⟨(State.wear_of_still h).trans rfl, (State.undemanded_of_fixed (State.fixed_of_still h)).trans rfl⟩
  unfold actCommand
  split
  · exact ⟨.refl s, rfl, rfl⟩
  · exact ⟨actRun_tame (Tame.refl s).plain, key _ (actRun_still _)⟩
  · exact ⟨actStop_tame (Tame.refl s).plain, key _ (actStop_still _)⟩

/-- A DEMAND that is taken up keeps queue and feeder tame, leaves the totals while no LINER_CHANGE waits, and writes beyond that what
an accepted DEMAND owns. -/
theorem actDemand_effect (p : DemandPayload) (c : Option Command) (s : State) :
    Tame s (actDemand p c s) ∧ (NoneWaits .linerChange s.queue → (actDemand p c s).wear = s.wear) ∧
      (actDemand p c s).undemanded = s.undemanded := by
  obtain ⟨h1, h2, h3⟩ := storeDemand_effect p s
  obtain ⟨h1', h2', h3'⟩ := actCommand_effect c (storeDemand p s)
  have ht := h1.trans h1'
  unfold actDemand
  dsimp only
  split
  · exact ⟨settle_tame ht, fun hn => (settle_wear (ht.noneWaits hn)).trans (h2'.trans h2),
      (State.undemanded_of_fixed (settle_fixed _)).trans (h3'.trans h3)⟩
  · exact ⟨ht, fun _ => h2'.trans h2, h3'.trans h3⟩

/-- What holds of an untouched state, of one whose receiver has ended a frame, and of what an accepted DEMAND makes of that one, holds
after a DEMAND frame. -/
theorem takeDemand_of {P : State → Prop} {header : Address} {p : DemandPayload} {c : Option Command} {s : State} (h0 : P s)
    (h1 : P (frameEnds s)) (h2 : P (actDemand p c (frameEnds s))) : P (takeDemand header p c s) := by
  unfold takeDemand
  rcases onFrame_cases (fun s => if s.acceptsDemand header p then actDemand p c s else s) s with h | h <;> rw [h]
  · exact h0
  · split
    exacts [h2, h1]

theorem takeDemand_tame (header : Address) (p : DemandPayload) (c : Option Command) (s : State) :
    Tame s (takeDemand header p c s) :=
  takeDemand_of (.refl s) (frameEnds_tame (.refl s))
    ((frameEnds_tame (.refl s)).trans (actDemand_effect p c (frameEnds s)).1)

theorem takeDemand_wear (header : Address) (p : DemandPayload) (c : Option Command) {s : State}
    (hn : NoneWaits .linerChange s.queue) : (takeDemand header p c s).wear = s.wear :=
  takeDemand_of (P := fun t => t.wear = s.wear) rfl rfl ((actDemand_effect p c (frameEnds s)).2.1 hn)

theorem takeDemand_undemanded (header : Address) (p : DemandPayload) (c : Option Command) (s : State) :
    (takeDemand header p c s).undemanded = s.undemanded ∨
      (takeDemand header p c s).undemanded = (frameEnds s).undemanded :=
  takeDemand_of (P := fun t => t.undemanded = s.undemanded ∨ t.undemanded = (frameEnds s).undemanded) (.inl rfl) (.inr rfl)
    (.inr (actDemand_effect p c (frameEnds s)).2.2)

/-! ### Timers of the Gap Controller (chapters 7 to 9) -/

theorem stickAt_tame {s t : State} (h : Tame s t) : Tame s (stickAt t) :=
  setActivity_tame _ (restW_tame (report_tame _ _ h))

@[simp] theorem stickAt_still (s : State) : (stickAt s).still = s.still := by simp [stickAt]

@[simp] theorem stickAt_state (s : State) : (stickAt s).run.state = s.run.state := by
  simp [stickAt, report_of_noted _ (.inl rfl)]

/-- A stall of a move ends or reverses it, and writes only what `still` blanks. -/
theorem moveStalls_effect (m : Move) (g : Nat) (s : State) :
    Tame s (moveStalls m g s) ∧ (moveStalls m g s).still = s.still ∧ (moveStalls m g s).run.state = s.run.state := by
  unfold moveStalls
  split
  · split
    · exact ⟨setActivity_tame _ (restW_tame (endActiveOf_tame _ _ (.refl s))), by simp, by simp⟩
    · exact ⟨reversalTest_tame (updateActivity_tame _ (.refl s)), by simp, by simp⟩
  · exact ⟨stickAt_tame (endActiveOf_tame _ _ (.refl s)), by simp, by simp⟩

/-- A stall's expiry leaves the state, or ends the event on a state that differs only in what `still` blanks, in the same run
state. -/
theorem stall_cases (s : State) :
    stall s = s ∨ ∃ u, stall s = settle u ∧ Tame s u ∧ u.still = s.still ∧ u.run.state = s.run.state := by
  unfold stall
  split
  · split
    exacts [.inl rfl, .inr ⟨_, rfl, moveStalls_effect _ _ s⟩]
  · split
    · exact .inr ⟨_, rfl, stickAt_tame (endActiveOf_tame _ _ (.refl s)), by simp, by simp⟩
    · exact .inl rfl
  · split
    exacts [.inl rfl, .inr ⟨_, rfl, stickAt_tame (.refl s), by simp, by simp⟩]
  · exact .inl rfl

theorem seekLimitExpires_cases (s : State) :
    seekLimitExpires s = s ∨ ∃ u, seekLimitExpires s = settle u ∧ Tame s u ∧ u.still = s.still := by
  unfold seekLimitExpires
  split
  · split
    exacts [.inr ⟨_, rfl, calibrationFails_tame _ (.refl s), by simp⟩, .inl rfl]
  · exact .inl rfl

theorem pulseOnEnds_effect (s : State) : Tame s (pulseOnEnds s) ∧ (pulseOnEnds s).still = s.still ∧
    (pulseOnEnds s).run.state = s.run.state := by
  unfold pulseOnEnds
  split
  · split
    · split
      exacts [⟨updateActivity_tame _ (.refl s), by simp, by simp⟩, ⟨.refl s, rfl, rfl⟩]
    · exact ⟨.refl s, rfl, rfl⟩
  · exact ⟨.refl s, rfl, rfl⟩

/-- The end of a pulse's off time starts the next pulse, or is a contact with the end of its event (R122). -/
theorem pulseOffEnds_cases (s : State) :
    (Tame s (pulseOffEnds s) ∧ (pulseOffEnds s).still = s.still ∧ (pulseOffEnds s).run.state = s.run.state) ∨
      ∃ k p, pulseOffEnds s = settle (contact k p s) := by
  unfold pulseOffEnds
  split
  · split
    · dsimp only
      split
      · exact .inl ⟨.refl s, rfl, rfl⟩
      · split
        exacts [.inr ⟨_, _, rfl⟩, .inl ⟨updateActivity_tame _ (.refl s), by simp, by simp⟩]
    · exact .inl ⟨.refl s, rfl, rfl⟩
  · exact .inl ⟨.refl s, rfl, rfl⟩

theorem reliefEnds_effect (s : State) :
    Tame s (reliefEnds s) ∧ (reliefEnds s).still = s.still ∧ (reliefEnds s).run.state = s.run.state := by
  unfold reliefEnds
  split
  · split
    exacts [⟨setActivity_tame _ (.refl s), by simp, by simp⟩, ⟨setActivity_tame _ (.refl s), by simp, by simp⟩]
  · exact ⟨setActivity_tame _ (.refl s), by simp, by simp⟩

end Sys2Proof.Machine

/-! ### What a command owns -/

namespace Sys2Proof.Machine

/-- `s` with those fields blanked that command `c` itself writes, beyond what `State.fixed` blanks. -/
def othersOf : Instr → State → State
  | .reset, s =>
    { State.reset with pending := s.pending, motorRunning := s.motorRunning, supplyLow := s.supplyLow }
  | .startSequenceEnd _ _, s =>
    { s with
      freeCount := 0, stationNumber := 0, settings := .unread
      monitor := { Monitor.reset with
        sample := s.monitor.sample, position := s.monitor.position, positionValid := s.monitor.positionValid
        validity := s.monitor.validity }
      peers.ageing := none, share.timer := none, drive.timer := none, line.reportTimer := none }
  | .readingEvent _, s =>
    { s with monitor := { Monitor.reset with sample := s.monitor.sample }
             gap := { GapController.reset with span := s.gap.span } }
  | .beltScalePulse, s => { s with monitor.pulseCount := 0 }
  | .windowClose, s => { s with freeCount := 0, monitor := .reset }
  | .ageingEvent, s => { s with peers.entries := [], peers.ageing := none }
  | .statusArrival _ _ _, s => { s with peers.entries := [], peers.lastDuplicate := none, line.receiver := .ready }
  | .demand _ _, s | .run _ _, s | .stop _ _, s =>
    { s with run := State.reset.run, gap.span := 0, line.receiver := .ready }
  | .clearFault _ _, s => { s with gap.trampList := [], line.receiver := .ready }
  | .sharePeriodExpiry, s => { s with share := State.reset.share, peers.selected := none, peers.source := .none }
  | .rampInterval, s => { s with drive.timer := none }
  | .motorRunningFall, s | .motorRunningRise, s => { s with motorRunning := false }
  | .supplyLowRise, s | .supplyLowFall, s => { s with supplyLow := false }
  | .readyTimerExpiry, s | .wordReady, s => { s with freeCount := 0 }
  | .reportTimerExpiry, s => { s with freeCount := 0, line.reportTimer := none }
  | .primingTimerExpiry, s | .clearTimerExpiry, s | .stallTimerExpiry, s | .seekLimitExpiry, s | .seekPulseOnEnd, s
  | .seekPulseOffEnd, s | .settleTimerExpiry, s | .collision _, s => s
  | _, s => { s with line.receiver := .ready }

/-- What all but a few commands do: feeder and queue are eased, the totals and the gap target spared, and what `State.fixed` keeps is
written only where the command owns it. -/
structure Owns (c : Instr) (s t : State) : Prop extends Eases s t, Spares s t where
  others   : othersOf c t.fixed = othersOf c s.fixed
  receiver : c ≠ .lineIdle → c ≠ .transmitAttempt →
    t.line.receiver = s.line.receiver ∨ t.line.receiver = .waitingIdle

section
variable {c : Instr} {s t u : State}

theorem State.receiver_of_fixed (h : s.fixed = t.fixed) : s.line.receiver = t.line.receiver :=
  (congrArg (fun u : State => u.line.receiver) h :)

theorem Spares.trans (h : Spares s t) (he : Eases s t) (h' : Spares t u) : Spares s u :=
  ⟨fun hn => (h'.wear (he.noneWaits hn)).trans (h.wear hn), fun hn => (h'.target (he.noneWaits hn)).trans (h.target hn)⟩

theorem Owns.trans (h : Owns c s t) (h' : Owns c t u) : Owns c s u where
  toEases := h.toEases.trans h'.toEases
  toSpares := h.toSpares.trans h.toEases h'.toSpares
  others := h'.others.trans h.others
  receiver h1 h2 := by rcases h'.receiver h1 h2 with hr | hr <;> simp [hr, h.receiver h1 h2]

/-- Operations that ease and spare, and write only what `State.fixed` blanks. -/
theorem Owns.of_fixed (he : Eases s t) (hs : Spares s t) (hf : t.fixed = s.fixed) : Owns c s t where
  toEases := he
  toSpares := hs
  others := congrArg (othersOf c) hf
  receiver _ _ := .inl (State.receiver_of_fixed hf)

theorem Owns.of_still (ht : Tame s t) (hs : t.still = s.still) : Owns c s t :=
  .of_fixed ht.toEases (.of_still hs) (State.fixed_of_still hs)

theorem Owns.refl : Owns c s s := .of_still (.refl s) rfl

theorem Owns.settle (h : Owns c s t) : Owns c s (settle t) where
  toEases := h.toEases.trans (settle_tame (.refl t)).toEases
  toSpares := h.toSpares.settle h.toEases
  others := (congrArg (othersOf c) (settle_fixed t)).trans h.others
  receiver h1 h2 := State.receiver_of_fixed (settle_fixed t) ▸ h.receiver h1 h2

/-- A plain update by the command of fields that it owns. -/
theorem Owns.plain (ho : othersOf c t.fixed = othersOf c s.fixed := by rfl)
    (hd : t.drive.output = s.drive.output := by rfl) (hr : t.drive.setpoint = s.drive.setpoint := by rfl)
    (hq : t.queue = s.queue := by rfl) (hc : t.line.congested = s.line.congested := by rfl)
    (hw : t.wear = s.wear := by rfl) (ht : t.gap.target = s.gap.target := by rfl)
    (hv : t.line.receiver = s.line.receiver := by rfl) : Owns c s t where
  toEases := .of_eq hd hr hq hc
  toSpares := .of_eq hw ht
  others := ho
  receiver _ _ := .inl hv

/-- The end of a frame at the receiver, by a command that owns it. -/
theorem Owns.frameEnds (ho : othersOf c (frameEnds s).fixed = othersOf c s.fixed := by rfl) : Owns c s (frameEnds s) where
  toEases := .of_eq rfl rfl rfl rfl
  toSpares := .of_eq rfl rfl
  others := ho
  receiver _ _ := .inr rfl

end

/-! ### Frames -/

/-- A request frame by a command that owns the receiver. -/
theorem onRequest_owns {c : Instr} {header : Address} {act : State → State} {s : State}
    (hact : Owns c (frameEnds s) (act (frameEnds s)))
    (ho : othersOf c (frameEnds s).fixed = othersOf c s.fixed := by rfl) : Owns c s (onRequest header act s) :=
  onRequest_of .refl (.frameEnds ho) (Owns.trans (.frameEnds ho) hact)

theorem takeStatus_owns (header : Address) (own : Bool) (p : StatusPayload) (source : Nat) (s : State) :
    Owns (.statusArrival header own p) s (takeStatus source p s) := by
  unfold takeStatus
  split
  · exact .refl
  · split
    · exact Owns.trans (t := { s with peers.lastDuplicate := some s.seconds }) .plain
        (.of_still (report_tame _ _ (.refl _)) (report_still _ _ _))
    · split
      exacts [.plain, .refl]

theorem clearFault_owns (header : Address) (tag : BitVec 3) (s : State) :
    Owns (.clearFault header tag) s (clearFault header tag s) where
  toEases := clearFault_eases header tag s
  toSpares := clearFault_spares header tag s
  others := by
    rcases clearFault_fixed header tag s with h | h <;> rw [h]
    rfl
  receiver _ _ := by
    rcases clearFault_fixed header tag s with h | h
    exacts [.inl (State.receiver_of_fixed h), .inl (State.receiver_of_fixed (t := faultsCleared s) h)]

/-! ### The window close -/

theorem clearTakes_owns {c : Instr} (l : LoadSample) (s : State) : Owns c s (clearTakes l s) := by
  unfold clearTakes
  split
  · next hs =>
    exact .of_fixed (finishStopping_tame (.refl s) hs.1).toEases
      (.of_eq (finishStopping_wear s) (finishStopping_target s)) (finishStopping_fixed s)
  · exact .refl

theorem windowClose_owns (s : State) : Owns .windowClose s (windowClose s) := by
  have h : Owns .windowClose s (reopened s) := .plain
  rw [windowClose_eq]
  exact ((h.trans (.of_still (historyTakes_tame _ (.refl _)) (historyTakes_still _ _))).trans
    (clearTakes_owns _ _)).settle

/-! ### Campaigns (R128, R164) -/

/-- The end of a campaign hands on, starts a pending record and ends the event in the same run state. -/
theorem campaignEnds_cases (e : CampaignEnd) (c : Campaign) (s : State) :
    ∃ u, campaignEnds e c s = settle u ∧ Tame s u ∧ u.wear = s.wear ∧ u.gap.target = s.gap.target ∧
      u.fixed = s.fixed ∧ u.run.state = s.run.state := by
  have hstate : ∀ v, (report .memoryTimeout false v).run.state = v.run.state := fun v => by simp [report_state]
  unfold campaignEnds
  extract_lets u v w
  have hu : Tame s u ∧ u.still = ({ s with memory := s.memory.setEnabled false } : State).still ∧
      u.run.state = s.run.state := ⟨(Tame.refl s).plain, rfl, rfl⟩
  have hv : Tame s v ∧ v.still = u.still ∧ v.run.state = s.run.state := by
    unfold v
    split
    exacts [⟨report_tame _ _ hu.1, report_still _ _ _, (hstate u).trans hu.2.2⟩, ⟨hu.1, rfl, hu.2.2⟩]
  have hw : Tame s w ∧ w.still = v.still ∧ w.run.state = s.run.state := by
    unfold w linerChangeTakes
    split
    · split
      exacts [⟨endActiveOf_tame _ _ hv.1, endActiveOf_still _ _ _, (endActiveOf_state _ _ v).trans hv.2.2⟩,
        ⟨hv.1, rfl, hv.2.2⟩]
    · exact ⟨hv.1, rfl, hv.2.2⟩
  have hstill := (hw.2.1.trans hv.2.1).trans hu.2.1
  refine ⟨_, rfl, startPending_tame hw.1.plain, ?_, ?_, ?_, (startPending_state _).trans hw.2.2⟩
  · have hwear : w.wear = s.wear := (State.wear_of_still hstill).trans rfl
    exact (startPending_wear _).trans hwear
  · have htarget : w.gap.target = s.gap.target := (State.target_of_still hstill).trans rfl
    exact (startPending_target _).trans htarget
  · exact (startPending_fixed _).trans ((State.fixed_of_still hstill).trans rfl)

theorem campaignEnds_owns {i : Instr} (e : CampaignEnd) (c : Campaign) (s : State) : Owns i s (campaignEnds e c s) := by
  obtain ⟨u, h, ht, hw, hg, hf, -⟩ := campaignEnds_cases e c s
  rw [h]
  exact (Owns.of_fixed ht.toEases (.of_eq hw hg) hf).settle

theorem campaignEnds_state (e : CampaignEnd) (c : Campaign) {s : State} (hp : s.run.state ≠ .priming)
    (hn : NoneWaits .linerChange s.queue) : (campaignEnds e c s).run.state = s.run.state := by
  obtain ⟨u, h, ht, -, -, -, hs⟩ := campaignEnds_cases e c s
  rw [h, settle_state (hs ▸ hp) (fun _ => ht.noneWaits hn), hs]

theorem wordReady_owns (c : Campaign) (s : State) : Owns .wordReady s (wordReady c s) := by
  unfold wordReady
  split
  · exact campaignEnds_owns _ _ _
  · split
    · have h : Owns .wordReady s (cutShort c s) := by
        rw [cutShort_frame]
        exact .plain
      exact h.trans (campaignEnds_owns _ _ _)
    · exact .plain

theorem wordReady_state (c : Campaign) {s : State} (hp : s.run.state ≠ .priming) (hn : NoneWaits .linerChange s.queue) :
    (wordReady c s).run.state = s.run.state := by
  unfold wordReady
  split
  · exact campaignEnds_state _ _ hp hn
  · split
    · have hs : (cutShort c s).run.state = s.run.state := by rw [cutShort_frame]
      have hq : (cutShort c s).queue = s.queue := by rw [cutShort_frame]
      exact (campaignEnds_state _ _ (hs ▸ hp) (hq ▸ hn)).trans hs
    · rfl

theorem giveUpWord_owns (c : Campaign) (s : State) : Owns .readyTimerExpiry s (giveUpWord c s) := .plain

theorem startPending_owns {c : Instr} (s : State) : Owns c s (startPending s) :=
  .of_fixed (startPending_tame (.refl s)).toEases (.of_eq (startPending_wear s) (startPending_target s))
    (startPending_fixed s)

/-! ### The Line Port's own events -/

theorem reportStatus_owns (s : State) : Owns .reportTimerExpiry s (reportStatus s) := by
  unfold reportStatus
  dsimp only
  rw [LinePort.takeNext_frame]
  exact .plain

theorem collide_owns (draw : BitVec 4) (f : InFlight) (s : State) :
    Owns (.collision draw) s { s with line := collide draw f s.line } := by
  unfold collide
  dsimp only
  split
  · exact .plain
  · rw [LinePort.takeNext_frame]
    exact
      { output := .inl rfl
        setpoint := .inl rfl
        keys := .refl _
        waiting := fun _ h _ => h
        congested := fun _ => rfl
        wear := fun _ => rfl
        target := fun _ => rfl
        others := rfl
        receiver := fun _ _ => .inl rfl }

end Sys2Proof.Machine

/-! ### Every command -/

namespace Sys2Proof.Machine

/-- The commands that do all that `Owns` says: every one but RESET, the start sequence, the events that weigh or may find contact,
DEMAND with RUN and STOP, the queued kinds, and the three events that move output, setpoint or congestion flag. -/
def ownsAll : Instr → Bool
  | .reset | .startSequenceEnd _ _ | .readingEvent _ | .beltScalePulse | .seekPulseOffEnd | .demand _ _ | .run _ _
  | .stop _ _ | .setGap _ _ _ _ | .calibrate _ _ _ | .linerChange _ _ _ | .rampInterval | .sharePeriodExpiry
  | .frameSent => false
  | _ => true

theorem exec_owns {c : Instr} {s t : State} (h : exec c s = .next t) (hc : ownsAll c = true) : Owns c s t := by
  cases c with
  | windowClose =>
    cases h
    split
    exacts [windowClose_owns s, .refl]
  | ageingEvent =>
    cases h
    split
    exacts [.plain, .refl]
  | statusArrival header own p =>
    cases h
    rcases onFrame_cases (fun s => if s.addressed header ∧ own = false ∧ p.codesDefined ∧ s.active then
      takeStatus header.source.toNat p s else s) s with h | h <;> rw [h]
    · exact .refl
    · split
      exacts [Owns.trans .frameEnds (takeStatus_owns _ _ _ _ _), .frameEnds]
  | cancel header tag argument =>
    cases h
    exact onRequest_owns (.of_fixed (cancelEntry_tame _ _ _ _).toEases (cancelEntry_spares _ _ _ _)
      (cancelEntry_fixed _ _ _ _))
  | holdFeed header tag =>
    cases h
    exact onRequest_owns (.of_still (holdFeed_tame _ _ _) (holdFeed_still _ _ _))
  | releaseFeed header tag =>
    cases h
    exact onRequest_owns (.of_still (releaseFeed_tame _ _ _) (releaseFeed_still _ _ _))
  | clearFault header tag =>
    cases h
    exact onRequest_owns (clearFault_owns _ _ _)
  | queryFault header tag =>
    cases h
    exact onRequest_owns (.of_still (answerQuery_tame _ _ _ (.refl _)) (answerQuery_still _ _ _ _))
  | queryWear header tag =>
    cases h
    exact onRequest_owns (.of_still (answerQuery_tame _ _ _ (.refl _)) (answerQuery_still _ _ _ _))
  | queryShare header tag =>
    cases h
    exact onRequest_owns (.of_still (answerQuery_tame _ _ _ (.refl _)) (answerQuery_still _ _ _ _))
  | queryQueue header tag =>
    cases h
    exact onRequest_owns (.of_still (answerQuery_tame _ _ _ (.refl _)) (answerQuery_still _ _ _ _))
  | badKind header tag code argument =>
    cases h
    exact onRequest_owns (.of_still (answerNow_tame _ _ _ _ (.refl _)) (answerNow_still _ _ _ _ _))
  | answerFrameReceived =>
    cases h
    rcases onFrame_cases id s with h | h <;> rw [h]
    exacts [.refl, .frameEnds]
  | frameDiscarded =>
    cases h
    rcases onFrame_cases id s with h | h <;> rw [h]
    exacts [.refl, .frameEnds]
  | motorRunningFall =>
    cases h
    have hp : Owns .motorRunningFall s { s with motorRunning := false } := .plain
    dsimp only
    split
    exacts [hp.trans (.of_still (report_tame _ _ (.refl _)) (report_still _ _ _)), hp]
  | motorRunningRise =>
    cases h
    exact Owns.trans (t := { s with motorRunning := true }) .plain
      (.of_still (internalCalibrationTest_tame (.refl _)) (internalCalibrationTest_still _))
  | primingTimerExpiry =>
    cases h
    split
    exacts [.of_still (report_tame _ _ (Tame.refl s).plain) ((report_still _ _ _).trans rfl), .refl]
  | clearTimerExpiry =>
    cases h
    split
    · next hs =>
      exact .of_fixed (finishStopping_tame (.refl s) hs.1).toEases
        (.of_eq (finishStopping_wear s) (finishStopping_target s)) (finishStopping_fixed s)
    · exact .refl
  | stallTimerExpiry =>
    cases h
    split
    · rcases stall_cases s with h | ⟨u, h, ht, hu, -⟩ <;> rw [h]
      exacts [.refl, (Owns.of_still ht hu).settle]
    · exact .refl
  | seekLimitExpiry =>
    cases h
    split
    · rcases seekLimitExpires_cases s with h | ⟨u, h, ht, hu⟩ <;> rw [h]
      exacts [.refl, (Owns.of_still ht hu).settle]
    · exact .refl
  | seekPulseOnEnd =>
    cases h
    split
    exacts [.of_still (pulseOnEnds_effect s).1 (pulseOnEnds_effect s).2.1, .refl]
  | settleTimerExpiry =>
    cases h
    split
    · split
      exacts [(Owns.of_still (reliefEnds_effect s).1 (reliefEnds_effect s).2.1).settle, .refl]
    · exact .refl
  | readyTimerExpiry =>
    cases h
    split
    exacts [(giveUpWord_owns _ s).trans (campaignEnds_owns _ _ _), .refl]
  | wordReady =>
    cases h
    have hp : Owns .wordReady s { s with memory := s.memory.finish } := .plain
    dsimp only
    split
    exacts [hp.trans (wordReady_owns _ _), hp]
  | supplyLowRise =>
    cases h
    dsimp only
    split
    · exact .plain
    · exact Owns.trans (t := { s with
        supplyLow := true, interface.campaign := s.interface.campaign.map (fun c => { c with cutOff := true }) }) .plain
        (.of_still (report_tame _ _ (.refl _)) (report_still _ _ _))
  | supplyLowFall =>
    cases h
    exact Owns.trans (t := { s with supplyLow := false }) .plain (startPending_owns _)
  | reportTimerExpiry =>
    cases h
    split
    exacts [.refl, reportStatus_owns s]
  | transmitAttempt =>
    cases h
    split
    · next f _ =>
      exact { Owns.plain (c := .transmitAttempt) (s := s) (t := { s with line.inFlight := some { f with driving := true } }) with
        receiver := fun _ h2 => absurd rfl h2 }
    · exact .refl
  | collision draw =>
    cases h
    split
    · split
      exacts [collide_owns _ _ s, .refl]
    · exact .refl
  | lineIdle =>
    cases h
    exact
      { toEases := .of_eq rfl rfl rfl rfl
        toSpares := .of_eq rfl rfl
        others := rfl
        receiver := fun h1 => absurd rfl h1 }
  | _ => cases hc

end Sys2Proof.Machine

/-! ### The commands that do more -/

namespace Sys2Proof.Machine

/-! #### START_SEQUENCE_END (R161) -/

/-- A predicate of the station that the parts of the start sequence keep: they ease feeder and queue, and write beyond what
`State.fixed` blanks only what START_SEQUENCE_END owns. -/
def StartOwns (s t : State) : Prop :=
  Eases s t ∧ ∀ straps memory, othersOf (.startSequenceEnd straps memory) t.fixed =
    othersOf (.startSequenceEnd straps memory) s.fixed

theorem StartOwns.trans {s t u : State} (h : StartOwns s t) (h' : StartOwns t u) : StartOwns s u :=
  ⟨h.1.trans h'.1, fun a b => (h'.2 a b).trans (h.2 a b)⟩

theorem StartOwns.report (k : FaultKind) (trips : Bool) (s : State) : StartOwns s (report k trips s) :=
  ⟨(report_tame k trips (.refl s)).toEases, fun _ _ => congrArg (othersOf _) (report_fixed k trips s)⟩

theorem startConfigured_owns (valid : Bool) (r : WearRecord) (s : State) :
    StartOwns s (startConfigured valid r s) := by
  unfold startConfigured referenceFromRecord
  dsimp only
  split <;> exact ⟨.of_eq rfl rfl rfl rfl, fun _ _ => rfl⟩

theorem startUnconfigured_owns (s : State) : StartOwns s (startUnconfigured s) :=
  StartOwns.trans (t := { s with run.state := .unconfigured }) ⟨.of_eq rfl rfl rfl rfl, fun _ _ => rfl⟩
    (.report _ _ _)

theorem reportStatus_startOwns (s : State) : StartOwns s (reportStatus s) := by
  unfold reportStatus
  dsimp only
  rw [LinePort.takeNext_frame]
  exact ⟨.of_eq rfl rfl rfl rfl, fun _ _ => rfl⟩

theorem reportLowSupply_owns (s : State) : StartOwns s (reportLowSupply s) := by
  unfold reportLowSupply
  split
  exacts [.report _ _ s, ⟨.of_eq rfl rfl rfl rfl, fun _ _ => rfl⟩]

theorem startSequenceEnd_owns (straps : Nat) (memory : StartMemory) (s : State) :
    StartOwns s (startSequenceEnd straps memory s) := by
  unfold startSequenceEnd
  extract_lets m u v
  have hu : StartOwns s u := ⟨.of_eq rfl rfl rfl rfl, fun _ _ => rfl⟩
  have hv : StartOwns u v := by
    unfold v
    split
    exacts [startConfigured_owns _ _ u, startUnconfigured_owns u]
  exact ((hu.trans hv).trans (reportStatus_startOwns v)).trans (reportLowSupply_owns _)

theorem execStartSequenceEnd_owns {straps : BitVec 5} {memory : StartMemory} {s t : State}
    (h : exec (.startSequenceEnd straps memory) s = .next t) : StartOwns s t := by
  cases h
  split
  exacts [startSequenceEnd_owns _ _ s, ⟨.of_eq rfl rfl rfl rfl, fun _ _ => rfl⟩]

/-! #### READING_EVENT, BELT_SCALE_PULSE and SEEK_PULSE_OFF_END -/

theorem readingEvent_others (r : Readings) (s : State) :
    othersOf (.readingEvent r) (readingEvent r s).fixed = othersOf (.readingEvent r) s.fixed := by
  obtain ⟨armed, last, list, h⟩ := readingEvent_fixed r s
  rw [h]
  rfl

theorem readingEvent_kept (r : Readings) (s : State) :
    (NoneWaits .linerChange s.queue → (readingEvent r s).gap.wearUnknown = s.gap.wearUnknown) ∧
    (NoneWaits .setGap s.queue → (readingEvent r s).gap.target = s.gap.target) := by
  have hsensed : (sensed r s).gap.wearUnknown = s.gap.wearUnknown ∧ (sensed r s).gap.target = s.gap.target := by
    have h := sensed_still r s
    generalize sensed r s = t at h ⊢
    exact ⟨(congrArg (fun u : State => u.gap.wearUnknown) h :), (congrArg (fun u : State => u.gap.target) h :)⟩
  obtain ⟨-, -, hunknown, htarget⟩ :=
    gapReading_kept (loopReading s.settings.pressureSpan r.pressure) (positionReading r) (sensed r s)
  have htame := estimateTonnage_tame s.drive.output
    (gapReading_tame (loopReading s.settings.pressureSpan r.pressure) (positionReading r) (sensed_tame r s))
  rw [readingEvent_eq]
  generalize hg : estimateTonnage s.drive.output (gapReading (loopReading s.settings.pressureSpan r.pressure)
    (positionReading r) (sensed r s)) = g at htame ⊢
  have hunknown' : g.gap.wearUnknown = s.gap.wearUnknown := by
    rw [← hg, estimateTonnage_wearUnknown, hunknown, hsensed.1]
  have htarget' : g.gap.target = s.gap.target := by rw [← hg, estimateTonnage_target, htarget, hsensed.2]
  refine ⟨fun hn => ?_, fun hn => ?_⟩
  · have hs := settle_wearChanged_steady (htame.noneWaits hn)
    generalize settle (wearChanged g) = t at hs ⊢
    exact (congrArg (fun u : State => u.gap.wearUnknown) hs :).trans hunknown'
  · rw [settle_target ((wearChanged_tame htame).noneWaits hn), State.target_of_still (wearChanged_still g), htarget']

theorem pulse_others (s : State) :
    othersOf .beltScalePulse (settle (wearChanged (pulsed s))).fixed = othersOf .beltScalePulse s.fixed := by
  rw [settle_fixed, wearChanged_fixed]
  rfl

theorem pulse_spares (s : State) :
    (NoneWaits .linerChange s.queue → (settle (wearChanged (pulsed s))).wear = (pulsed s).wear) ∧
    (NoneWaits .setGap s.queue → (settle (wearChanged (pulsed s))).gap.target = s.gap.target) := by
  refine ⟨fun hn => State.wear_of_steady (settle_wearChanged_steady hn), fun hn => ?_⟩
  rw [settle_target ((wearChanged_tame (pulsed_tame s)).noneWaits hn), State.target_of_still (wearChanged_still _)]
  rfl

theorem pulse_state {s : State} (hp : s.run.state ≠ .priming) (hn : NoneWaits .linerChange s.queue) :
    (settle (wearChanged (pulsed s))).run.state = s.run.state := by
  have hs : (wearChanged (pulsed s)).run.state = s.run.state := wearChanged_state _
  exact (settle_state (hs ▸ hp) fun _ => (wearChanged_tame (pulsed_tame s)).noneWaits hn).trans hs

theorem pulseOffEnds_tame (s : State) : Tame s (pulseOffEnds s) := by
  rcases pulseOffEnds_cases s with ⟨h, -, -⟩ | ⟨k, p, h⟩
  · exact h
  · rw [h]
    exact settle_tame (contact_tame k p (.refl s))

theorem pulseOffEnds_fixed (s : State) : (pulseOffEnds s).fixed = s.fixed := by
  rcases pulseOffEnds_cases s with ⟨-, h, -⟩ | ⟨k, p, h⟩
  · exact State.fixed_of_still h
  · rw [h, settle_fixed, contact_fixed]

/-- The contact that ends a pulse leaves liner tonnes, WEAR_UNKNOWN and gap target. -/
theorem pulseOffEnds_kept (s : State) :
    (NoneWaits .linerChange s.queue → (pulseOffEnds s).gap.linerTonnes = s.gap.linerTonnes ∧
      (pulseOffEnds s).gap.wearUnknown = s.gap.wearUnknown) ∧
    (NoneWaits .setGap s.queue → (pulseOffEnds s).gap.target = s.gap.target) := by
  have key : ∀ {u v : State} {g : GapController}, u.wear = g → g.linerTonnes = v.gap.linerTonnes →
      g.wearUnknown = v.gap.wearUnknown →
      u.gap.linerTonnes = v.gap.linerTonnes ∧ u.gap.wearUnknown = v.gap.wearUnknown := fun h h1 h2 =>
    ⟨(congrArg (fun g : GapController => g.linerTonnes) h :).trans h1,
      (congrArg (fun g : GapController => g.wearUnknown) h :).trans h2⟩
  rcases pulseOffEnds_cases s with ⟨-, h, -⟩ | ⟨k, p, h⟩
  · exact ⟨fun _ => key (State.wear_of_still h) rfl rfl, fun _ => State.target_of_still h⟩
  · rw [h]
    have ht := contact_tame k p (.refl s)
    exact ⟨fun hn => key ((settle_wear (ht.noneWaits hn)).trans (contact_wear k p s)) rfl rfl,
      fun hn => (settle_target (ht.noneWaits hn)).trans (contact_target k p s)⟩

theorem pulseOffEnds_state {s : State} (hp : s.run.state ≠ .priming) (hn : NoneWaits .linerChange s.queue) :
    (pulseOffEnds s).run.state = s.run.state := by
  rcases pulseOffEnds_cases s with ⟨-, -, h⟩ | ⟨k, p, h⟩
  · exact h
  · have hs := contact_state k p s
    rw [h, settle_state (hs ▸ hp) (fun _ => (contact_tame k p (.refl s)).noneWaits hn), hs]

/-! #### Run state at the other ends of events -/

theorem windowClose_state {s : State} (hp : s.run.state ≠ .priming) (hst : s.run.state ≠ .stopping)
    (hn : NoneWaits .linerChange s.queue) : (windowClose s).run.state = s.run.state := by
  have hframe := historyTakes_frame (closingSample s) (reopened s)
  rw [windowClose_eq]
  generalize historyTakes (closingSample s) (reopened s) = t at hframe ⊢
  have hstate : t.run.state = s.run.state := by rw [hframe]; rfl
  have hqueue : t.queue = s.queue := by rw [hframe]; rfl
  have hclear : clearTakes (closingSample s) t = t := if_neg fun hc => hst (hstate ▸ hc.1)
  rw [hclear, settle_state (hstate ▸ hp) (fun _ => hqueue ▸ hn), hstate]

theorem stall_state {s : State} (hp : s.run.state ≠ .priming) (hn : NoneWaits .linerChange s.queue) :
    (stall s).run.state = s.run.state := by
  rcases stall_cases s with h | ⟨u, h, ht, -, hu⟩ <;> rw [h]
  rw [settle_state (hu ▸ hp) (fun _ => ht.noneWaits hn), hu]

theorem settle_reliefEnds_state {s : State} (hp : s.run.state ≠ .priming) (hn : NoneWaits .linerChange s.queue) :
    (settle (reliefEnds s)).run.state = s.run.state := by
  obtain ⟨ht, -, hs⟩ := reliefEnds_effect s
  rw [settle_state (hs ▸ hp) (fun _ => ht.noneWaits hn), hs]

/-! #### Queued kinds -/

section
variable (header : Address) (e : Entry) (s : State)

/-- An arrival of a queued kind moves the feeder only to 0 and does not clear the congestion flag. -/
theorem request_feeder :
    ((onRequest header (enqueue e) s).drive.output = s.drive.output ∨ (onRequest header (enqueue e) s).drive.output = 0) ∧
    ((onRequest header (enqueue e) s).drive.setpoint = s.drive.setpoint ∨
      (onRequest header (enqueue e) s).drive.setpoint = 0) ∧
    (s.line.congested = true → (onRequest header (enqueue e) s).line.congested = true) :=
  onRequest_of (P := fun t => (t.drive.output = s.drive.output ∨ t.drive.output = 0) ∧
      (t.drive.setpoint = s.drive.setpoint ∨ t.drive.setpoint = 0) ∧ (s.line.congested = true → t.line.congested = true))
    ⟨.inl rfl, .inl rfl, id⟩ ⟨.inl rfl, .inl rfl, id⟩ (enqueue_eases e (frameEnds s))

theorem request_fixed :
    (onRequest header (enqueue e) s).fixed = s.fixed ∨ (onRequest header (enqueue e) s).fixed = (frameEnds s).fixed :=
  onRequest_of (P := fun t => t.fixed = s.fixed ∨ t.fixed = (frameEnds s).fixed) (.inl rfl) (.inr rfl)
    (.inr (enqueue_fixed e (frameEnds s)))

theorem request_wear (he : e.kind ≠ .linerChange) (hn : NoneWaits .linerChange s.queue) :
    (onRequest header (enqueue e) s).wear = s.wear :=
  onRequest_of (P := fun t => t.wear = s.wear) rfl rfl ((enqueue_spares e (frameEnds s)).1 he hn)

theorem request_target (he : e.kind ≠ .setGap) (hn : NoneWaits .setGap s.queue) :
    (onRequest header (enqueue e) s).gap.target = s.gap.target :=
  onRequest_of (P := fun t => t.gap.target = s.gap.target) rfl rfl ((enqueue_spares e (frameEnds s)).2 he hn)

theorem request_state (hp : s.run.state ≠ .priming) (hn : NoneWaits .linerChange s.queue) :
    (onRequest header (enqueue e) s).run.state = s.run.state :=
  onRequest_of (P := fun t => t.run.state = s.run.state) rfl rfl (enqueue_state e (s := frameEnds s) hp hn)

end

/-! #### RAMP_INTERVAL -/

/-- Beyond the output with its latch and timers a ramp interval only tests a waiting calibration (R90). -/
theorem rampInterval_cases (s : State) :
    Tame (setOutput (rampOutput s) { s with drive.timer := some rampPeriod }) (rampInterval s) ∧
    (rampInterval s).still = (setOutput (rampOutput s) { s with drive.timer := some rampPeriod }).still ∧
    (rampInterval s).run.state = s.run.state := by
  unfold rampInterval
  dsimp only
  split
  · exact ⟨internalCalibrationTest_tame (.refl _), internalCalibrationTest_still _, internalCalibrationTest_state _⟩
  · exact ⟨.refl _, rfl, rfl⟩

end Sys2Proof.Machine

/-! ### What each command leaves as it was -/

namespace Sys2Proof.Machine

/-- Every command writes of the fields that `State.fixed` keeps only those that it owns. -/
theorem exec_others {c : Instr} {s t : State} (h : exec c s = .next t) : othersOf c t.fixed = othersOf c s.fixed := by
  have hdemand : ∀ {u v : State}, u.undemanded = v.undemanded →
      ({ u.undemanded with line.receiver := .ready } : State) = { v.undemanded with line.receiver := .ready } :=
    fun h => by rw [h]
  have hrequest : ∀ (header : Address) (e : Entry),
      ({ (onRequest header (enqueue e) s).fixed with line.receiver := .ready } : State) =
        { s.fixed with line.receiver := .ready } := fun header e => by
    rcases request_fixed header e s with h | h <;> rw [h]
    rfl
  cases c with
  | reset =>
    cases h
    rw [memoryThroughReset_frame]
    rfl
  | startSequenceEnd straps memory => exact (execStartSequenceEnd_owns h).2 straps memory
  | readingEvent r =>
    cases h
    split
    exacts [readingEvent_others r s, rfl]
  | beltScalePulse =>
    cases h
    split
    exacts [pulse_others s, rfl]
  | seekPulseOffEnd =>
    cases h
    split
    exacts [pulseOffEnds_fixed s, rfl]
  | demand header p | run header p | stop header p =>
    cases h
    rcases takeDemand_undemanded header p _ s with h | h
    exacts [hdemand h, (hdemand h).trans rfl]
  | setGap header tag noRetry argument =>
    cases h
    exact hrequest _ _
  | calibrate header tag noRetry =>
    cases h
    exact hrequest _ _
  | linerChange header tag noRetry =>
    cases h
    exact hrequest _ _
  | rampInterval =>
    cases h
    split
    exacts [(congrArg (othersOf .rampInterval) (State.fixed_of_still (rampInterval_cases s).2.1)).trans rfl, rfl]
  | sharePeriodExpiry =>
    cases h
    split <;> rfl
  | frameSent =>
    cases h
    split
    · split
      · unfold frameSent
        rw [LinePort.takeNext_frame]
        rfl
      · rfl
    · rfl
  | _ => exact (exec_owns h rfl).others

/-! ### Feeder, queue and congestion flag -/

/-- The commands that do not ease: RESET, those that own output, setpoint or congestion flag, and the queued kinds. -/
def easesAll : Instr → Bool
  | .reset | .rampInterval | .sharePeriodExpiry | .frameSent | .setGap _ _ _ _ | .calibrate _ _ _
  | .linerChange _ _ _ => false
  | _ => true

theorem exec_eases {c : Instr} {s t : State} (h : exec c s = .next t) (hc : easesAll c = true) : Eases s t := by
  cases c with
  | startSequenceEnd straps memory => exact (execStartSequenceEnd_owns h).1
  | readingEvent r =>
    cases h
    split
    exacts [(readingEvent_tame r s).toEases, (Tame.refl s).toEases]
  | beltScalePulse =>
    cases h
    split
    exacts [(settle_wearChanged_tame (pulsed_tame s)).toEases, (Tame.refl s).toEases]
  | seekPulseOffEnd =>
    cases h
    split
    exacts [(pulseOffEnds_tame s).toEases, (Tame.refl s).toEases]
  | demand header p | run header p | stop header p =>
    cases h
    exact (takeDemand_tame header p _ s).toEases
  | reset | rampInterval | sharePeriodExpiry | frameSent | setGap | calibrate | linerChange => cases hc
  | _ => exact (exec_owns h rfl).toEases

/-- A ramp interval that is taken eases all but the output. -/
theorem exec_rampInterval_eases {s t : State} (h : exec .rampInterval s = .next t) :
    ∃ a, Eases { s with drive.output := a } t := by
  cases h
  split
  · have ht := (rampInterval_cases s).1.toEases
    exact ⟨rampOutput s, ht.output, ht.setpoint, ht.keys, ht.waiting, ht.congested⟩
  · exact ⟨_, (Tame.refl s).toEases⟩

theorem exec_sharePeriodExpiry_eases {s t : State} (h : exec .sharePeriodExpiry s = .next t) :
    ∃ r, Eases { s with drive.setpoint := r } t := by
  cases h
  split
  exacts [⟨_, .of_eq rfl rfl rfl rfl⟩, ⟨_, (Tame.refl s).toEases⟩]

/-- FRAME_SENT changes the Line Port alone. -/
theorem exec_frameSent_frame {s t : State} (h : exec .frameSent s = .next t) : t = { s with line := t.line } := by
  cases h
  split
  · split <;> rfl
  · rfl

section
variable {c : Instr} {s t : State} (h : exec c s = .next t) (hr : c ≠ .reset)
include h hr

/-- The output moves at a ramp interval, and otherwise only to 0 (R85, R87). -/
theorem exec_output (hc : c ≠ .rampInterval) : t.drive.output = s.drive.output ∨ t.drive.output = 0 := by
  cases c with
  | reset => exact absurd rfl hr
  | rampInterval => exact absurd rfl hc
  | sharePeriodExpiry =>
    obtain ⟨r, he⟩ := exec_sharePeriodExpiry_eases h
    exact he.output
  | frameSent =>
    rw [exec_frameSent_frame h]
    exact .inl rfl
  | setGap | calibrate | linerChange =>
    cases h
    exact (request_feeder _ _ s).1
  | _ => exact (exec_eases h rfl).output

/-- The setpoint moves at a share computation, and otherwise only to 0 (R54, R55). -/
theorem exec_setpoint (hc : c ≠ .sharePeriodExpiry) : t.drive.setpoint = s.drive.setpoint ∨ t.drive.setpoint = 0 := by
  cases c with
  | reset => exact absurd rfl hr
  | sharePeriodExpiry => exact absurd rfl hc
  | rampInterval =>
    obtain ⟨a, he⟩ := exec_rampInterval_eases h
    exact he.setpoint
  | frameSent =>
    rw [exec_frameSent_frame h]
    exact .inl rfl
  | setGap | calibrate | linerChange =>
    cases h
    exact (request_feeder _ _ s).2.1
  | _ => exact (exec_eases h rfl).setpoint

/-- Only a STATUS that is sent clears the congestion flag (R158). -/
theorem exec_congested (hc : c ≠ .frameSent) (hs : s.line.congested = true) : t.line.congested = true := by
  cases c with
  | reset => exact absurd rfl hr
  | frameSent => exact absurd rfl hc
  | rampInterval =>
    obtain ⟨a, he⟩ := exec_rampInterval_eases h
    exact he.congested hs
  | sharePeriodExpiry =>
    obtain ⟨r, he⟩ := exec_sharePeriodExpiry_eases h
    exact he.congested hs
  | setGap | calibrate | linerChange =>
    cases h
    exact (request_feeder _ _ s).2.2 hs
  | _ => exact (exec_eases h rfl).congested hs

/-- A receiver that is not told of an idle line or of an attempt stays, or waits for the line to be idle (R152). -/
theorem exec_receiver (h1 : c ≠ .lineIdle) (h2 : c ≠ .transmitAttempt) :
    t.line.receiver = s.line.receiver ∨ t.line.receiver = .waitingIdle := by
  have ho := exec_others h
  have hdemand : ∀ {u v : State}, u.undemanded = v.undemanded → u.line.receiver = v.line.receiver :=
    fun h => (congrArg (fun u : State => u.line.receiver) h :)
  have hrequest : ∀ (header : Address) (e : Entry), (onRequest header (enqueue e) s).line.receiver = s.line.receiver ∨
      (onRequest header (enqueue e) s).line.receiver = .waitingIdle := fun header e =>
    (request_fixed header e s).imp State.receiver_of_fixed (State.receiver_of_fixed (t := frameEnds s))
  cases c with
  | reset => exact absurd rfl hr
  | startSequenceEnd | readingEvent | beltScalePulse | seekPulseOffEnd | rampInterval | sharePeriodExpiry =>
    exact .inl (congrArg (fun u : State => u.line.receiver) ho :)
  | demand header p | run header p | stop header p =>
    cases h
    exact (takeDemand_undemanded header p _ s).imp hdemand (hdemand (v := frameEnds s))
  | setGap | calibrate | linerChange =>
    cases h
    exact hrequest _ _
  | frameSent =>
    cases h
    split
    · split
      · unfold frameSent
        rw [LinePort.takeNext_frame]
        exact .inr rfl
      · exact .inl rfl
    · exact .inl rfl
  | _ => exact (exec_owns h rfl).receiver h1 h2

end

/-! ### Totals, gap target and run state -/

/-- The commands that leave the reference and the totals while no LINER_CHANGE waits. -/
def sparesWear : Instr → Bool
  | .reset | .startSequenceEnd _ _ | .linerChange _ _ _ | .readingEvent _ | .seekPulseOffEnd | .beltScalePulse => false
  | _ => true

theorem exec_wear {c : Instr} {s t : State} (h : exec c s = .next t) (hn : NoneWaits .linerChange s.queue)
    (hc : sparesWear c = true) : t.wear = s.wear := by
  cases c with
  | demand header p | run header p | stop header p =>
    cases h
    exact takeDemand_wear header p _ hn
  | setGap | calibrate =>
    cases h
    exact request_wear _ _ s (by simp [entryOf]) hn
  | rampInterval =>
    cases h
    split
    exacts [(State.wear_of_still (rampInterval_cases s).2.1).trans rfl, rfl]
  | sharePeriodExpiry =>
    cases h
    split <;> rfl
  | frameSent =>
    rw [exec_frameSent_frame h]
    rfl
  | reset | startSequenceEnd | linerChange | readingEvent | seekPulseOffEnd | beltScalePulse => cases hc
  | _ => exact (exec_owns h rfl).wear hn

/-- The commands that leave the gap target while no SET_GAP waits. -/
def sparesTarget : Instr → Bool
  | .reset | .startSequenceEnd _ _ | .demand _ _ | .run _ _ | .stop _ _ | .setGap _ _ _ _ => false
  | _ => true

theorem exec_target {c : Instr} {s t : State} (h : exec c s = .next t) (hn : NoneWaits .setGap s.queue)
    (hc : sparesTarget c = true) : t.gap.target = s.gap.target := by
  cases c with
  | readingEvent r =>
    cases h
    split
    exacts [(readingEvent_kept r s).2 hn, rfl]
  | beltScalePulse =>
    cases h
    split
    exacts [(pulse_spares s).2 hn, rfl]
  | seekPulseOffEnd =>
    cases h
    split
    exacts [(pulseOffEnds_kept s).2 hn, rfl]
  | calibrate | linerChange =>
    cases h
    exact request_target _ _ s (by simp [entryOf]) hn
  | rampInterval =>
    cases h
    split
    exacts [(State.target_of_still (rampInterval_cases s).2.1).trans rfl, rfl]
  | sharePeriodExpiry =>
    cases h
    split <;> rfl
  | frameSent => rw [exec_frameSent_frame h]
  | reset | startSequenceEnd | demand | run | stop | setGap => cases hc
  | _ => exact (exec_owns h rfl).target hn

/-- The events that end with the start of a head, a move or a calibration, and have no other part in the run state. -/
def staysOutOfPriming : Instr → Bool
  | .beltScalePulse | .stallTimerExpiry | .seekPulseOffEnd | .settleTimerExpiry | .wordReady | .readyTimerExpiry
  | .setGap _ _ _ _ | .calibrate _ _ _ | .linerChange _ _ _ | .cancel _ _ _ => true
  | _ => false

theorem exec_state_of_settling {c : Instr} {s t : State} (h : exec c s = .next t) (hc : staysOutOfPriming c = true)
    (hn : NoneWaits .linerChange s.queue) (hp : s.run.state ≠ .priming) : t.run.state = s.run.state := by
  cases c with
  | beltScalePulse =>
    cases h
    split
    exacts [pulse_state hp hn, rfl]
  | stallTimerExpiry =>
    cases h
    split
    exacts [stall_state hp hn, rfl]
  | seekPulseOffEnd =>
    cases h
    split
    exacts [pulseOffEnds_state hp hn, rfl]
  | settleTimerExpiry =>
    cases h
    split
    · split
      exacts [settle_reliefEnds_state hp hn, rfl]
    · rfl
  | wordReady =>
    cases h
    dsimp only
    split
    exacts [wordReady_state _ (s := { s with memory := s.memory.finish }) hp hn, rfl]
  | readyTimerExpiry =>
    cases h
    split
    exacts [campaignEnds_state _ _ (s := giveUpWord _ s) hp hn, rfl]
  | setGap | calibrate | linerChange =>
    cases h
    exact request_state _ _ s hp hn
  | cancel header tag argument =>
    cases h
    exact onRequest_of (P := fun t => t.run.state = s.run.state) rfl rfl
      (cancelEntry_state header tag argument (s := frameEnds s) hp hn)
  | _ => cases hc

/-! ### Events that leave the records alone -/

/-- Queue, Fault Record, setting memory and its interface are as they were. -/
def SameRecords (s t : State) : Prop :=
  t.queue = s.queue ∧ t.faults = s.faults ∧ t.interface = s.interface ∧ t.memory = s.memory

/-- What a change of the activity or of the run state leaves of them. -/
theorem SameRecords.of_still {s t : State} (h : t.still = s.still) (hq : t.queue = s.queue) (hf : t.faults = s.faults) :
    SameRecords s t :=
  ⟨hq, hf, (congrArg State.interface h :), (congrArg State.memory h :)⟩

theorem changeRun_records (r : RunState) (s : State) : SameRecords s (changeRun r s) :=
  .of_still (changeRun_still r s) (changeRun_queue r s) (changeRun_faults r s)

theorem setActivity_records (act : Activity) (s : State) : SameRecords s (setActivity act s) :=
  .of_still (setActivity_still act s) (setActivity_queue act s) (setActivity_faults act s)

theorem internalCalibrationTest_records (s : State) : SameRecords s (internalCalibrationTest s) := by
  unfold internalCalibrationTest
  split
  exacts [setActivity_records _ s, ⟨rfl, rfl, rfl, rfl⟩]

theorem updateActivity_records (act : Activity) (s : State) : SameRecords s (updateActivity act s) := by
  unfold updateActivity emptyJumpIfOpening
  split <;> exact ⟨rfl, rfl, rfl, rfl⟩

theorem pulseOnEnds_records (s : State) : SameRecords s (pulseOnEnds s) := by
  unfold pulseOnEnds
  split
  · split
    · split
      exacts [updateActivity_records _ s, ⟨rfl, rfl, rfl, rfl⟩]
    · exact ⟨rfl, rfl, rfl, rfl⟩
  · exact ⟨rfl, rfl, rfl, rfl⟩

theorem rampInterval_records (s : State) : SameRecords s (rampInterval s) := by
  unfold rampInterval
  dsimp only
  split
  · exact internalCalibrationTest_records (setOutput (rampOutput s) { s with drive.timer := some rampPeriod })
  · exact ⟨rfl, rfl, rfl, rfl⟩

theorem holdFeed_records (header : Address) (tag : BitVec 3) (s : State) : SameRecords s (holdFeed header tag s) := by
  obtain ⟨o, u, h, rfl | ⟨-, rfl⟩⟩ := holdFeed_cases header tag s <;> rw [h]
  exacts [⟨rfl, rfl, rfl, rfl⟩, changeRun_records .held s]

theorem releaseFeed_records (header : Address) (tag : BitVec 3) (s : State) : SameRecords s (releaseFeed header tag s) := by
  obtain ⟨o, u, h, rfl | ⟨-, rfl⟩⟩ := releaseFeed_cases header tag s <;> rw [h]
  exacts [⟨rfl, rfl, rfl, rfl⟩, changeRun_records .running s]

/-- The events that leave queue, Fault Record and setting memory; all but HOLD_FEED and RELEASE_FEED leave the run state too. -/
def leavesRecords : Instr → Bool
  | .lineIdle | .frameDiscarded | .answerFrameReceived | .transmitAttempt | .frameSent | .collision _
  | .reportTimerExpiry | .ageingEvent | .sharePeriodExpiry | .rampInterval | .motorRunningRise | .seekPulseOnEnd
  | .holdFeed _ _ | .releaseFeed _ _ | .queryFault _ _ | .queryWear _ _ | .queryShare _ _ | .queryQueue _ _
  | .badKind _ _ _ _ => true
  | _ => false

theorem exec_records {c : Instr} {s t : State} (h : exec c s = .next t) (hc : leavesRecords c = true) :
    SameRecords s t := by
  have same : SameRecords s s := ⟨rfl, rfl, rfl, rfl⟩
  cases c with
  | lineIdle =>
    cases h
    exact same
  | frameDiscarded | answerFrameReceived =>
    cases h
    rcases onFrame_cases id s with h | h <;> rw [h] <;> exact same
  | transmitAttempt =>
    cases h
    split <;> exact same
  | frameSent =>
    rw [exec_frameSent_frame h]
    exact same
  | collision draw =>
    cases h
    split
    · split <;> exact same
    · exact same
  | reportTimerExpiry | ageingEvent | sharePeriodExpiry =>
    cases h
    split <;> exact same
  | rampInterval =>
    cases h
    split
    exacts [rampInterval_records s, same]
  | motorRunningRise =>
    cases h
    exact internalCalibrationTest_records { s with motorRunning := true }
  | seekPulseOnEnd =>
    cases h
    split
    exacts [pulseOnEnds_records s, same]
  | holdFeed header tag =>
    cases h
    exact onRequest_of (P := SameRecords s) same same (holdFeed_records header tag (frameEnds s))
  | releaseFeed header tag =>
    cases h
    exact onRequest_of (P := SameRecords s) same same (releaseFeed_records header tag (frameEnds s))
  | queryFault | queryWear | queryShare | queryQueue | badKind =>
    cases h
    exact onRequest_of (P := SameRecords s) same same same
  | _ => cases hc

/-- The events that have no part in the run state. -/
def leavesState : Instr → Bool
  | .holdFeed _ _ | .releaseFeed _ _ => false
  | .supplyLowFall => true
  | c => leavesRecords c

theorem exec_state {c : Instr} {s t : State} (h : exec c s = .next t) (hc : leavesState c = true) :
    t.run.state = s.run.state := by
  cases c with
  | frameDiscarded | answerFrameReceived =>
    cases h
    rcases onFrame_cases id s with h | h <;> rw [h]
    rfl
  | transmitAttempt | reportTimerExpiry | ageingEvent | sharePeriodExpiry =>
    cases h
    split <;> rfl
  | frameSent => rw [exec_frameSent_frame h]
  | collision draw =>
    cases h
    split
    · split <;> rfl
    · rfl
  | rampInterval =>
    cases h
    split
    exacts [(rampInterval_cases s).2.2, rfl]
  | motorRunningRise =>
    cases h
    exact internalCalibrationTest_state _
  | seekPulseOnEnd =>
    cases h
    split
    exacts [(pulseOnEnds_effect s).2.2, rfl]
  | supplyLowFall =>
    cases h
    exact startPending_state _
  | queryFault | queryWear | queryShare | queryQueue | badKind =>
    cases h
    exact onRequest_of (P := fun t => t.run.state = s.run.state) rfl rfl rfl
  | lineIdle =>
    cases h
    rfl
  | _ => cases hc

end Sys2Proof.Machine

/-! ### Field by field (O3) -/

namespace Sys2Proof.Machine

/-- What a command neither owns nor `State.fixed` blanks is as it was. -/
theorem exec_kept {α : Type} {c : Instr} {s t : State} (h : exec c s = .next t) {f : State → α}
    (hf : ∀ u, f (othersOf c u) = f u) : f t.fixed = f s.fixed := by
  rw [← hf, exec_others h, hf]

section
variable {c : Instr} {s t : State} (h : exec c s = .next t)
include h

/-- The waiting commands stay as they are. -/
theorem exec_pending : t.pending = s.pending := by
  exact exec_kept h (f := fun u => u.pending) fun u => by
    cases c <;> rfl

/-- The inputs move at their edges. -/
theorem exec_motorRunning (h1 : c ≠ .motorRunningFall) (h2 : c ≠ .motorRunningRise) :
    t.motorRunning = s.motorRunning := by
  exact exec_kept h (f := fun u => u.motorRunning) fun u => by
    cases c with
    | motorRunningFall => exact absurd rfl h1
    | motorRunningRise => exact absurd rfl h2
    | _ => rfl

theorem exec_supplyLow (h1 : c ≠ .supplyLowRise) (h2 : c ≠ .supplyLowFall) : t.supplyLow = s.supplyLow := by
  exact exec_kept h (f := fun u => u.supplyLow) fun u => by
    cases c with
    | supplyLowRise => exact absurd rfl h1
    | supplyLowFall => exact absurd rfl h2
    | _ => rfl

variable (hr : c ≠ .reset)
include hr

/-- No command moves the clock (R19). -/
theorem exec_clock : t.seconds = s.seconds ∧ t.millis = s.millis := by
  have hk := exec_kept h (f := fun u => (u.seconds, u.millis)) fun u => by
    cases c with
    | reset => exact absurd rfl hr
    | _ => rfl
  simp only [Prod.mk.injEq] at hk
  exact hk

/-- The configuration is read in the start sequence only (R161). -/
theorem exec_settings (h1 : ∀ straps memory, c ≠ .startSequenceEnd straps memory) :
    t.settings = s.settings ∧ t.stationNumber = s.stationNumber := by
  have hk := exec_kept h (f := fun u => (u.settings, u.stationNumber)) fun u => by
    cases c with
    | reset => exact absurd rfl hr
    | startSequenceEnd straps memory => exact absurd rfl (h1 _ _)
    | _ => rfl
  simp only [Prod.mk.injEq] at hk
  exact hk

/-- A load sample is formed at a window close only (R10). -/
theorem exec_sample (h1 : c ≠ .windowClose) : t.monitor.sample = s.monitor.sample := by
  exact exec_kept h (f := fun u => u.monitor.sample) fun u => by
    cases c with
    | reset => exact absurd rfl hr
    | windowClose => exact absurd rfl h1
    | _ => rfl

/-- Readings, validity states and tramp detection move at a reading event and a window close only (R5, R6, R131). -/
theorem exec_readings (h1 : ∀ r, c ≠ .readingEvent r) (h2 : c ≠ .windowClose) :
    t.monitor.validity = s.monitor.validity ∧ t.monitor.position = s.monitor.position ∧
    t.monitor.positionValid = s.monitor.positionValid ∧ t.gap.readingClock = s.gap.readingClock ∧ t.gap.armed = s.gap.armed ∧
    t.gap.lastDetection = s.gap.lastDetection := by
  have hk := exec_kept h (f := fun u => (u.monitor.validity, u.monitor.position, u.monitor.positionValid,
      u.gap.readingClock, u.gap.armed, u.gap.lastDetection)) fun u => by
    cases c with
    | reset => exact absurd rfl hr
    | readingEvent r => exact absurd rfl (h1 _)
    | windowClose => exact absurd rfl h2
    | _ => rfl
  simp only [Prod.mk.injEq] at hk
  exact hk

/-- The peer table moves at an ageing event and a STATUS only (R20, R24). -/
theorem exec_peers (h1 : c ≠ .ageingEvent) (h2 : ∀ header own p, c ≠ .statusArrival header own p) :
    t.peers.entries = s.peers.entries ∧ t.peers.lastDuplicate = s.peers.lastDuplicate := by
  have hk := exec_kept h (f := fun u => (u.peers.entries, u.peers.lastDuplicate)) fun u => by
    cases c with
    | reset => exact absurd rfl hr
    | ageingEvent => exact absurd rfl h1
    | statusArrival header own p => exact absurd rfl (h2 _ _ _)
    | _ => rfl
  simp only [Prod.mk.injEq] at hk
  exact hk

/-- The accepted demand and the span move at a DEMAND frame only (R36, R37). -/
theorem exec_demand (h1 : ∀ header p, c ≠ .demand header p)
    (h2 : ∀ header p, c ≠ .run header p) (h3 : ∀ header p, c ≠ .stop header p) :
    t.run.lastSequence = s.run.lastSequence ∧ t.run.target = s.run.target ∧ t.run.lastCommand = s.run.lastCommand ∧
    t.gap.span = s.gap.span := by
  have hk := exec_kept h (f := fun u => (u.run.lastSequence, u.run.target, u.run.lastCommand, u.gap.span)) fun u => by
    cases c with
    | reset => exact absurd rfl hr
    | demand header p => exact absurd rfl (h1 _ _)
    | run header p => exact absurd rfl (h2 _ _)
    | stop header p => exact absurd rfl (h3 _ _)
    | _ => rfl
  simp only [Prod.mk.injEq] at hk
  exact hk

/-- The share record, the latches and the trim factor move at a computation only (R54, R73). -/
theorem exec_share (h1 : c ≠ .sharePeriodExpiry) :
    t.share.record = s.share.record ∧ t.share.trim = s.share.trim ∧ t.share.pileFull = s.share.pileFull ∧
    t.share.pileEmpty = s.share.pileEmpty ∧ t.peers.selected = s.peers.selected ∧ t.peers.source = s.peers.source := by
  have hk := exec_kept h (f := fun u => (u.share.record, u.share.trim, u.share.pileFull, u.share.pileEmpty,
      u.peers.selected, u.peers.source)) fun u => by
    cases c with
    | reset => exact absurd rfl hr
    | sharePeriodExpiry => exact absurd rfl h1
    | _ => rfl
  simp only [Prod.mk.injEq] at hk
  exact hk

/-- The tramp list moves at a reading event and a CLEAR_FAULT only (R136, R148). -/
theorem exec_trampList (h1 : ∀ r, c ≠ .readingEvent r) (h2 : ∀ header tag, c ≠ .clearFault header tag) :
    t.gap.trampList = s.gap.trampList := by
  exact exec_kept h (f := fun u => u.gap.trampList) fun u => by
    cases c with
    | reset => exact absurd rfl hr
    | readingEvent r => exact absurd rfl (h1 _)
    | clearFault header tag => exact absurd rfl (h2 _ _)
    | _ => rfl

/-- The ramp interval timer restarts at its own event (R85). -/
theorem exec_driveTimer (h1 : c ≠ .rampInterval) (h2 : ∀ straps memory, c ≠ .startSequenceEnd straps memory) :
    t.drive.timer = s.drive.timer := by
  exact exec_kept h (f := fun u => u.drive.timer) fun u => by
    cases c with
    | reset => exact absurd rfl hr
    | rampInterval => exact absurd rfl h1
    | startSequenceEnd straps memory => exact absurd rfl (h2 _ _)
    | _ => rfl

/-- The report timer restarts at its own event (R156). -/
theorem exec_reportTimer (h1 : c ≠ .reportTimerExpiry) (h2 : ∀ straps memory, c ≠ .startSequenceEnd straps memory) :
    t.line.reportTimer = s.line.reportTimer := by
  exact exec_kept h (f := fun u => u.line.reportTimer) fun u => by
    cases c with
    | reset => exact absurd rfl hr
    | reportTimerExpiry => exact absurd rfl h1
    | startSequenceEnd straps memory => exact absurd rfl (h2 _ _)
    | _ => rfl

end

end Sys2Proof.Machine

/-! ### Edges, totals and the queue at the commands that own them -/

namespace Sys2Proof.Machine

theorem State.motorRunning_of_still {s t : State} (h : s.still = t.still) : s.motorRunning = t.motorRunning :=
  (congrArg State.motorRunning h :)

theorem State.supplyLow_of_fixed {s t : State} (h : s.fixed = t.fixed) : s.supplyLow = t.supplyLow :=
  (congrArg State.supplyLow h :)

/-- The motor input after its edges. -/
theorem exec_motorRunningFall {s t : State} (h : exec .motorRunningFall s = .next t) : t.motorRunning = false := by
  cases h
  dsimp only
  split
  exacts [State.motorRunning_of_still (report_still _ _ _), rfl]

theorem exec_motorRunningRise {s t : State} (h : exec .motorRunningRise s = .next t) : t.motorRunning = true := by
  cases h
  exact State.motorRunning_of_still (internalCalibrationTest_still _)

/-- The supply input after its edges. -/
theorem exec_supplyLowRise {s t : State} (h : exec .supplyLowRise s = .next t) : t.supplyLow = true := by
  cases h
  dsimp only
  split
  exacts [rfl, State.supplyLow_of_fixed (report_fixed _ _ _)]

theorem exec_supplyLowFall {s t : State} (h : exec .supplyLowFall s = .next t) : t.supplyLow = false := by
  cases h
  exact State.supplyLow_of_fixed (startPending_fixed _)

section
variable {s t : State} (h : t.wear = s.wear)
include h

theorem State.reference_of_wear : t.gap.reference = s.gap.reference ∧ t.gap.linerWear = s.gap.linerWear ∧
    t.gap.calCount = s.gap.calCount ∧ t.gap.lastShift = s.gap.lastShift :=
  ⟨(congrArg GapController.reference h :), (congrArg GapController.linerWear h :), (congrArg GapController.calCount h :),
    (congrArg GapController.lastShift h :)⟩

theorem State.wearAcc_of_wear : t.gap.wearAcc = s.gap.wearAcc := (congrArg GapController.wearAcc h :)

theorem State.linerTonnes_of_wear : t.gap.linerTonnes = s.gap.linerTonnes := (congrArg GapController.linerTonnes h :)

theorem State.wearUnknown_of_wear : t.gap.wearUnknown = s.gap.wearUnknown := (congrArg GapController.wearUnknown h :)

end

/-- A belt-scale pulse leaves all but wear accumulator and liner tonnes, while no LINER_CHANGE waits. -/
theorem exec_beltScalePulse_totals {s t : State} (h : exec .beltScalePulse s = .next t)
    (hn : NoneWaits .linerChange s.queue) :
    (t.gap.reference = s.gap.reference ∧ t.gap.linerWear = s.gap.linerWear ∧ t.gap.calCount = s.gap.calCount ∧
      t.gap.lastShift = s.gap.lastShift) ∧ t.gap.wearUnknown = s.gap.wearUnknown := by
  cases h
  split
  · obtain ⟨hwear, -⟩ := pulse_spares s
    have href := State.reference_of_wear (hwear hn)
    have hunknown := State.wearUnknown_of_wear (hwear hn)
    exact ⟨href, hunknown⟩
  · exact ⟨⟨rfl, rfl, rfl, rfl⟩, rfl⟩

/-- A contact at the end of a pulse leaves liner tonnes and WEAR_UNKNOWN, while no LINER_CHANGE waits. -/
theorem exec_seekPulseOffEnd_totals {s t : State} (h : exec .seekPulseOffEnd s = .next t)
    (hn : NoneWaits .linerChange s.queue) :
    t.gap.linerTonnes = s.gap.linerTonnes ∧ t.gap.wearUnknown = s.gap.wearUnknown := by
  cases h
  split
  exacts [(pulseOffEnds_kept s).1 hn, ⟨rfl, rfl⟩]

theorem exec_readingEvent_wearUnknown {r : Readings} {s t : State} (h : exec (.readingEvent r) s = .next t)
    (hn : NoneWaits .linerChange s.queue) : t.gap.wearUnknown = s.gap.wearUnknown := by
  cases h
  split
  exacts [(readingEvent_kept r s).1 hn, rfl]

theorem exec_windowClose_state {s t : State} (h : exec .windowClose s = .next t) (hn : NoneWaits .linerChange s.queue)
    (hp : s.run.state ≠ .priming) (hs : s.run.state ≠ .stopping) : t.run.state = s.run.state := by
  cases h
  split
  exacts [windowClose_state hp hs hn, rfl]

section
variable {c : Instr} {s t : State} (h : exec c s = .next t)
include h

/-- The queue gains entries by a queued request only (R142). -/
theorem exec_keys (hr : c ≠ .reset) (h1 : ∀ header tag noRetry argument, c ≠ .setGap header tag noRetry argument)
    (h2 : ∀ header tag noRetry, c ≠ .calibrate header tag noRetry)
    (h3 : ∀ header tag noRetry, c ≠ .linerChange header tag noRetry) :
    (t.queue.map Entry.key).Sublist (s.queue.map Entry.key) := by
  cases c with
  | reset => exact absurd rfl hr
  | setGap => exact absurd rfl (h1 _ _ _ _)
  | calibrate => exact absurd rfl (h2 _ _ _)
  | linerChange => exact absurd rfl (h3 _ _ _)
  | rampInterval =>
    obtain ⟨a, he⟩ := exec_rampInterval_eases h
    exact he.keys
  | sharePeriodExpiry =>
    obtain ⟨r, he⟩ := exec_sharePeriodExpiry_eases h
    exact he.keys
  | frameSent =>
    rw [exec_frameSent_frame h]
  | _ => exact (exec_eases h rfl).keys

end

theorem exec_lineIdle_receiver {s t : State} (h : exec .lineIdle s = .next t) : t.line.receiver = .ready := by
  cases h
  rfl

theorem exec_transmitAttempt_receiver {s t : State} (h : exec .transmitAttempt s = .next t) :
    t.line.receiver = s.line.receiver ∨ t.line.receiver = .reading := by
  cases h
  split
  exacts [.inr rfl, .inl rfl]

theorem exec_startSequenceEnd_receiver {straps : BitVec 5} {memory : StartMemory} {s t : State}
    (h : exec (.startSequenceEnd straps memory) s = .next t) : t.line.receiver = s.line.receiver :=
  exec_kept h (f := fun u => u.line.receiver) fun _ => rfl

/-! ### Reference, wear and totals while no LINER_CHANGE waits (R118) -/

section
variable {c : Instr} {s t : State} (h : exec c s = .next t) (hr : c ≠ .reset) (hn : NoneWaits .linerChange s.queue)
  (h1 : ∀ straps memory, c ≠ .startSequenceEnd straps memory) (h2 : ∀ header tag noRetry, c ≠ .linerChange header tag noRetry)
include h hr hn h1 h2

theorem exec_reference (h3 : ∀ r, c ≠ .readingEvent r) (h4 : c ≠ .seekPulseOffEnd) :
    t.gap.reference = s.gap.reference ∧ t.gap.linerWear = s.gap.linerWear ∧ t.gap.calCount = s.gap.calCount ∧
      t.gap.lastShift = s.gap.lastShift := by
  cases c with
  | reset => exact absurd rfl hr
  | startSequenceEnd => exact absurd rfl (h1 _ _)
  | linerChange => exact absurd rfl (h2 _ _ _)
  | readingEvent => exact absurd rfl (h3 _)
  | seekPulseOffEnd => exact absurd rfl h4
  | beltScalePulse => exact (exec_beltScalePulse_totals h hn).1
  | _ => exact State.reference_of_wear (exec_wear h hn rfl)

theorem exec_wearAcc (h3 : ∀ r, c ≠ .readingEvent r) (h4 : c ≠ .seekPulseOffEnd) (h5 : c ≠ .beltScalePulse) :
    t.gap.wearAcc = s.gap.wearAcc := by
  cases c with
  | reset => exact absurd rfl hr
  | startSequenceEnd => exact absurd rfl (h1 _ _)
  | linerChange => exact absurd rfl (h2 _ _ _)
  | readingEvent => exact absurd rfl (h3 _)
  | seekPulseOffEnd => exact absurd rfl h4
  | beltScalePulse => exact absurd rfl h5
  | _ => exact State.wearAcc_of_wear (exec_wear h hn rfl)

theorem exec_linerTonnes (h3 : ∀ r, c ≠ .readingEvent r) (h4 : c ≠ .beltScalePulse) :
    t.gap.linerTonnes = s.gap.linerTonnes := by
  cases c with
  | reset => exact absurd rfl hr
  | startSequenceEnd => exact absurd rfl (h1 _ _)
  | linerChange => exact absurd rfl (h2 _ _ _)
  | readingEvent => exact absurd rfl (h3 _)
  | beltScalePulse => exact absurd rfl h4
  | seekPulseOffEnd => exact (exec_seekPulseOffEnd_totals h hn).1
  | _ => exact State.linerTonnes_of_wear (exec_wear h hn rfl)

theorem exec_wearUnknown : t.gap.wearUnknown = s.gap.wearUnknown := by
  cases c with
  | reset => exact absurd rfl hr
  | startSequenceEnd => exact absurd rfl (h1 _ _)
  | linerChange => exact absurd rfl (h2 _ _ _)
  | readingEvent => exact exec_readingEvent_wearUnknown h hn
  | seekPulseOffEnd => exact (exec_seekPulseOffEnd_totals h hn).2
  | beltScalePulse => exact (exec_beltScalePulse_totals h hn).2
  | _ => exact State.wearUnknown_of_wear (exec_wear h hn rfl)

end

/-! ### The statement (O3) -/

/-- Settles O3: what `State.fixed` keeps is written only by the command that owns it (`exec_kept`); feeder, queue and congestion flag
follow `Eases`; totals, gap target and run state change at the end of an event only by a head that waited. -/
theorem commandsChangeOnlyWhatTheyOwn : Obligations.CommandsChangeOnlyWhatTheyOwn := by
  unfold Obligations.CommandsChangeOnlyWhatTheyOwn
  intro c s t h
  refine ⟨exec_pending h, ?motor, ?supply, fun hr => ?kept⟩
  case motor =>
    split
    · exact exec_motorRunningFall h
    · exact exec_motorRunningRise h
    · next h1 h2 => exact exec_motorRunning h h1 h2
  case supply =>
    split
    · exact exec_supplyLowRise h
    · exact exec_supplyLowFall h
    · next h1 h2 => exact exec_supplyLow h h1 h2
  obtain ⟨hseconds, hmillis⟩ := exec_clock h hr
  refine ⟨hseconds, hmillis, ?settings, exec_sample h hr, ?readings, ?peers, ?demand, exec_share h hr,
    ?tramps, exec_output h hr, exec_setpoint h hr, ?driveTimer, ?keys, ?receiver, ?reportTimer,
    exec_congested h hr, ?records, fun hn => ⟨?totals, ?wearAcc, ?linerTonnes, ?wearUnknown, ?settling⟩,
    fun hn => ?target, ?state⟩
  case settings =>
    split
    · trivial
    · next h1 => exact exec_settings h hr h1
  case readings =>
    split
    · trivial
    · trivial
    · next h1 h2 => exact exec_readings h hr h1 h2
  case peers =>
    split
    · trivial
    · trivial
    · next h1 h2 => exact exec_peers h hr h1 h2
  case demand =>
    split
    · trivial
    · trivial
    · trivial
    · next h1 h2 h3 => exact exec_demand h hr h1 h2 h3
  case tramps =>
    split
    · trivial
    · trivial
    · next h1 h2 => exact exec_trampList h hr h1 h2
  case driveTimer =>
    split
    · trivial
    · trivial
    · next h1 h2 => exact exec_driveTimer h hr h1 h2
  case keys =>
    split
    · trivial
    · trivial
    · trivial
    · next h1 h2 h3 => exact exec_keys h hr h1 h2 h3
  case reportTimer =>
    split
    · trivial
    · trivial
    · next h1 h2 => exact exec_reportTimer h hr h1 h2
  case records =>
    cases c with
    | lineIdle | frameDiscarded | answerFrameReceived | transmitAttempt | frameSent | collision | reportTimerExpiry
    | ageingEvent | sharePeriodExpiry | rampInterval | motorRunningRise | seekPulseOnEnd | holdFeed | releaseFeed
    | queryFault | queryWear | queryShare | queryQueue | badKind => exact exec_records h rfl
    | _ => exact trivial
  case receiver =>
    split
    · exact exec_lineIdle_receiver h
    · exact exec_transmitAttempt_receiver h
    · exact exec_startSequenceEnd_receiver h
    · next h1 h2 _ => exact exec_receiver h hr h1 h2
  case totals =>
    split
    · trivial
    · trivial
    · trivial
    · trivial
    · next h1 h2 h3 h4 => exact exec_reference h hr hn h1 h2 h3 h4
  case wearAcc =>
    split
    · trivial
    · trivial
    · trivial
    · trivial
    · trivial
    · next h1 h2 h3 h4 h5 => exact exec_wearAcc h hr hn h1 h2 h3 h4 h5
  case linerTonnes =>
    split
    · trivial
    · trivial
    · trivial
    · trivial
    · next h1 h2 h3 h4 => exact exec_linerTonnes h hr hn h1 h2 h3 h4
  case wearUnknown =>
    split
    · trivial
    · trivial
    · next h1 h2 => exact exec_wearUnknown h hr hn h1 h2
  case settling =>
    cases c with
    | windowClose => exact exec_windowClose_state h hn
    | beltScalePulse | stallTimerExpiry | seekPulseOffEnd | settleTimerExpiry | wordReady | readyTimerExpiry | setGap
    | calibrate | linerChange | cancel => exact exec_state_of_settling h rfl hn
    | _ => exact trivial
  case target =>
    cases c with
    | reset => exact absurd rfl hr
    | startSequenceEnd | demand | run | stop | setGap => trivial
    | _ => exact exec_target h hn rfl
  case state =>
    cases c with
    | lineIdle | frameDiscarded | answerFrameReceived | transmitAttempt | frameSent | collision | reportTimerExpiry
    | ageingEvent | sharePeriodExpiry | rampInterval | motorRunningRise | seekPulseOnEnd | supplyLowFall
    | queryFault | queryWear | queryShare | queryQueue | badKind => exact exec_state h rfl
    | _ => exact trivial

end Sys2Proof.Machine

/-! ## An active station stays active until its next reset (R1, R19, R38) -/

namespace Sys2Proof.Machine

/-! ### Changes of the run state -/

/-- Whether the station is active is read off its run state. -/
theorem State.active_of_state {s t : State} (h : t.run.state = s.run.state) (hs : s.active = true) : t.active = true :=
  (congrArg RunState.active h).trans hs

theorem changeRun_active {r : RunState} (hr : r.active = true) (s : State) : (changeRun r s).active = true := by
  rw [State.active, changeRun_state, hr]

theorem report_active (k : FaultKind) (trips : Bool) {s : State} (h : s.active = true) :
    (report k trips s).active = true := by
  rw [State.active, report_state]
  split
  exacts [rfl, h]

/-- A run state that is entered is active, and so is TRIPPED, which stands in for it where the motor is missing (R48). -/
theorem enterRun_active {r : RunState} (hr : r.active = true) (s : State) : (enterRun r s).active = true := by
  rw [State.active, enterRun_state]
  split
  exacts [rfl, hr]

theorem finishStopping_active (s : State) : (finishStopping s).active = true :=
  State.active_of_state (requestRecord_state _) (changeRun_active rfl s)

theorem setReference_active (r : Reference) {s : State} (h : s.active = true) : (setReference r s).active = true := by
  unfold setReference
  extract_lets _ u v
  have hu : u.active = true := State.active_of_state (holdW_state _) h
  have hv : v.active = true := by
    unfold v
    split
    exacts [State.active_of_state (setActivity_state _ u) hu, hu]
  split
  · exact hu
  · split
    exacts [changeRun_active rfl v, hv]

/-! ### The end of an event -/

theorem startHead_active {s : State} (h : s.active = true) : (startHead s).active = true := by
  unfold startHead
  split
  · exact h
  · dsimp only
    split
    · exact State.active_of_state (startSetGap_state _ _) h
    · exact State.active_of_state (startRequestedCalibration_state _) h
    · exact State.active_of_state (requestRecord_state _) (setReference_active .unreferenced h)

theorem startHeads_active (n : Nat) {s : State} (h : s.active = true) : (startHeads n s).active = true := by
  induction n generalizing s with
  | zero => exact h
  | succ n ih =>
    unfold startHeads
    split
    exacts [ih (startHead_active h), h]

theorem settle_active {s : State} (h : s.active = true) : (settle s).active = true := by
  have htested : (moveTest (internalCalibrationTest (startHeads s.queue.length s))).active = true :=
    State.active_of_state ((moveTest_state _).trans (internalCalibrationTest_state _)) (startHeads_active _ h)
  unfold settle primingTest
  split
  exacts [enterRun_active rfl _, htested]

/-! ### Readings and window close -/

theorem breakChecks_active (r : Readings) {s : State} (h : s.active = true) : (breakChecks r s).active = true := by
  have hpower : (breakPower (loopInRange r.power) s).active = true :=
    (congrArg (fun u : RunControl => u.state.active) (breakPower_run _ s)).trans h
  have hpressure : ∀ ok {u : State}, u.active = true → (breakPressure ok u).active = true := fun ok u hu => by
    unfold breakPressure
    split
    exacts [report_active _ _ hu, hu]
  have hposition : ∀ ok {u : State}, u.active = true → (breakPosition ok u).active = true := fun ok u hu => by
    unfold breakPosition
    split
    exacts [report_active _ _ hu, hu]
  refine hposition _ ?_
  rw [State.active, breakPile_run, breakCavity_run]
  exact hpressure _ hpower

theorem calibrationFails_active (k : CalKind) {s : State} (h : s.active = true) : (calibrationFails k s).active = true := by
  have hstopped : (stopCalibration s).active = true := State.active_of_state (stopCalibration_state s) h
  cases k with
  | internal => exact report_active _ _ hstopped
  | requested => exact State.active_of_state (endActiveOf_state _ _ _) (report_active _ _ hstopped)

@[simp] theorem backingArrival_state (s : State) : (backingArrival s).run.state = s.run.state := by
  unfold backingArrival
  split
  · split
    · split <;> simp
    · rfl
  · rfl

@[simp] theorem reclosingArrival_state (s : State) : (reclosingArrival s).run.state = s.run.state := by
  unfold reclosingArrival
  split
  · split <;> simp
  · rfl

theorem calibrationReading_active (pressure : Option Nat) (c : Calibration) (p : Nat) {s : State} (h : s.active = true) :
    (calibrationReading pressure c p s).active = true := by
  unfold calibrationReading
  split
  · split
    exacts [State.active_of_state (updateActivity_state _ s) h, h]
  · split
    · exact State.active_of_state (contact_state _ _ s) h
    · split
      exacts [calibrationFails_active _ h, h]
  · dsimp only
    have harrived : (backingArrival s).active = true := State.active_of_state (backingArrival_state s) h
    split
    · split
      exacts [State.active_of_state (updateActivity_state _ _) harrived, harrived]
    · exact harrived

theorem activityReading_active (pressure position : Option Nat) {s : State} (h : s.active = true) :
    (activityReading pressure position s).active = true := by
  unfold activityReading
  split
  · refine State.active_of_state ?_ h
    unfold settleReading
    split <;> simp
  · refine State.active_of_state ?_ h
    unfold moveReading
    dsimp only
    split <;> simp
  · refine State.active_of_state ?_ h
    unfold reclosingReading
    dsimp only
    split <;> simp
  · exact calibrationReading_active _ _ _ h
  · exact h

theorem trampReading_active (pressure : Option Nat) {s : State} (h : s.active = true) :
    (trampReading pressure s).active = true := by
  have hdetected : (detectTramp s).active = true := by
    unfold detectTramp
    extract_lets list _ u v w
    have hw : w.active = true := State.active_of_state (s := s) (by simp [w, v, u]) h
    split
    exacts [report_active _ _ hw, hw]
  unfold trampReading
  extract_lets now kept added
  split
  · split
    exacts [hdetected, h]
  · split <;> exact h

theorem estimateTonnage_active (output : Nat) {s : State} (h : s.active = true) :
    (estimateTonnage output s).active = true := by
  unfold estimateTonnage
  split <;> exact h

theorem settle_wearChanged_active {s : State} (h : s.active = true) : (settle (wearChanged s)).active = true :=
  settle_active (State.active_of_state (wearChanged_state s) h)

theorem readingEvent_active (r : Readings) {s : State} (h : s.active = true) : (readingEvent r s).active = true := by
  have hsensed : (sensed r s).active = true := by
    rw [State.active, sensed, notePosition_run]
    exact breakChecks_active r (s := noteReading r (advanceReadingClock s)) h
  rw [readingEvent_eq]
  exact settle_wearChanged_active
    (estimateTonnage_active _ (trampReading_active _ (activityReading_active _ _ hsensed)))

theorem windowClose_active {s : State} (h : s.active = true) : (windowClose s).active = true := by
  have htaken : (historyTakes (closingSample s) (reopened s)).active = true := by
    rw [historyTakes_frame]
    exact h
  rw [windowClose_eq]
  refine settle_active ?_
  unfold clearTakes
  split
  exacts [finishStopping_active _, htaken]

/-! ### Demands and requests -/

@[simp] theorem testW_state (s : State) : (testW s).run.state = s.run.state := by
  unfold testW
  split <;> simp

@[simp] theorem targetChanged_state (s : State) : (targetChanged s).run.state = s.run.state := by
  unfold targetChanged
  split <;> simp

@[simp] theorem gapTargetArrives_state (n : Nat) (s : State) : (gapTargetArrives n s).run.state = s.run.state := by
  unfold gapTargetArrives
  dsimp only
  rw [targetChanged_state]
  dsimp only
  split <;> simp

@[simp] theorem spanArrives_state (n : Nat) (s : State) : (spanArrives n s).run.state = s.run.state := by
  unfold spanArrives
  split <;> simp

@[simp] theorem storeDemand_state (p : DemandPayload) (s : State) : (storeDemand p s).run.state = s.run.state := by
  unfold storeDemand
  extract_lets _ u v
  have hv : v.run.state = s.run.state := by
    unfold v
    split
    · split
      exacts [gapTargetArrives_state _ u, rfl]
    · rfl
  split
  · split
    exacts [(spanArrives_state _ v).trans hv, hv]
  · exact hv

theorem beginRun_active (s : State) : (beginRun s).active = true := by
  unfold beginRun
  split
  exacts [enterRun_active rfl s, changeRun_active rfl s]

theorem actStop_active {s : State} (h : s.active = true) : (actStop s).active = true := by
  unfold actStop
  split
  · exact enterRun_active rfl s
  · exact enterRun_active rfl s
  · refine State.active_of_state ?_ (enterRun_active (r := .stopping) rfl s)
    unfold abortInternal beginStop
    split
    · split <;> simp
    · rfl
  · exact h

theorem actCommand_active (c : Option Command) {s : State} (h : s.active = true) : (actCommand c s).active = true := by
  unfold actCommand
  split
  · exact h
  · unfold actRun
    split
    exacts [beginRun_active _, beginRun_active _, h]
  · exact actStop_active (s := { s with run.lastCommand := some .stop }) h

theorem takeDemand_active (header : Address) (p : DemandPayload) (c : Option Command) {s : State} (h : s.active = true) :
    (takeDemand header p c s).active = true := by
  refine takeDemand_of (P := fun t => t.active = true) h h ?_
  have hacted : (actCommand c (storeDemand p (frameEnds s))).active = true :=
    actCommand_active c (State.active_of_state (storeDemand_state p _) h)
  unfold actDemand
  dsimp only
  rw [if_pos hacted]
  exact settle_active hacted

theorem enqueue_active (e : Entry) {s : State} (h : s.active = true) : (enqueue e s).active = true := by
  rcases enqueue_cases e s with ⟨a, hq⟩ | ⟨-, a, hq⟩ <;> rw [hq]
  exacts [h, settle_active (s := State.answer a (appended e s)) h]

theorem cancelEntry_active (header : Address) (tag : BitVec 3) (argument : Word) {s : State} (h : s.active = true) :
    (cancelEntry header tag argument s).active = true := by
  rcases cancelEntry_cases header tag argument s with ⟨o, hc⟩ | ⟨u, -, -, hu, hc⟩ <;> rw [hc]
  · exact h
  · exact settle_active (s := answerNow header tag (some .cancel) .done u) (State.active_of_state hu h)

theorem holdFeed_active (header : Address) (tag : BitVec 3) {s : State} (h : s.active = true) :
    (holdFeed header tag s).active = true := by
  obtain ⟨o, u, hc, rfl | ⟨-, rfl⟩⟩ := holdFeed_cases header tag s <;> rw [hc]
  exacts [h, changeRun_active (r := .held) rfl s]

theorem releaseFeed_active (header : Address) (tag : BitVec 3) {s : State} (h : s.active = true) :
    (releaseFeed header tag s).active = true := by
  obtain ⟨o, u, hc, rfl | ⟨-, rfl⟩⟩ := releaseFeed_cases header tag s <;> rw [hc]
  exacts [h, changeRun_active (r := .running) rfl s]

theorem clearFault_active (header : Address) (tag : BitVec 3) {s : State} (h : s.active = true) :
    (clearFault header tag s).active = true := by
  have hcleared : (clearAccepted s).active = true := by
    unfold clearAccepted
    extract_lets _ u v
    have hv : v.active = true := by
      unfold v
      split
      exacts [changeRun_active rfl u, h]
    split
    exacts [State.active_of_state (setActivity_state _ v) hv, hv]
  unfold clearFault
  split
  · exact h
  · exact settle_active (s := answerNow header tag (some .clearFault) .done (clearAccepted s)) hcleared

theorem takeStatus_active (source : Nat) (p : StatusPayload) {s : State} (h : s.active = true) :
    (takeStatus source p s).active = true := by
  unfold takeStatus
  split
  · exact h
  · split
    · exact report_active _ _ (s := { s with peers.lastDuplicate := some s.seconds }) h
    · split <;> exact h

/-! ### Timers and campaigns -/

theorem stall_active {s : State} (h : s.active = true) : (stall s).active = true := by
  rcases stall_cases s with hc | ⟨u, hc, -, -, hu⟩ <;> rw [hc]
  exacts [h, settle_active (State.active_of_state hu h)]

theorem seekLimitExpires_active {s : State} (h : s.active = true) : (seekLimitExpires s).active = true := by
  unfold seekLimitExpires
  split
  · split
    exacts [settle_active (calibrationFails_active _ h), h]
  · exact h

theorem pulseOffEnds_active {s : State} (h : s.active = true) : (pulseOffEnds s).active = true := by
  rcases pulseOffEnds_cases s with ⟨-, -, hs⟩ | ⟨k, p, hc⟩
  · exact State.active_of_state hs h
  · rw [hc]
    exact settle_active (State.active_of_state (contact_state k p s) h)

theorem campaignEnds_active (e : CampaignEnd) (c : Campaign) {s : State} (h : s.active = true) :
    (campaignEnds e c s).active = true := by
  obtain ⟨u, hc, -, -, -, -, hu⟩ := campaignEnds_cases e c s
  rw [hc]
  exact settle_active (State.active_of_state hu h)

theorem wordReady_active (c : Campaign) {s : State} (h : s.active = true) : (wordReady c s).active = true := by
  have hcut : (cutShort c s).active = true := by
    rw [cutShort_frame]
    exact h
  unfold wordReady
  split
  · exact campaignEnds_active _ _ h
  · split
    exacts [campaignEnds_active _ _ hcut, h]

/-! ### Every command -/

/-- Only a reset takes a station out of the run states in which its blocks are active. -/
theorem exec_active {c : Instr} {s t : State} (h : exec c s = .next t) (hr : c ≠ .reset) (hs : s.active = true) :
    t.active = true := by
  cases c with
  | reset => exact absurd rfl hr
  | startSequenceEnd straps memory =>
    cases h
    rw [if_neg fun hstart => by simp [State.active, hstart, RunState.active] at hs]
    exact hs
  | readingEvent r =>
    cases h
    rw [if_pos hs]
    exact readingEvent_active r hs
  | beltScalePulse =>
    cases h
    split
    exacts [settle_wearChanged_active (s := pulsed s) hs, hs]
  | windowClose =>
    cases h
    rw [if_pos hs]
    exact windowClose_active hs
  | statusArrival header own p =>
    cases h
    rcases onFrame_cases (fun s => if s.addressed header ∧ own = false ∧ p.codesDefined ∧ s.active then
      takeStatus header.source.toNat p s else s) s with h | h <;> rw [h]
    · exact hs
    · split
      exacts [takeStatus_active _ _ hs, hs]
  | demand header p | run header p | stop header p =>
    cases h
    exact takeDemand_active _ _ _ hs
  | setGap | calibrate | linerChange =>
    cases h
    exact onRequest_of (P := fun t => t.active = true) hs hs (enqueue_active _ (s := frameEnds s) hs)
  | cancel header tag argument =>
    cases h
    exact onRequest_of (P := fun t => t.active = true) hs hs (cancelEntry_active _ _ _ (s := frameEnds s) hs)
  | holdFeed header tag =>
    cases h
    exact onRequest_of (P := fun t => t.active = true) hs hs (holdFeed_active _ _ (s := frameEnds s) hs)
  | releaseFeed header tag =>
    cases h
    exact onRequest_of (P := fun t => t.active = true) hs hs (releaseFeed_active _ _ (s := frameEnds s) hs)
  | clearFault header tag =>
    cases h
    exact onRequest_of (P := fun t => t.active = true) hs hs (clearFault_active _ _ (s := frameEnds s) hs)
  | motorRunningFall =>
    cases h
    dsimp only
    split
    exacts [report_active _ _ (s := { s with motorRunning := false }) hs, hs]
  | primingTimerExpiry =>
    cases h
    split
    exacts [report_active _ _ (s := { s with run.primingTimer := none }) hs, hs]
  | clearTimerExpiry =>
    cases h
    split
    exacts [finishStopping_active s, hs]
  | stallTimerExpiry =>
    cases h
    split
    exacts [stall_active hs, hs]
  | seekLimitExpiry =>
    cases h
    split
    exacts [seekLimitExpires_active hs, hs]
  | seekPulseOffEnd =>
    cases h
    split
    exacts [pulseOffEnds_active hs, hs]
  | settleTimerExpiry =>
    cases h
    split
    · rw [if_pos hs]
      exact settle_active (State.active_of_state (reliefEnds_effect s).2.2 hs)
    · exact hs
  | readyTimerExpiry =>
    cases h
    split
    exacts [campaignEnds_active _ _ (s := giveUpWord _ s) hs, hs]
  | wordReady =>
    cases h
    dsimp only
    split
    exacts [wordReady_active _ (s := { s with memory := s.memory.finish }) hs, hs]
  | supplyLowRise =>
    cases h
    dsimp only
    split
    · exact hs
    · exact report_active _ _ (s := { s with
        supplyLow := true, interface.campaign := s.interface.campaign.map (fun c => { c with cutOff := true }) }) hs
  | _ => exact State.active_of_state (exec_state h rfl) hs

end Sys2Proof.Machine

/-! ## The Peer Table (O14 to O16) -/

namespace Sys2Proof.Machine

/-! ### An entry placed in number order (R17, R21) -/

theorem self_mem_enterPeer (e : PeerEntry) (l : List PeerEntry) : e ∈ enterPeer e l := by
  induction l with
  | nil => exact List.mem_singleton_self e
  | cons f rest ih =>
    unfold enterPeer
    split
    · exact List.mem_cons_self
    · split
      exacts [List.mem_cons_self, List.mem_cons_of_mem f ih]

theorem mem_of_mem_enterPeer {e x : PeerEntry} {l : List PeerEntry} (h : x ∈ enterPeer e l) : x = e ∨ x ∈ l := by
  induction l with
  | nil => exact .inl (List.mem_singleton.1 h)
  | cons f rest ih =>
    unfold enterPeer at h
    split at h
    · exact List.mem_cons.1 h
    · split at h
      · exact (List.mem_cons.1 h).imp_right (List.mem_cons_of_mem f)
      · rcases List.mem_cons.1 h with rfl | h
        exacts [.inr List.mem_cons_self, (ih h).imp_right (List.mem_cons_of_mem f)]

/-- Entries of other numbers are neither made nor removed. -/
theorem mem_enterPeer_of_ne {e x : PeerEntry} (hx : x.number ≠ e.number) (l : List PeerEntry) :
    x ∈ enterPeer e l ↔ x ∈ l := by
  have hne : x ≠ e := fun h => hx (congrArg PeerEntry.number h)
  refine ⟨fun h => (mem_of_mem_enterPeer h).resolve_left hne, fun h => ?_⟩
  induction l with
  | nil => exact absurd h List.not_mem_nil
  | cons f rest ih =>
    unfold enterPeer
    split
    · exact List.mem_cons_of_mem e h
    · split
      · next hf =>
        have hxf : x ≠ f := fun h => hx (h ▸ hf.symm)
        exact List.mem_cons_of_mem e ((List.mem_cons.1 h).resolve_left hxf)
      · rcases List.mem_cons.1 h with rfl | h
        exacts [List.mem_cons_self, List.mem_cons_of_mem f (ih h)]

/-- Entries in rising order of number: one entry per number. -/
abbrev NumberOrder (l : List PeerEntry) : Prop := l.Pairwise (fun a b => a.number < b.number)

theorem enterPeer_numberOrder (e : PeerEntry) {l : List PeerEntry} (h : NumberOrder l) : NumberOrder (enterPeer e l) := by
  induction l with
  | nil => exact List.pairwise_singleton _ e
  | cons f rest ih =>
    obtain ⟨hf, hrest⟩ := List.pairwise_cons.1 h
    unfold enterPeer
    split
    · next hlt =>
      refine List.pairwise_cons.2 ⟨fun x hx => ?_, h⟩
      rcases List.mem_cons.1 hx with rfl | hx
      exacts [hlt, hlt.trans (hf x hx)]
    · next hle =>
      split
      · next heq => exact List.pairwise_cons.2 ⟨fun x hx => heq ▸ hf x hx, hrest⟩
      · next hne =>
        refine List.pairwise_cons.2 ⟨fun x hx => ?_, ih hrest⟩
        rcases mem_of_mem_enterPeer hx with rfl | hx
        exacts [by omega, hf x hx]

/-! ### Ageing (R24 to R26) -/

/-- An entry that an ageing event does not remove: 100 ms more of silence, and SILENT beyond three of its own periods. -/
def PeerEntry.aged (e : PeerEntry) : PeerEntry :=
  { e with silence := e.silence + 100
           entryState := if 3 * e.reportPeriod < e.silence + 100 then .silent else e.entryState }

theorem ageEntry_eq_some {forgetMs : Nat} {e e' : PeerEntry} :
    ageEntry forgetMs e = some e' ↔ e.silence + 100 ≤ forgetMs ∧ e' = e.aged := by
  unfold ageEntry
  dsimp only
  split
  · next h => exact ⟨nofun, fun h' => absurd h (Nat.not_lt.2 h'.1)⟩
  · next h => exact ⟨fun h' => ⟨Nat.not_lt.1 h, (Option.some.inj h').symm⟩, fun h' => h'.2 ▸ rfl⟩

theorem mem_aged_iff {forgetMs : Nat} {l : List PeerEntry} {e' : PeerEntry} :
    e' ∈ l.filterMap (ageEntry forgetMs) ↔ ∃ e ∈ l, e.silence + 100 ≤ forgetMs ∧ e' = e.aged := by
  simp only [List.mem_filterMap, ageEntry_eq_some]

theorem aged_numberOrder (forgetMs : Nat) {l : List PeerEntry} (h : NumberOrder l) :
    NumberOrder (l.filterMap (ageEntry forgetMs)) := by
  refine List.Pairwise.filterMap _ (fun a b hab a' ha b' hb => ?_) h
  obtain ⟨-, rfl⟩ := ageEntry_eq_some.1 ha
  obtain ⟨-, rfl⟩ := ageEntry_eq_some.1 hb
  exact hab

theorem execAgeingEvent_of_active {s : State} (h : s.active = true) :
    exec .ageingEvent s = .next { s with
      peers.entries := s.peers.entries.filterMap (ageEntry (s.settings.forgetTime * 1000))
      peers.ageing := some ageingPeriod } :=
  congrArg Host.Outcome.next (if_pos h)

/-- Settles O15: `ageEntry` keeps an entry within the forget time and changes it as `PeerEntry.aged` says. -/
theorem ageingRemovesAndSilences : Obligations.AgeingRemovesAndSilences := by
  unfold Obligations.AgeingRemovesAndSilences
  intro s hactive
  exact ⟨_, execAgeingEvent_of_active hactive, rfl, fun e' => mem_aged_iff⟩

/-! ### A duplicate number (R28) -/

/-- Beyond the time of the duplicate its event writes only what a report does. -/
theorem duplicateEvent_fixed (s : State) :
    (duplicateEvent s).fixed = ({ s with peers.lastDuplicate := some s.seconds } : State).fixed :=
  report_fixed _ _ _

theorem duplicateEvent_entries (s : State) : (duplicateEvent s).peers.entries = s.peers.entries :=
  (congrArg (fun u : State => u.peers.entries) (duplicateEvent_fixed s) :)

theorem duplicateEvent_lastDuplicate (s : State) : (duplicateEvent s).peers.lastDuplicate = some s.seconds :=
  (congrArg (fun u : State => u.peers.lastDuplicate) (duplicateEvent_fixed s) :)

/-- A duplicate number trips a station whose blocks are active (R49). -/
theorem duplicateEvent_state {s : State} (h : s.active = true) : (duplicateEvent s).run.state = .tripped := by
  rw [duplicateEvent, report_state]
  by_cases ht : s.run.state = .tripped
  · simp [ht]
  · exact if_pos ⟨rfl, RunState.trippable_of_active h ht⟩

/-! ### A STATUS at the table (R20 to R23) -/

theorem within_iff {lo n hi : Nat} : within lo n hi = true ↔ lo ≤ n ∧ n ≤ hi := by
  simp [within]

/-- The period of a report comes in units of 100 ms, so R20 only bounds it. -/
theorem periodAcceptable_iff (p : StatusPayload) :
    periodAcceptable p.periodMs = true ↔ 200 ≤ p.reportPeriod.toNat * 100 ∧ p.reportPeriod.toNat * 100 ≤ 2000 := by
  simp [periodAcceptable, within_iff, StatusPayload.periodMs]

theorem takeStatus_of_badNumber {source : Nat} (p : StatusPayload) (s : State) (h : ¬ (1 ≤ source ∧ source ≤ 30)) :
    takeStatus source p s = s :=
  if_pos (by rw [← Bool.not_eq_true, within_iff]; exact h)

section
variable {source : Nat} {p : StatusPayload} {s : State} (hnumber : 1 ≤ source ∧ source ≤ 30)
include hnumber

theorem takeStatus_own (h : source = s.stationNumber) : takeStatus source p s = duplicateEvent s := by
  rw [takeStatus, if_neg (by simp [within_iff.2 hnumber]), if_pos h]

theorem takeStatus_entered (h : source ≠ s.stationNumber) (hp : periodAcceptable p.periodMs = true) :
    takeStatus source p s =
      { s with peers.entries := enterPeer (peerEntryOf s.settings source p) s.peers.entries } := by
  rw [takeStatus, if_neg (by simp [within_iff.2 hnumber]), if_neg h, if_pos hp]

end

theorem takeStatus_of_badPeriod {source : Nat} {p : StatusPayload} {s : State} (h : source ≠ s.stationNumber)
    (hp : periodAcceptable p.periodMs = false) : takeStatus source p s = s := by
  simp [takeStatus, h, hp]

/-- What a STATUS that the table is given does to the entries: nothing, or the sender's entry is placed. -/
theorem takeStatus_entries (source : Nat) (p : StatusPayload) (s : State) :
    (takeStatus source p s).peers.entries = s.peers.entries ∨
      (1 ≤ source ∧ source ≤ 30 ∧ source ≠ s.stationNumber) ∧
        (takeStatus source p s).peers.entries = enterPeer (peerEntryOf s.settings source p) s.peers.entries := by
  by_cases hnumber : 1 ≤ source ∧ source ≤ 30
  · by_cases hown : source = s.stationNumber
    · rw [takeStatus_own hnumber hown]
      exact .inl (duplicateEvent_entries s)
    · by_cases hp : periodAcceptable p.periodMs = true
      · rw [takeStatus_entered hnumber hown hp]
        exact .inr ⟨⟨hnumber.1, hnumber.2, hown⟩, rfl⟩
      · rw [takeStatus_of_badPeriod hown (by simpa using hp)]
        exact .inl rfl
  · rw [takeStatus_of_badNumber p s hnumber]
    exact .inl rfl

/-- What a STATUS frame does to the entries: nothing, or the sender's entry is placed in the active table. -/
theorem execStatusArrival_entries {header : Address} {own : Bool} {p : StatusPayload} {s t : State}
    (h : exec (.statusArrival header own p) s = .next t) :
    t.peers.entries = s.peers.entries ∨
      s.active = true ∧ (1 ≤ header.source.toNat ∧ header.source.toNat ≤ 30 ∧ header.source.toNat ≠ s.stationNumber) ∧
        t.peers.entries = enterPeer (peerEntryOf s.settings header.source.toNat p) s.peers.entries := by
  cases h
  rcases onFrame_cases (fun s => if s.addressed header ∧ own = false ∧ p.codesDefined ∧ s.active then
    takeStatus header.source.toNat p s else s) s with h | h <;> rw [h]
  · exact .inl rfl
  · split
    · next hc => exact (takeStatus_entries _ p (frameEnds s)).imp_right fun he => ⟨hc.2.2.2, he⟩
    · exact .inl rfl

/-- A STATUS that the Line Port hands on reaches the table. -/
theorem execStatusArrival_taken {header : Address} {p : StatusPayload} {s : State} (hactive : s.active = true)
    (hreceiver : s.line.receiver ≠ .waitingIdle) (haddressed : s.addressed header = true)
    (hcodes : p.codesDefined = true) :
    exec (.statusArrival header false p) s = .next (takeStatus header.source.toNat p (frameEnds s)) := by
  rw [exec, execStatusArrival, onFrame_taken _ hreceiver]
  exact congrArg Host.Outcome.next (if_pos ⟨haddressed, rfl, hcodes, hactive⟩)

theorem code_of_runStateOf {b : Byte} (h : (runStateOf b).isSome = true) :
    ((runStateOf b).getD .idle).code = b.toNat := by
  obtain ⟨r, hr⟩ := Option.isSome_iff_exists.1 h
  have hcode : r.code = b.toNat := of_decide_eq_true (List.find?_some hr :)
  simpa [hr] using hcode

theorem agree_iff {a b mask : Byte} : agree a b mask = true ↔ (a ^^^ b) &&& mask = 0 := by
  simp [agree]

/-- Settles O14: from another number the entry is `peerEntryOf`, placed by `enterPeer`; from the own number a `duplicateEvent`. -/
theorem reportEntersThePeerOrIsADuplicate : Obligations.ReportEntersThePeerOrIsADuplicate := by
  unfold Obligations.ReportEntersThePeerOrIsADuplicate
  intro header p s hactive hreceiver haddressed hcodes hlow hhigh
  have htaken := execStatusArrival_taken hactive hreceiver haddressed hcodes
  refine ⟨fun hother hmin hmax => ?other, fun hown => ?own⟩
  case own =>
    rw [takeStatus_own (s := frameEnds s) ⟨hlow, hhigh⟩ hown] at htaken
    exact ⟨_, htaken, duplicateEvent_lastDuplicate _, report_noted _ _ _, duplicateEvent_state (s := frameEnds s) hactive,
      duplicateEvent_entries _⟩
  case other =>
    rw [takeStatus_entered (s := frameEnds s) ⟨hlow, hhigh⟩ hother
      ((periodAcceptable_iff p).2 ⟨hmin, hmax⟩)] at htaken
    have hrun : (runStateOf p.runState).isSome = true := by
      simp only [StatusPayload.codesDefined, Bool.and_eq_true] at hcodes
      exact hcodes.1.1.1.2
    refine ⟨_, htaken, rfl, fun e he => mem_enterPeer_of_ne he _, peerEntryOf s.settings header.source.toNat p,
      self_mem_enterPeer _ _, rfl, fun hk => ?_, fun hk => ?_, rfl, code_of_runStateOf hrun, rfl, rfl, rfl, rfl, rfl, rfl,
      rfl, ?_, agree_iff⟩
    · simp [peerEntryOf, stageOf, hk]
    · simp [peerEntryOf, stageOf, hk]
    · simp [peerEntryOf, agree_iff]

/-! ### The table's invariant (R17) -/

/-- `PeersSafe` depends on the entries, the station number and the run state. -/
theorem PeersSafe.of_entries {s t : State} (h : PeersSafe s) (hentries : t.peers.entries = s.peers.entries)
    (hnumber : t.stationNumber = s.stationNumber) (hactive : s.active = true → t.active = true) : PeersSafe t := by
  obtain ⟨horder, hvalid, hnone⟩ := h
  unfold PeersSafe
  rw [hentries, hnumber]
  refine ⟨horder, hvalid, fun ht => hnone ?_⟩
  by_contra hs
  simp [hactive (by simpa using hs)] at ht

theorem PeersSafe.of_nil {s : State} (h : s.peers.entries = []) : PeersSafe s := by
  simp [PeersSafe, h]

/-- New entries in number order, each of a valid number, of a station that is active. -/
theorem PeersSafe.of_active {s : State} (horder : NumberOrder s.peers.entries)
    (hvalid : ∀ e ∈ s.peers.entries, 1 ≤ e.number ∧ e.number ≤ 30 ∧ e.number ≠ s.stationNumber)
    (hactive : s.active = true) : PeersSafe s :=
  ⟨horder, hvalid, fun h => by simp [hactive] at h⟩

theorem tick_peersSafe {s : State} (h : PeersSafe s) : PeersSafe (tick s) := h

theorem reset_peersSafe {s t : State} (h : exec .reset s = .next t) : PeersSafe t := by
  cases h
  exact .of_nil rfl

/-- The start sequence finds no entries, or the station past it and does nothing (R161). -/
theorem startSequenceEnd_peersSafe {straps : BitVec 5} {memory : StartMemory} {s t : State} (hs : PeersSafe s)
    (h : exec (.startSequenceEnd straps memory) s = .next t) : PeersSafe t := by
  by_cases hstart : s.run.state = .starting
  · obtain ⟨hentries, -⟩ := exec_peers h nofun nofun nofun
    exact .of_nil (hentries.trans (hs.2.2 (by simp [State.active, hstart, RunState.active])))
  · have hsame : exec (.startSequenceEnd straps memory) s = .next s := congrArg Host.Outcome.next (if_neg hstart)
    cases hsame.symm.trans h
    exact hs

theorem ageingEvent_peersSafe {s t : State} (hs : PeersSafe s) (h : exec .ageingEvent s = .next t) : PeersSafe t := by
  by_cases hactive : s.active = true
  · cases (execAgeingEvent_of_active hactive).symm.trans h
    obtain ⟨horder, hvalid, -⟩ := hs
    refine .of_active (aged_numberOrder _ horder) (fun e' he' => ?_) hactive
    obtain ⟨e, he, -, rfl⟩ := mem_aged_iff.1 he'
    exact hvalid e he
  · have hsame : exec .ageingEvent s = .next s := congrArg Host.Outcome.next (if_neg hactive)
    cases hsame.symm.trans h
    exact hs

theorem statusArrival_peersSafe {header : Address} {own : Bool} {p : StatusPayload} {s t : State} (hs : PeersSafe s)
    (h : exec (.statusArrival header own p) s = .next t) : PeersSafe t := by
  obtain ⟨-, hnumber⟩ := exec_settings h nofun nofun
  rcases execStatusArrival_entries h with hentries | ⟨hactive, hsource, hentries⟩
  · exact hs.of_entries hentries hnumber (exec_active h nofun)
  · obtain ⟨horder, hvalid, -⟩ := hs
    refine .of_active (hentries ▸ enterPeer_numberOrder _ horder) (fun e he => ?_) (exec_active h nofun hactive)
    rw [hnumber]
    rcases mem_of_mem_enterPeer (hentries ▸ he) with rfl | he
    exacts [hsource, hvalid e he]

/-- Every command keeps the table's invariant: the table moves at an ageing event and a STATUS only, the station number at a start
only, and an active station stays active. -/
theorem exec_peersSafe {c : Instr} {s t : State} (hs : PeersSafe s) (h : exec c s = .next t) : PeersSafe t := by
  cases c with
  | reset => exact reset_peersSafe h
  | startSequenceEnd straps memory => exact startSequenceEnd_peersSafe hs h
  | ageingEvent => exact ageingEvent_peersSafe hs h
  | statusArrival header own p => exact statusArrival_peersSafe hs h
  | _ => exact hs.of_entries (exec_peers h nofun nofun nofun).1 (exec_settings h nofun nofun).2 (exec_active h nofun)

/-- Settles O16: a millisecond leaves the table, and every command keeps it (`exec_peersSafe`). -/
theorem peerTableStaysOrdered : Obligations.PeerTableStaysOrdered := by
  unfold Obligations.PeerTableStaysOrdered
  intro s t hs h
  unfold step at h
  split at h
  · cases h
    exact tick_peersSafe hs
  · next c rest _ => exact exec_peersSafe (s := { s with pending := rest }) hs h

end Sys2Proof.Machine

/-! ## The pile level and its factor (O26) -/

namespace Sys2Proof.Machine

/-- A LIVE entry with a pile level, which R31 may take its level from. -/
def PeerEntry.Reports (e : PeerEntry) : Prop := e.entryState = .live ∧ e.pile.isSome = true

theorem PeerEntry.reports_iff (e : PeerEntry) : (e.live && e.pile.isSome) = true ↔ e.Reports := by
  simp [PeerEntry.live, PeerEntry.Reports]

/-- In a table in number order the search finds the lowest-numbered of the entries sought. -/
theorem find?_of_lowest {p : PeerEntry → Bool} {l : List PeerEntry} {e : PeerEntry} (horder : NumberOrder l) (he : e ∈ l)
    (hp : p e = true) (hlow : ∀ e' ∈ l, p e' = true → e.number ≤ e'.number) : l.find? p = some e := by
  induction l with
  | nil => exact absurd he List.not_mem_nil
  | cons f rest ih =>
    obtain ⟨hf, hrest⟩ := List.pairwise_cons.1 horder
    rcases List.mem_cons.1 he with rfl | he
    · exact List.find?_cons_of_pos hp
    · have hpf : ¬ p f = true := fun hpf =>
        absurd (hf e he) (Nat.not_lt.2 (hlow f List.mem_cons_self hpf))
      rw [List.find?_cons_of_neg hpf]
      exact ih hrest he fun e' he' => hlow e' (List.mem_cons_of_mem f he')

/-- The level that the peers give is the lowest-numbered reporting entry's (R31). -/
theorem peerLevel_of_lowest {l : List PeerEntry} {e : PeerEntry} {level : Nat} (horder : NumberOrder l) (he : e ∈ l)
    (hr : e.Reports) (hpile : e.pile = some level) (hlow : ∀ e' ∈ l, e'.Reports → e.number ≤ e'.number) :
    peerLevel l = some (level, e.number) := by
  have hfind := find?_of_lowest horder he (e.reports_iff.2 hr) fun e' he' hp => hlow e' he' (e'.reports_iff.1 hp)
  simp [peerLevel, hfind, hpile]

theorem peerLevel_of_none {l : List PeerEntry} (h : ∀ e ∈ l, ¬ e.Reports) : peerLevel l = none := by
  have hfind : l.find? (fun e => e.live && e.pile.isSome) = none :=
    List.find?_eq_none.2 fun e he hp => h e he (e.reports_iff.1 hp)
  rw [peerLevel, hfind]
  rfl

/-! ### The selection (R31) -/

/-- The own pile level: the latest sample's, where a pile input is fitted. -/
def State.ownLevel (s : State) : Option Nat := if s.settings.pileInput then s.monitor.sample.bind (·.pile) else none

theorem selectLevel_of_own {s : State} {x : Nat} (h : s.ownLevel = some x) : selectLevel s = (some x, .own) := by
  unfold State.ownLevel at h
  simp only [selectLevel, h]

theorem selectLevel_of_peer {s : State} {x n : Nat} (h : s.ownLevel = none) (hp : peerLevel s.peers.entries = some (x, n)) :
    selectLevel s = (some x, .peer n) := by
  unfold State.ownLevel at h
  simp only [selectLevel, h, hp]

theorem selectLevel_of_unknown {s : State} (h : s.ownLevel = none) (hp : peerLevel s.peers.entries = none) :
    selectLevel s = (none, .none) := by
  unfold State.ownLevel at h
  simp only [selectLevel, h, hp]

/-! ### Stage 1 (R57 to R59) -/

theorem stage1_of_unknown (c : Settings) (full empty : Bool) :
    stage1 c full empty none =
      { full := full, empty := empty
        factor := if (if c.kind = .primary then full else empty) = true then 0 else c.blindFactor } := rfl

theorem stage1_of_primary {c : Settings} (h : c.kind = .primary) (full empty : Bool) (level : Nat) :
    stage1 c full empty (some level) =
      { full := pileFullAfter c full level, empty := empty
        factor := primaryFactor c (pileFullAfter c full level) level } := if_pos h

theorem stage1_of_secondary {c : Settings} (h : c.kind = .secondary) (full empty : Bool) (level : Nat) :
    stage1 c full empty (some level) =
      { full := full, empty := pileEmptyAfter c empty level
        factor := secondaryFactor c (pileEmptyAfter c empty level) level } := if_neg (by simp [h])

/-- Neither stage touches the other's latch. -/
theorem stage1_empty_of_primary {c : Settings} (h : c.kind = .primary) (full empty : Bool) (level : Option Nat) :
    (stage1 c full empty level).empty = empty := by
  cases level with
  | none => rfl
  | some l => rw [stage1_of_primary h]

theorem stage1_full_of_secondary {c : Settings} (h : c.kind = .secondary) (full empty : Bool) (level : Option Nat) :
    (stage1 c full empty level).full = full := by
  cases level with
  | none => rfl
  | some l => rw [stage1_of_secondary h]

/-! ### The computation -/

theorem execSharePeriodExpiry_of_active {s : State} (h : s.active = true) :
    exec .sharePeriodExpiry s = .next (shareComputation s) := congrArg Host.Outcome.next (if_pos h)

/-- The share record takes the level selected, with its source. -/
theorem shareRecordOf_level {s : State} {level : Option Nat} {source : LevelSource} (h : selectLevel s = (level, source)) :
    (shareRecordOf s).level = level ∧ (shareRecordOf s).source = source :=
  ⟨congrArg Prod.fst h, congrArg Prod.snd h⟩

/-- The computation takes latches and factor from Stage 1 at the level of the record. -/
theorem shareComputation_stage1 {s : State} {level : Option Nat} {r : LevelResult} (hlevel : (shareRecordOf s).level = level)
    (h : stage1 s.settings s.share.pileFull s.share.pileEmpty level = r) :
    (shareComputation s).share.pileFull = r.full ∧ (shareComputation s).share.pileEmpty = r.empty ∧
      (shareRecordOf s).factor = r.factor := by
  subst hlevel h
  exact ⟨rfl, rfl, rfl⟩

/-- Settles O26: the level is `selectLevel`'s, latches and factor are `stage1`'s. -/
theorem levelFactorFollowsThePileLevel : Obligations.LevelFactorFollowsThePileLevel := by
  unfold Obligations.LevelFactorFollowsThePileLevel
  intro s hactive c reporting
  refine ⟨_, shareRecordOf s, execSharePeriodExpiry_of_active hactive, rfl, fun l x hsample hinput hpile => ?own,
    fun horder hown => ?others, Option.isNone_iff_eq_none, rfl, rfl,
    fun hlevel => ?blind, fun hkind _ => ⟨stage1_empty_of_primary hkind _ _ _, fun level hlevel => ?primary⟩,
    fun hkind _ => ⟨stage1_full_of_secondary hkind _ _ _, fun level hlevel => ?secondary⟩⟩
  case own => exact shareRecordOf_level (selectLevel_of_own (by simp [State.ownLevel, hinput, hsample, hpile]))
  case others =>
    have hnone : s.ownLevel = none := by
      rcases hown with h | h | ⟨l, h, hpile⟩
      · simp [State.ownLevel, h]
      · simp [State.ownLevel, h]
      · simp [State.ownLevel, h, hpile]
    refine ⟨fun e he hlow => ?peer, fun hunknown => ?unknown⟩
    case peer =>
      obtain ⟨hmem, hreports⟩ := he
      obtain ⟨level, hpile⟩ := Option.isSome_iff_exists.1 hreports.2
      rw [hpile]
      exact shareRecordOf_level (selectLevel_of_peer hnone
        (peerLevel_of_lowest horder hmem hreports hpile fun e' he' hr => hlow e' ⟨he', hr⟩))
    case unknown =>
      exact shareRecordOf_level (selectLevel_of_unknown hnone
        (peerLevel_of_none fun e he hr => hunknown e ⟨he, hr⟩))
  case blind => exact shareComputation_stage1 hlevel (stage1_of_unknown _ _ _)
  case primary =>
    obtain ⟨hfull, -, hfactor⟩ := shareComputation_stage1 hlevel (stage1_of_primary hkind _ _ level)
    rw [hfactor, hfull]
    exact ⟨rfl, rfl⟩
  case secondary =>
    obtain ⟨-, hempty, hfactor⟩ := shareComputation_stage1 hlevel (stage1_of_secondary hkind _ _ level)
    rw [hfactor, hempty]
    exact ⟨rfl, rfl⟩

end Sys2Proof.Machine

/-! ## Frames that the station cannot use (O51) -/

namespace Sys2Proof.Machine

theorem frameEnds_of_waiting {s : State} (h : s.line.receiver = .waitingIdle) : frameEnds s = s := by
  rw [frameEnds, ← h]

/-- A frame that would change nothing once it has ended is discarded, whatever the receiver does. -/
theorem onFrame_discarded {act : State → State} {s : State} (h : act (frameEnds s) = frameEnds s) :
    onFrame act s = frameEnds s := by
  by_cases hw : s.line.receiver = .waitingIdle
  · rw [onFrame_waiting act hw, frameEnds_of_waiting hw]
  · rw [onFrame_taken act hw, h]

theorem onRequest_discarded {header : Address} (act : State → State) {s : State}
    (h : s.addressedAlone header = false ∨ s.active = false) : onRequest header act s = frameEnds s := by
  have hnot : ¬ (frameEnds s).takesRequest header = true := by
    change ¬ s.takesRequest header = true
    rcases h with h | h <;> simp [State.takesRequest, h]
  exact onFrame_discarded (if_neg hnot)

/-- The REQUEST rows of one frame's operands. -/
def requestRows (header : Address) (tag : BitVec 3) (noRetry : Bool) (code : Byte) (argument : Word) : List Instr :=
  [.setGap header tag noRetry argument, .calibrate header tag noRetry, .linerChange header tag noRetry,
   .cancel header tag argument, .holdFeed header tag, .releaseFeed header tag, .clearFault header tag,
   .queryFault header tag, .queryWear header tag, .queryShare header tag, .queryQueue header tag,
   .badKind header tag code argument]

/-- Each REQUEST row hands its own effect to `onRequest`. -/
theorem exec_requestRows {header : Address} {tag : BitVec 3} {noRetry : Bool} {code : Byte} {argument : Word} {c : Instr}
    (h : c ∈ requestRows header tag noRetry code argument) (s : State) :
    ∃ act, exec c s = .next (onRequest header act s) := by
  simp only [requestRows, List.mem_cons, List.not_mem_nil, or_false] at h
  rcases h with rfl | rfl | rfl | rfl | rfl | rfl | rfl | rfl | rfl | rfl | rfl | rfl <;> exact ⟨_, rfl⟩

/-- The other rows of received frames. -/
def otherFrameRows (header : Address) (own : Bool) (p : StatusPayload) (d : DemandPayload) : List Instr :=
  [.statusArrival header own p, .demand header d, .run header d, .stop header d, .answerFrameReceived, .frameDiscarded]

/-- Each of them hands its own effect to `onFrame`. -/
theorem exec_otherFrameRows {header : Address} {own : Bool} {p : StatusPayload} {d : DemandPayload} {c : Instr}
    (h : c ∈ otherFrameRows header own p d) (s : State) : ∃ act, exec c s = .next (onFrame act s) := by
  simp only [otherFrameRows, List.mem_cons, List.not_mem_nil, or_false] at h
  rcases h with rfl | rfl | rfl | rfl | rfl | rfl <;> exact ⟨_, rfl⟩

/-- What bars a STATUS from the table: at the Line Port (R152) or by number and period (R20). -/
theorem execStatusArrival_discarded {header : Address} {own : Bool} {p : StatusPayload} {s : State}
    (h : s.addressed header = false ∨ own = true ∨ p.codesDefined = false ∨ s.active = false ∨
      header.source.toNat = 0 ∨ 30 < header.source.toNat ∨
      (header.source.toNat ≠ s.stationNumber ∧
        (p.reportPeriod.toNat * 100 < 200 ∨ 2000 < p.reportPeriod.toNat * 100))) :
    exec (.statusArrival header own p) s = .next (frameEnds s) := by
  refine congrArg Host.Outcome.next (onFrame_discarded (ite_eq_right_iff.2 fun hc => ?_))
  obtain ⟨haddressed, hown, hcodes, hactive⟩ := hc
  change s.addressed header = true at haddressed
  change s.active = true at hactive
  rcases h with h | h | h | h | h | h | ⟨hother, hperiod⟩
  · simp [h] at haddressed
  · simp [h] at hown
  · simp [h] at hcodes
  · simp [h] at hactive
  · exact takeStatus_of_badNumber _ _ (by omega)
  · exact takeStatus_of_badNumber _ _ (by omega)
  · refine takeStatus_of_badPeriod (s := frameEnds s) hother ?_
    rw [← Bool.not_eq_true, periodAcceptable_iff]
    omega

/-- Settles O51: an unusable frame ends at the receiver and is taken up by nothing, and one that comes while the receiver waits is
not even begun. -/
theorem unusableFramesAreDiscarded : Obligations.UnusableFramesAreDiscarded := by
  unfold Obligations.UnusableFramesAreDiscarded
  intro header own p d tag noRetry code argument s discarded requests
  have hnone : exec .frameDiscarded s = discarded := congrArg Host.Outcome.next (onFrame_discarded rfl)
  refine ⟨hnone, hnone, execStatusArrival_discarded, fun h c hc => ?_, fun hw c hc => ?_⟩
  · obtain ⟨act, hact⟩ := exec_requestRows hc s
    exact hact.trans (congrArg Host.Outcome.next (onRequest_discarded act h))
  · rcases List.mem_append.1 hc with hc | hc
    · obtain ⟨act, hact⟩ := exec_requestRows hc s
      exact hact.trans (congrArg Host.Outcome.next (onFrame_waiting _ hw))
    · obtain ⟨act, hact⟩ := exec_otherFrameRows hc s
      exact hact.trans (congrArg Host.Outcome.next (onFrame_waiting act hw))

end Sys2Proof.Machine

/-! ## Run Control and the Fault Record stay consistent (O4, O24) -/

namespace Sys2Proof.Machine

/-- The part of `RunSafe` that every single operation keeps (R43, R46, R48, R49, R150); only the end of an event restores its last
part (R42). -/
structure RunOrder (s : State) : Prop where
  motor   : s.run.state.motorRequired = true → s.motorRunning = true
  tripped : s.run.state = .tripped → s.queue = [] ∧ s.gapState ≠ .moving ∧ s.gapState ≠ .calibrating
  priming : s.run.state = .priming ↔ s.run.primingTimer.isSome = true
  clear   : s.run.clearTimer.isSome = true → s.run.state = .stopping

/-- The station waits in PRIMING at HOLDING with a reference, which R42 lets no event leave behind. -/
def State.Primed (s : State) : Prop := s.run.state = .priming ∧ s.gap.reference.present = true ∧ s.gapState = .holding

theorem runSafe_iff (s : State) : RunSafe s ↔ RunOrder s ∧ ¬ s.Primed :=
  ⟨fun ⟨h1, h2, h3, h4, h5⟩ => ⟨⟨h1, h2, h3, h4⟩, h5⟩, fun ⟨⟨h1, h2, h3, h4⟩, h5⟩ => ⟨h1, h2, h3, h4, h5⟩⟩

/-- What the operations keep: a consistent Fault Record (R166) and a consistent Run Control. -/
structure KeepsOrder (s t : State) : Prop where
  faults : FaultsSafe s → FaultsSafe t
  run    : RunOrder s → RunOrder t

/-- A gap state that a TRIPPED station may be in (R106, R126). -/
def GapState.standsTripped (g : GapState) : Prop := g ≠ .moving ∧ g ≠ .calibrating

@[refl] theorem KeepsOrder.refl (s : State) : KeepsOrder s s := ⟨id, id⟩

theorem KeepsOrder.trans {s t u : State} (h : KeepsOrder s t) (h' : KeepsOrder t u) : KeepsOrder s u :=
  ⟨h'.faults ∘ h.faults, h'.run ∘ h.run⟩

theorem RunOrder.of_eq {s t : State} (h : RunOrder s) (hs : t.run.state = s.run.state)
    (hp : t.run.primingTimer = s.run.primingTimer) (hc : t.run.clearTimer = s.run.clearTimer)
    (hm : t.motorRunning = s.motorRunning) (hq : s.queue = [] → t.queue = [])
    (hg : s.run.state = .tripped → t.gapState.standsTripped) : RunOrder t where
  motor := by rw [hs, hm]; exact h.motor
  tripped ht := ⟨hq (h.tripped (hs ▸ ht)).1, hg (hs ▸ ht)⟩
  priming := by rw [hs, hp]; exact h.priming
  clear := by rw [hs, hc]; exact h.clear

/-- A write to other fields. -/
theorem KeepsOrder.plain {s t u : State} (h : KeepsOrder s t) (hf : u.faults = t.faults := by rfl)
    (hs : u.run.state = t.run.state := by rfl) (hp : u.run.primingTimer = t.run.primingTimer := by rfl)
    (hc : u.run.clearTimer = t.run.clearTimer := by rfl) (hm : u.motorRunning = t.motorRunning := by rfl)
    (hq : u.queue = t.queue := by rfl) (hg : u.gap.activity = t.gap.activity := by rfl) : KeepsOrder s u := by
  refine h.trans ⟨fun hs => ?_, fun ht => ht.of_eq hs hp hc hm (hq.trans ·) fun htrip => ?_⟩
  · rw [FaultsSafe, hf]
    exact hs
  · rw [State.gapState, hg]
    exact (ht.tripped htrip).2

/-! ### Feeder, setpoint and activity -/

theorem setOutput_zero_order {s t : State} (h : KeepsOrder s t) : KeepsOrder s (setOutput 0 t) := by
  refine h.trans ⟨id, fun ht => { ht with clear := fun hc => ?_ }⟩
  by_contra hs
  change t.run.state ≠ .stopping at hs
  exact hs (ht.clear (by simpa [setOutput, hs] using hc))

theorem zeroIfZeroed_order {s t : State} (h : KeepsOrder s t) : KeepsOrder s (zeroIfZeroed t) := by
  unfold zeroIfZeroed
  split
  exacts [setOutput_zero_order h, h]

theorem dropCapacity_order {s t : State} (h : KeepsOrder s t) : KeepsOrder s (dropCapacity t) := by
  unfold dropCapacity
  split
  exacts [h, h.plain]

theorem setAfresh_order {s t : State} (h : KeepsOrder s t) : KeepsOrder s (setAfresh t) := h.plain

theorem holdW_order {s t : State} (h : KeepsOrder s t) : KeepsOrder s (holdW t) := by
  unfold holdW
  split
  exacts [h, h.plain]

theorem restW_order {s t : State} (h : KeepsOrder s t) : KeepsOrder s (restW t) := by
  unfold restW
  split <;> exact h.plain

theorem emptyJumpIfOpening_order {s t : State} (h : KeepsOrder s t) : KeepsOrder s (emptyJumpIfOpening t) := by
  unfold emptyJumpIfOpening
  split
  exacts [h.plain, h]

/-- Another activity, which a TRIPPED station may be in. -/
theorem KeepsOrder.activity {s t : State} {act : Activity} (h : KeepsOrder s t)
    (ha : RunOrder t → t.run.state = .tripped → act.state.standsTripped) : KeepsOrder s { t with gap.activity := act } :=
  h.trans ⟨id, fun ht => ht.of_eq rfl rfl rfl rfl id (ha ht)⟩

theorem setActivity_order {s t : State} (act : Activity) (h : KeepsOrder s t)
    (ha : RunOrder t → t.run.state = .tripped → act.state.standsTripped) : KeepsOrder s (setActivity act t) := by
  unfold setActivity
  refine emptyJumpIfOpening_order (zeroIfZeroed_order (dropCapacity_order ?_))
  split
  · exact (setAfresh_order h).activity fun ht => ha (ht.of_eq rfl rfl rfl rfl id fun htrip => (ht.tripped htrip).2)
  · exact h.activity ha

theorem setActivity_holding_order {s t : State} (h : KeepsOrder s t) : KeepsOrder s (setActivity .holding t) :=
  setActivity_order _ h fun _ _ => by simp [GapState.standsTripped, Activity.state]

theorem updateActivity_order {s t : State} (act : Activity) (h : KeepsOrder s t)
    (ha : RunOrder t → t.run.state = .tripped → act.state.standsTripped) : KeepsOrder s (updateActivity act t) :=
  emptyJumpIfOpening_order (h.activity ha)

/-- Fields of the activity in progress, which keeps its gap state. -/
theorem updateActivity_order_of_same {s t : State} {act : Activity} (h : KeepsOrder s t) (ha : act.state = t.gapState) :
    KeepsOrder s (updateActivity act t) :=
  updateActivity_order act h fun ht htrip => ha ▸ (ht.tripped htrip).2

/-! ### Queue, run state and reports -/

theorem KeepsOrder.dequeue {s t : State} {q : List Entry} {l : LinePort} (h : KeepsOrder s t) (hq : t.queue = [] → q = []) :
    KeepsOrder s { t with queue := q, line := l } :=
  h.trans ⟨id, fun ht => ht.of_eq rfl rfl rfl rfl hq fun htrip => (ht.tripped htrip).2⟩

theorem answer_order {s t : State} (a : Answer) (h : KeepsOrder s t) : KeepsOrder s (State.answer a t) := h.plain

theorem endActive_order {s t : State} (o : AnswerOutcome) (h : KeepsOrder s t) : KeepsOrder s (endActive o t) := by
  unfold endActive
  split
  · next hq =>
    split
    exacts [h.dequeue fun hn => by simp [hq] at hn, h]
  · exact h

theorem endActiveOf_order {s t : State} (k : QueuedKind) (o : AnswerOutcome) (h : KeepsOrder s t) :
    KeepsOrder s (endActiveOf k o t) := by
  unfold endActiveOf
  split
  exacts [endActive_order o h, h]

/-- An output that falls to 0 starts the clear timer in STOPPING, and nothing else touches it (R46). -/
theorem zeroIfZeroed_clearTimer (s : State) :
    (zeroIfZeroed s).run.clearTimer =
      if s.run.state = .stopping ∧ s.drive.output ≠ 0 ∧ (zeroIfZeroed s).drive.output = 0 then
        some (s.settings.clearTime * 1000) else s.run.clearTimer := by
  unfold zeroIfZeroed
  split
  · by_cases ho : s.drive.output = 0 <;> by_cases hs : s.run.state = .stopping <;>
      simp [setOutput, ho, hs, Nat.pos_iff_ne_zero]
  · exact (if_neg fun h => h.2.1 h.2.2).symm

/-- The clear timer after a change of the run state: it runs in STOPPING with the output at 0 (R46). -/
theorem changeRun_clearTimer (r : RunState) (s : State) :
    (changeRun r s).run.clearTimer =
      if r = .stopping ∧ (changeRun r s).drive.output = 0 then some (s.settings.clearTime * 1000) else none := by
  have hout := (changeRun_eases r s).output
  unfold changeRun at hout ⊢
  rw [zeroIfZeroed_clearTimer]
  generalize zeroIfZeroed _ = u at hout ⊢
  by_cases hr : r = .stopping
  · by_cases ho : s.drive.output = 0
    · have hu : u.drive.output = 0 := by simpa [ho] using hout
      simp [dropCapacity_frame, hr, ho, hu]
    · simp [dropCapacity_frame, hr, ho]
  · simp [dropCapacity_frame, hr]

@[simp] theorem changeRun_motorRunning (r : RunState) (s : State) : (changeRun r s).motorRunning = s.motorRunning :=
  State.motorRunning_of_still (changeRun_still r s)

@[simp] theorem changeRun_gapState (r : RunState) (s : State) : (changeRun r s).gapState = s.gapState := by
  simp [State.gapState]

/-- A run state that is entered leaves Run Control in order, where the motor runs if it must and TRIPPED finds nothing in progress. -/
theorem changeRun_runOrder {r : RunState} {s : State} (hm : r.motorRequired = true → s.motorRunning = true)
    (ht : r = .tripped → s.queue = [] ∧ s.gapState.standsTripped) : RunOrder (changeRun r s) where
  motor := by simpa using hm
  tripped := by simpa [GapState.standsTripped] using ht
  priming := by simp
  clear := by rw [changeRun_clearTimer, changeRun_state]; split <;> simp_all

theorem changeRun_order {s t : State} {r : RunState} (h : KeepsOrder s t)
    (hm : RunOrder t → r.motorRequired = true → t.motorRunning = true) (ht : r ≠ .tripped) : KeepsOrder s (changeRun r t) :=
  h.trans ⟨fun hf => by rwa [FaultsSafe, changeRun_faults], fun hr => changeRun_runOrder (hm hr) fun hc => absurd hc ht⟩

/-- A trip puts Run Control in order whatever the state before it (R49, R150). -/
theorem trip_runOrder (s : State) : RunOrder (trip s) := by
  refine changeRun_runOrder (fun h => by simp [RunState.motorRequired] at h) fun _ => ⟨?_, ?_⟩
  · simpa [trip] using trip_queue s
  · rw [State.gapState, endForTrip_activity]
    cases h : (flushQueue s).gap.activity <;> simp [State.gapState, h, Activity.state, GapState.standsTripped]

theorem trip_order {s t : State} (h : KeepsOrder s t) : KeepsOrder s (trip t) :=
  h.trans ⟨fun hf => by rwa [FaultsSafe, trip_faults], fun _ => trip_runOrder t⟩

/-- A report adds its kind once and fills the first-fault record (R166). -/
theorem noteFault_faultsSafe (k : FaultKind) {s : State} (h : FaultsSafe s) : FaultsSafe (noteFault k s) := by
  obtain ⟨hseen, -⟩ := h
  refine ⟨?_, fun hn => ?_⟩
  · unfold noteFault
    dsimp only
    split
    · exact hseen
    · next hk =>
      exact List.nodup_append.2 ⟨hseen, List.nodup_singleton k, fun a ha b hb hab => hk (by
        rw [List.mem_singleton] at hb
        subst hb hab
        simpa using ha)⟩
  · unfold noteFault at hn
    dsimp only at hn
    split at hn <;> simp at hn

theorem noteFault_order {s t : State} (k : FaultKind) (h : KeepsOrder s t) : KeepsOrder s (noteFault k t) :=
  h.trans ⟨noteFault_faultsSafe k, fun ht => ht.of_eq rfl rfl rfl rfl id fun htrip => (ht.tripped htrip).2⟩

theorem report_order {s t : State} (k : FaultKind) (trips : Bool) (h : KeepsOrder s t) : KeepsOrder s (report k trips t) := by
  unfold report
  split
  exacts [trip_order (noteFault_order k h), noteFault_order k h]

/-- So does a report that trips. -/
theorem report_runOrder (k : FaultKind) {s : State} (h : s.run.state.trippable = true) : RunOrder (report k true s) := by
  rw [report_of_trip k h]
  exact trip_runOrder _

/-- A run state that is entered finds the motor running or trips for it (R48). -/
theorem enterRun_order {s t : State} {r : RunState} (h : KeepsOrder s t) (ht : r ≠ .tripped) :
    KeepsOrder s (enterRun r t) := by
  unfold enterRun
  split
  · next hc =>
    refine h.trans ⟨fun hf => ?_, fun _ => ?_⟩
    · exact (report_order .motorStopped true (.refl _)).faults (by rwa [FaultsSafe, changeRun_faults])
    · have htrips : (changeRun r t).run.state.trippable = true := by
        have hr := hc.1
        rw [changeRun_state]
        cases r <;> simp_all [RunState.motorRequired, RunState.trippable]
      exact report_runOrder _ htrips
  · next hc =>
    refine changeRun_order h (fun hr hm => ?_) ht
    by_contra hn
    exact hc ⟨hm, fun hreq => hn (hr.motor hreq), hn⟩

end Sys2Proof.Machine

/-! ### Moves, arrivals, calibrations and records -/

namespace Sys2Proof.Machine

theorem Activity.moving_state_eq {s : State} {m m' : Move} (h : s.gap.activity = .moving m) :
    (Activity.moving m').state = s.gapState := by simp [State.gapState, h, Activity.state]

theorem Activity.calibrating_state_eq {s : State} {c c' : Calibration} (h : s.gap.activity = .calibrating c) :
    (Activity.calibrating c').state = s.gapState := by simp [State.gapState, h, Activity.state]

theorem Activity.recovering_state_eq {s : State} {r r' : Reclosing} (h : s.gap.activity = .recovering r) :
    (Activity.recovering r').state = s.gapState := by simp [State.gapState, h, Activity.state]

theorem Activity.relieved_state_eq {s : State} {l l' : Timer} (h : s.gap.activity = .relieved l) :
    (Activity.relieved l').state = s.gapState := by simp [State.gapState, h, Activity.state]

theorem arrive_order {s t : State} (h : KeepsOrder s t) : KeepsOrder s (arrive t) := setActivity_holding_order h.plain

theorem endSetGapReached_order {s t : State} (h : KeepsOrder s t) : KeepsOrder s (endSetGapReached t) := by
  unfold endSetGapReached
  split
  · split
    exacts [endActive_order _ h, h]
  · exact h

theorem moveCrossing_order {s t : State} (h : KeepsOrder s t) : KeepsOrder s (moveCrossing t) := by
  unfold moveCrossing
  split
  · split
    exacts [endSetGapReached_order (arrive_order h), h]
  · exact h

theorem backingArrival_order {s t : State} (h : KeepsOrder s t) : KeepsOrder s (backingArrival t) := by
  unfold backingArrival
  split
  · split
    · split
      exacts [endActiveOf_order _ _ (arrive_order h), h]
    · exact h
  · exact h

theorem reclosingArrival_order {s t : State} (h : KeepsOrder s t) : KeepsOrder s (reclosingArrival t) := by
  unfold reclosingArrival
  split
  · split
    exacts [arrive_order h, h]
  · exact h

theorem testW_order {s t : State} (h : KeepsOrder s t) : KeepsOrder s (testW t) := by
  unfold testW
  split
  exacts [moveCrossing_order h, backingArrival_order h, reclosingArrival_order h, h]

theorem targetChanged_order {s t : State} (h : KeepsOrder s t) : KeepsOrder s (targetChanged t) := by
  refine testW_order ?_
  split
  exacts [holdW_order h, setAfresh_order h]

theorem reversalTest_order {s t : State} (h : KeepsOrder s t) : KeepsOrder s (reversalTest t) := by
  unfold reversalTest
  split
  · next ha _ =>
    split
    exacts [updateActivity_order_of_same h (Activity.moving_state_eq ha), h]
  · exact h

theorem wearChanged_order {s t : State} (h : KeepsOrder s t) : KeepsOrder s (wearChanged t) := by
  unfold wearChanged
  split
  exacts [reversalTest_order (moveCrossing_order h), h]

theorem State.movesAllowed_iff {s : State} :
    s.movesAllowed = true ↔ s.active = true ∧ s.gapState = .holding ∧ s.gap.reference.present = true ∧
      s.monitor.positionValid = true ∧ s.run.state ≠ .tripped := by
  simp [State.movesAllowed, and_assoc]

theorem State.calibrationReady_iff {s : State} :
    s.calibrationReady = true ↔ s.motorRunning = true ∧ s.drive.output = 0 ∧
      (∃ l, s.monitor.sample = some l ∧ l.cavity ≤ s.settings.cavityEmpty) ∧
      s.monitor.positionValid = true ∧ s.run.state ≠ .tripped := by
  unfold State.calibrationReady
  cases s.monitor.sample <;> simp [and_assoc]

theorem State.standingRequest_iff {s : State} :
    s.standingRequest = true ↔ s.run.state = .priming ∧ s.gap.reference.present = false ∧
      s.activeKind .calibrate = false ∧ s.activeKind .linerChange = false := by
  simp [State.standingRequest, and_assoc]

theorem moveTest_order {s t : State} (h : KeepsOrder s t) : KeepsOrder s (moveTest t) := by
  unfold moveTest
  split
  · split
    · next hm =>
      obtain ⟨-, -, -, -, hne⟩ := State.movesAllowed_iff.1 hm.1
      exact setActivity_order _ h fun _ ht => absurd ht hne
    · exact h
  · exact h

/-- A calibration starts out of TRIPPED (R120). -/
theorem startCalibration_order {s t : State} (k : CalKind) (h : KeepsOrder s t) (hr : t.calibrationReady = true) :
    KeepsOrder s (startCalibration k t) := by
  obtain ⟨-, -, -, -, hne⟩ := State.calibrationReady_iff.1 hr
  exact setActivity_order _ h fun _ ht => absurd ht hne

theorem internalCalibrationTest_order {s t : State} (h : KeepsOrder s t) : KeepsOrder s (internalCalibrationTest t) := by
  unfold internalCalibrationTest
  split
  · next hc => exact startCalibration_order _ h hc.2.2.2
  · exact h

theorem stopCalibration_order {s t : State} (h : KeepsOrder s t) : KeepsOrder s (stopCalibration t) :=
  setActivity_holding_order h

theorem startRequestedCalibration_order {s t : State} (h : KeepsOrder s t) :
    KeepsOrder s (startRequestedCalibration t) := by
  unfold startRequestedCalibration
  split
  · next hr => exact startCalibration_order _ h hr
  · exact endActive_order _ h

theorem primingTest_order {s t : State} (h : KeepsOrder s t) : KeepsOrder s (primingTest t) := by
  unfold primingTest
  split
  exacts [enterRun_order h (by simp), h]

theorem recordArrives_order {s t : State} (r : WearRecord) (h : KeepsOrder s t) : KeepsOrder s (recordArrives r t) := by
  unfold recordArrives
  split <;> exact h.plain

theorem startPending_order {s t : State} (h : KeepsOrder s t) : KeepsOrder s (startPending t) := by
  unfold startPending
  split
  · split
    exacts [h.plain, h]
  · exact h

theorem finishStopping_order {s t : State} (h : KeepsOrder s t) : KeepsOrder s (finishStopping t) :=
  recordArrives_order _ (changeRun_order h (fun _ hm => by simp [RunState.motorRequired] at hm) (by simp))

theorem setReference_order {s t : State} (r : Reference) (h : KeepsOrder s t) : KeepsOrder s (setReference r t) := by
  unfold setReference
  extract_lets _ u v
  have hu : KeepsOrder s u := holdW_order h.plain
  have hv : KeepsOrder s v := by
    unfold v
    split
    exacts [setActivity_holding_order hu, hu]
  split
  · exact hu
  · split
    exacts [changeRun_order hv (fun _ hm => by simp [RunState.motorRequired] at hm) (by simp), hv]

theorem gapTargetArrives_order {s t : State} (n : Nat) (h : KeepsOrder s t) : KeepsOrder s (gapTargetArrives n t) := by
  unfold gapTargetArrives
  extract_lets u v
  have hu : KeepsOrder s u := endActiveOf_order _ _ h
  have hv : KeepsOrder s v := by
    unfold v
    split
    · next ha => exact updateActivity_order_of_same hu (Activity.moving_state_eq ha)
    · exact hu
  exact targetChanged_order hv.plain

theorem spanArrives_order {s t : State} (n : Nat) (h : KeepsOrder s t) : KeepsOrder s (spanArrives n t) := by
  unfold spanArrives
  split
  exacts [h, targetChanged_order h.plain]

/-- A new reference leaves a calibration in progress. -/
theorem setReference_gapState {r : Reference} {s : State} (h : s.gapState ≠ .moving) :
    (setReference r s).gapState = s.gapState := by
  have hhold : ∀ u : State, (holdW u).gapState = u.gapState := fun u => by unfold holdW; split <;> rfl
  unfold setReference
  extract_lets _ u v
  have hu : u.gapState = s.gapState := hhold _
  have hv : v = u := if_neg (hu ▸ h)
  split
  · exact hu
  · split
    exacts [(changeRun_gapState _ _).trans (hv ▸ hu), hv ▸ hu]

/-- What a contact at `p` notes before it takes the reference: shift, liner wear, count, and the accumulators at 0 (R123). -/
def contactNoted (p : Nat) (s : State) : State :=
  let shift : Option Int := s.gap.reference.contact?.map (fun old => (p : Int) - (old : Int))
  { s with
    gap.lastShift := shift
    gap.linerWear := match shift with
      | some d => min 65535 (s.gap.linerWear + d.toNat)
      | none => s.gap.linerWear
    gap.wearAcc := 0, monitor.calibrationKg := 0, gap.calCount := min 65535 (s.gap.calCount + 1) }

/-- What a contact leaves when it has taken the reference and requested the wear record, before BACKING begins (R123). -/
def contactTaken (p : Nat) (s : State) : State := requestRecord (setReference (.referenced p) (contactNoted p s))

theorem contact_eq (k : CalKind) (p : Nat) (s : State) :
    contact k p s =
      updateActivity (.calibrating { kind := k, seekLimit := none
                                     phase := .backing ((contactTaken p s).gapEstimate.getD 0) (contactTaken p s).moveTimeoutMs })
        { contactTaken p s with
          gap.approach := (contactTaken p s).gap.approach ||
            decide ((contactTaken p s).gapEstimate.getD 0 ≠ (contactTaken p s).gap.setpoint) } := rfl

theorem contactTaken_gapState {p : Nat} {s : State} (h : s.gapState ≠ .moving) : (contactTaken p s).gapState = s.gapState := by
  have hframe : (contactTaken p s).gapState = (setReference (.referenced p) (contactNoted p s)).gapState := by
    rw [contactTaken, requestRecord_frame]
    rfl
  rw [hframe, setReference_gapState (s := contactNoted p s) h]
  rfl

/-- Contact is taken in CALIBRATING, which TRIPPED knows not. -/
theorem contact_order {s t : State} (k : CalKind) (p : Nat) (h : KeepsOrder s t) (hc : t.gapState = .calibrating) :
    KeepsOrder s (contact k p t) := by
  have htaken : KeepsOrder s (contactTaken p t) := recordArrives_order _ (setReference_order _ h.plain)
  have hstate : (contactTaken p t).gapState = .calibrating := (contactTaken_gapState (by simp [hc])).trans hc
  rw [contact_eq]
  exact updateActivity_order_of_same htaken.plain hstate.symm

/-! ### The start of the queue's head and the end of an event -/

theorem startSetGap_order {s t : State} (e : Entry) (h : KeepsOrder s t) : KeepsOrder s (startSetGap e t) := by
  unfold startSetGap
  split
  · exact endActive_order _ h
  · split
    · exact holdW_order (KeepsOrder.plain (endActive_order _ h))
    · dsimp only
      split
      exacts [endActive_order _ (setAfresh_order h.plain), KeepsOrder.plain (setAfresh_order (h.plain))]

theorem startLinerChange_order {s t : State} (h : KeepsOrder s t) : KeepsOrder s (startLinerChange t) :=
  recordArrives_order _ (setReference_order _ h.plain)

theorem startHead_order {s t : State} (h : KeepsOrder s t) : KeepsOrder s (startHead t) := by
  unfold startHead
  split
  · exact h
  · next hq =>
    have h' : KeepsOrder s { t with queue := activateHead t.queue } := h.dequeue (l := t.line) fun hn => by simp [hq] at hn
    dsimp only
    split
    exacts [startSetGap_order _ h', startRequestedCalibration_order h', startLinerChange_order h']

theorem startHeads_order (n : Nat) {s t : State} (h : KeepsOrder s t) : KeepsOrder s (startHeads n t) := by
  induction n generalizing t with
  | zero => exact h
  | succ n ih =>
    unfold startHeads
    split
    exacts [ih (startHead_order h), h]

theorem settle_order {s t : State} (h : KeepsOrder s t) : KeepsOrder s (settle t) :=
  primingTest_order (moveTest_order (internalCalibrationTest_order (startHeads_order _ h)))

/-! ### Readings and window close -/

theorem breakPower_order {s t : State} (ok : Bool) (h : KeepsOrder s t) : KeepsOrder s (breakPower ok t) := by
  unfold breakPower
  split
  exacts [report_order _ _ h.plain, h]

theorem breakPressure_order {s t : State} (ok : Bool) (h : KeepsOrder s t) : KeepsOrder s (breakPressure ok t) := by
  unfold breakPressure
  split
  exacts [report_order _ _ h.plain, h]

theorem breakCavity_order {s t : State} (ok : Bool) (h : KeepsOrder s t) : KeepsOrder s (breakCavity ok t) := by
  unfold breakCavity
  split
  exacts [report_order _ _ h.plain, h]

theorem breakPile_order {s t : State} (ok : Bool) (h : KeepsOrder s t) : KeepsOrder s (breakPile ok t) := by
  unfold breakPile
  split
  exacts [report_order _ _ h.plain, h]

theorem breakPosition_order {s t : State} (ok : Bool) (h : KeepsOrder s t) : KeepsOrder s (breakPosition ok t) := by
  unfold breakPosition
  split
  exacts [report_order _ _ h.plain, h]

theorem breakChecks_order {s t : State} (r : Readings) (h : KeepsOrder s t) : KeepsOrder s (breakChecks r t) :=
  breakPosition_order _ (breakPile_order _ (breakCavity_order _ (breakPressure_order _ (breakPower_order _ h))))

theorem notePosition_order {s t : State} (p : Option Nat) (h : KeepsOrder s t) : KeepsOrder s (notePosition p t) := h.plain

theorem sensed_order (r : Readings) (s : State) : KeepsOrder s (sensed r s) := by
  have h0 : KeepsOrder s (noteReading r (advanceReadingClock s)) := (KeepsOrder.refl s).plain
  exact notePosition_order _ (breakChecks_order r h0)

theorem moveReading_order {s t : State} (pressure : Option Nat) (h : KeepsOrder s t) : KeepsOrder s (moveReading pressure t) := by
  have h' := moveCrossing_order h
  unfold moveReading
  dsimp only
  split
  · next ha _ => exact updateActivity_order_of_same h' (Activity.moving_state_eq ha)
  · exact h'

theorem reclosingReading_order {s t : State} (pressure : Option Nat) (h : KeepsOrder s t) :
    KeepsOrder s (reclosingReading pressure t) := by
  have h' := reclosingArrival_order h
  unfold reclosingReading
  dsimp only
  split
  · next ha _ => exact updateActivity_order_of_same h' (Activity.recovering_state_eq ha)
  · exact h'

theorem calibrationFails_order {s t : State} (k : CalKind) (h : KeepsOrder s t) : KeepsOrder s (calibrationFails k t) := by
  cases k with
  | internal => exact report_order _ _ (stopCalibration_order h)
  | requested => exact endActiveOf_order _ _ (report_order _ _ (stopCalibration_order h))

theorem calibrationReading_order {s t : State} (pressure : Option Nat) {c : Calibration} (p : Nat) (h : KeepsOrder s t)
    (hc : t.gap.activity = .calibrating c) : KeepsOrder s (calibrationReading pressure c p t) := by
  unfold calibrationReading
  split
  · split
    exacts [updateActivity_order_of_same h (Activity.calibrating_state_eq hc), h]
  · split
    · exact contact_order _ _ h (Activity.calibrating_state_eq (c' := c) hc).symm
    · split
      exacts [calibrationFails_order _ h, h]
  · have h' := backingArrival_order h
    dsimp only
    split
    · next ha _ =>
      split
      exacts [updateActivity_order_of_same h' (Activity.calibrating_state_eq ha), h']
    · exact h'

theorem activityReading_order {s t : State} (pressure position : Option Nat) (h : KeepsOrder s t) :
    KeepsOrder s (activityReading pressure position t) := by
  unfold activityReading
  split
  · next ha =>
    unfold settleReading
    split <;> exact updateActivity_order_of_same h (Activity.relieved_state_eq ha)
  · exact moveReading_order _ h
  · exact reclosingReading_order _ h
  · next ha => exact calibrationReading_order _ _ h ha
  · exact h

theorem detectTramp_order {s t : State} (h : KeepsOrder s t) : KeepsOrder s (detectTramp t) := by
  unfold detectTramp
  extract_lets list _ s1 s2 s3
  have h3 : KeepsOrder s s3 := setActivity_order _ (endActiveOf_order _ _ (endActiveOf_order _ _ h.plain)) fun _ _ => by
    simp [GapState.standsTripped, Activity.state]
  split
  exacts [report_order _ _ h3, h3]

theorem trampReading_order {s t : State} (pressure : Option Nat) (h : KeepsOrder s t) : KeepsOrder s (trampReading pressure t) := by
  unfold trampReading
  extract_lets now kept added
  split
  · split
    exacts [detectTramp_order h, h.plain]
  · split <;> exact h.plain

theorem estimateTonnage_order {s t : State} (output : Nat) (h : KeepsOrder s t) : KeepsOrder s (estimateTonnage output t) := by
  unfold estimateTonnage
  split
  exacts [h.plain, h]

theorem stepDecision_order {s t : State} (h : KeepsOrder s t) : KeepsOrder s (stepDecision t) := by
  unfold stepDecision
  split
  · split
    · exact h.plain
    · split
      exacts [h.plain, h]
  · exact h

theorem historyTakes_order {s t : State} (l : LoadSample) (h : KeepsOrder s t) : KeepsOrder s (historyTakes l t) := by
  unfold historyTakes
  split
  exacts [stepDecision_order h.plain, h]

theorem clearTakes_order {s t : State} (l : LoadSample) (h : KeepsOrder s t) : KeepsOrder s (clearTakes l t) := by
  unfold clearTakes
  split
  exacts [finishStopping_order h, h]

/-! ### Demands and requests -/

theorem storeDemand_order {s t : State} (p : DemandPayload) (h : KeepsOrder s t) : KeepsOrder s (storeDemand p t) := by
  unfold storeDemand
  extract_lets _ u v
  have hu : KeepsOrder s u := h.plain
  have hv : KeepsOrder s v := by
    unfold v
    split
    · split
      exacts [gapTargetArrives_order _ hu, hu]
    · exact hu
  split
  · split
    exacts [spanArrives_order _ hv, hv]
  · exact hv

theorem actRun_order {s t : State} (h : KeepsOrder s t) : KeepsOrder s (actRun t) := by
  have hbegin : KeepsOrder s (beginRun t) := by
    unfold beginRun
    split
    exacts [enterRun_order h (by simp), changeRun_order h (fun _ hm => by simp [RunState.motorRequired] at hm) (by simp)]
  unfold actRun
  split
  exacts [hbegin, hbegin, h]

theorem actStop_order {s t : State} (h : KeepsOrder s t) : KeepsOrder s (actStop t) := by
  have hbegin : KeepsOrder s (beginStop t) := enterRun_order h (by simp)
  unfold actStop
  split
  · exact hbegin
  · exact hbegin
  · unfold abortInternal
    split
    · split
      exacts [stopCalibration_order hbegin, hbegin]
    · exact hbegin
  · exact h

theorem actCommand_order {s t : State} (c : Option Command) (h : KeepsOrder s t) : KeepsOrder s (actCommand c t) := by
  unfold actCommand
  split
  exacts [h, actRun_order h.plain, actStop_order h.plain]

theorem cancelActive_order {s t : State} (k : QueuedKind) (h : KeepsOrder s t) : KeepsOrder s (cancelActive k t) := by
  have he := endActive_order (.stopped .cancelled) h
  cases k with
  | setGap =>
    simp only [cancelActive]
    split
    exacts [restW_order (setActivity_holding_order he), restW_order he]
  | calibrate =>
    simp only [cancelActive]
    split
    exacts [stopCalibration_order he, he]
  | linerChange => exact he

theorem clearAccepted_order {s t : State} (h : KeepsOrder s t) : KeepsOrder s (clearAccepted t) := by
  unfold clearAccepted
  extract_lets _ u v
  have hu : KeepsOrder s u :=
    h.trans ⟨fun _ => ⟨List.nodup_nil, fun _ => ⟨rfl, rfl⟩⟩,
      fun ht => ht.of_eq rfl rfl rfl rfl id fun htrip => (ht.tripped htrip).2⟩
  have hv : KeepsOrder s v := by
    unfold v
    split
    exacts [changeRun_order hu (fun _ hm => by simp [RunState.motorRequired] at hm) (by simp), hu]
  split
  exacts [setActivity_holding_order hv, hv]

/-! ### Timers of the Gap Controller and campaigns -/

theorem stickAt_order {s t : State} (h : KeepsOrder s t) : KeepsOrder s (stickAt t) :=
  setActivity_order _ (restW_order (report_order _ _ h)) fun _ _ => by simp [GapState.standsTripped, Activity.state]

theorem moveStalls_order {s t : State} {m : Move} (g : Nat) (h : KeepsOrder s t) (hm : t.gap.activity = .moving m) :
    KeepsOrder s (moveStalls m g t) := by
  unfold moveStalls
  split
  · split
    · exact setActivity_holding_order (restW_order (endActiveOf_order _ _ h))
    · exact reversalTest_order (updateActivity_order_of_same h (Activity.moving_state_eq hm))
  · exact stickAt_order (endActiveOf_order _ _ h)

theorem reliefEnds_order {s t : State} (h : KeepsOrder s t) : KeepsOrder s (reliefEnds t) := by
  unfold reliefEnds
  split
  · split
    · exact setActivity_holding_order h
    · exact setActivity_order _ h fun _ _ => by simp [GapState.standsTripped, Activity.state]
  · exact setActivity_holding_order h

theorem linerChangeTakes_order {s t : State} (e : CampaignEnd) (b : Bool) (h : KeepsOrder s t) :
    KeepsOrder s (linerChangeTakes e b t) := by
  unfold linerChangeTakes
  split
  · split
    exacts [endActiveOf_order _ _ h, h]
  · exact h

end Sys2Proof.Machine

/-! ### Every command keeps Run Control and the Fault Record consistent -/

namespace Sys2Proof.Machine

/-- What a whole event keeps: with the order, that no station is left in PRIMING at HOLDING with a reference (R42). -/
structure EventOrder (s t : State) : Prop extends KeepsOrder s t where
  primed : t.Primed → s.Primed

theorem enterRun_state_ne_priming {r : RunState} (hr : r ≠ .priming) (s : State) : (enterRun r s).run.state ≠ .priming := by
  rw [enterRun_state]
  split
  exacts [by simp, hr]

/-- The end of an event lets a PRIMING station with a reference run at HOLDING (R42). -/
theorem settle_not_primed (s : State) : ¬ (settle s).Primed := by
  unfold settle primingTest
  split
  · exact fun h => enterRun_state_ne_priming (by simp) _ h.1
  · next h => exact h

theorem EventOrder.settle {s u : State} (h : KeepsOrder s u) : EventOrder s (settle u) :=
  ⟨settle_order h, fun hp => absurd hp (settle_not_primed u)⟩

theorem EventOrder.of_state {s t : State} (h : KeepsOrder s t) (ht : t.run.state ≠ .priming) : EventOrder s t :=
  ⟨h, fun hp => absurd hp.1 ht⟩

theorem EventOrder.of_activity {s t : State} (h : KeepsOrder s t) (ht : t.gapState ≠ .holding) : EventOrder s t :=
  ⟨h, fun hp => absurd hp.2.2 ht⟩

/-- A write to other fields. -/
theorem EventOrder.plain {s t u : State} (h : EventOrder s t) (hf : u.faults = t.faults := by rfl)
    (hr : u.run = t.run := by rfl) (hm : u.motorRunning = t.motorRunning := by rfl) (hq : u.queue = t.queue := by rfl)
    (hg : u.gap = t.gap := by rfl) : EventOrder s u where
  toKeepsOrder := h.toKeepsOrder.plain hf (by rw [hr]) (by rw [hr]) (by rw [hr]) hm hq (by rw [hg])
  primed hp := h.primed (by rwa [State.Primed, State.gapState, hr, hg] at hp)

@[refl] theorem EventOrder.refl (s : State) : EventOrder s s := ⟨.refl s, id⟩

theorem EventOrder.trans {s t u : State} (h : EventOrder s t) (h' : EventOrder t u) : EventOrder s u :=
  ⟨h.toKeepsOrder.trans h'.toKeepsOrder, h.primed ∘ h'.primed⟩

theorem EventOrder.frameEnds (s : State) : EventOrder s (frameEnds s) := (EventOrder.refl s).plain

theorem EventOrder.answer {s t : State} (a : Answer) (h : EventOrder s t) : EventOrder s (State.answer a t) := h.plain

/-- No tripping report leaves a PRIMING station. -/
theorem report_state_ne_priming (k : FaultKind) (s : State) : (report k true s).run.state ≠ .priming := by
  rw [report_state]
  split
  · simp
  · next h => exact fun hp => h (by simp [hp, RunState.trippable])

theorem onFrame_of {P : State → Prop} {act : State → State} {s : State} (h0 : P s) (h1 : P (act (frameEnds s))) :
    P (onFrame act s) := by
  rcases onFrame_cases act s with h | h <;> rw [h]
  exacts [h0, h1]

theorem onRequest_order {header : Address} {act : State → State} {s : State}
    (h : EventOrder (frameEnds s) (act (frameEnds s))) : EventOrder s (onRequest header act s) :=
  onRequest_of (.refl s) (.frameEnds s) ((EventOrder.frameEnds s).trans h)

theorem takeDemand_order (header : Address) (p : DemandPayload) (c : Option Command) (s : State) :
    EventOrder s (takeDemand header p c s) := by
  refine takeDemand_of (.refl s) (.frameEnds s) ((EventOrder.frameEnds s).trans ?_)
  generalize frameEnds s = u
  have h : KeepsOrder u (actCommand c (storeDemand p u)) := actCommand_order c (storeDemand_order p (.refl u))
  unfold actDemand
  dsimp only
  split
  · exact .settle h
  · next ha => exact .of_state h fun hp => ha (by simp [State.active, hp, RunState.active])

theorem appended_order {s : State} {e : Entry} (h : stateRefusal e.kind s = none) : KeepsOrder s (appended e s) := by
  refine ⟨id, fun hs => { hs with tripped := fun ht => ?_ }⟩
  change s.run.state = .tripped at ht
  cases hk : e.kind <;> simp [stateRefusal, hk, ht] at h

theorem enqueue_order (e : Entry) (s : State) : EventOrder s (enqueue e s) := by
  rcases enqueue_cases e s with ⟨a, h⟩ | ⟨hr, a, h⟩ <;> rw [h]
  exacts [(EventOrder.refl s).answer a, .settle (answer_order a (appended_order hr))]

theorem cancelEntry_order (header : Address) (tag : BitVec 3) (argument : Word) (s : State) :
    EventOrder s (cancelEntry header tag argument s) := by
  unfold cancelEntry
  split
  · exact (EventOrder.refl s).answer _
  · refine .settle (answer_order _ ?_)
    split
    · exact cancelActive_order _ (.refl s)
    · exact answer_order _ ((KeepsOrder.refl s).dequeue (l := s.line) fun hq => by simp [hq])

theorem clearFault_order (header : Address) (tag : BitVec 3) (s : State) : EventOrder s (clearFault header tag s) := by
  unfold clearFault
  split
  · exact (EventOrder.refl s).answer _
  · exact .settle (answer_order _ (clearAccepted_order (.refl s)))

theorem holdFeed_order (header : Address) (tag : BitVec 3) (s : State) : EventOrder s (holdFeed header tag s) := by
  unfold holdFeed
  split
  · exact (EventOrder.of_state (enterRun_order (.refl s) (by simp)) (enterRun_state_ne_priming (by simp) s)).answer _
  · exact (EventOrder.refl s).answer _

theorem releaseFeed_order (header : Address) (tag : BitVec 3) (s : State) : EventOrder s (releaseFeed header tag s) := by
  unfold releaseFeed
  split
  · exact (EventOrder.of_state (enterRun_order (.refl s) (by simp)) (enterRun_state_ne_priming (by simp) s)).answer _
  · exact (EventOrder.refl s).answer _

theorem takeStatus_order (source : Nat) (p : StatusPayload) (s : State) : EventOrder s (takeStatus source p s) := by
  unfold takeStatus
  split
  · exact .refl s
  · split
    · have h : KeepsOrder s { s with peers.lastDuplicate := some s.seconds } := (KeepsOrder.refl s).plain
      exact .of_state (report_order _ _ h) (report_state_ne_priming _ _)
    · split
      exacts [(EventOrder.refl s).plain, .refl s]

theorem internalCalibrationTest_event (s : State) : EventOrder s (internalCalibrationTest s) := by
  have h := internalCalibrationTest_order (.refl s)
  unfold internalCalibrationTest at h ⊢
  split
  · next hc =>
    rw [if_pos hc] at h
    exact .of_activity h (by simp [startCalibration, Activity.state])
  · exact .refl s

theorem setOutput_runOrder {a : Nat} {s : State} (h : RunOrder s) : RunOrder (setOutput a s) := by
  refine { h with clear := fun hc => ?_ }
  by_contra hs
  change s.run.state ≠ .stopping at hs
  exact hs (h.clear (by simpa [setOutput, hs] using hc))

theorem rampInterval_order (s : State) : EventOrder s (rampInterval s) := by
  have h : EventOrder s (setOutput (rampOutput s) { s with drive.timer := some rampPeriod }) :=
    ⟨⟨id, fun hs => setOutput_runOrder { hs with }⟩, id⟩
  unfold rampInterval
  dsimp only
  split
  exacts [h.trans (internalCalibrationTest_event _), h]

theorem stall_order (s : State) : EventOrder s (stall s) := by
  unfold stall
  split
  · next ha _ =>
    split
    exacts [.refl s, .settle (moveStalls_order _ (.refl s) ha)]
  · split
    exacts [.settle (stickAt_order (endActiveOf_order _ _ (.refl s))), .refl s]
  · split
    exacts [.refl s, .settle (stickAt_order (.refl s))]
  · exact .refl s

theorem seekLimitExpires_order (s : State) : EventOrder s (seekLimitExpires s) := by
  unfold seekLimitExpires
  split
  · split
    exacts [.settle (calibrationFails_order _ (.refl s)), .refl s]
  · exact .refl s

/-- A step of a calibration stays in CALIBRATING. -/
theorem EventOrder.calibrating {s : State} {c c' : Calibration} (h : s.gap.activity = .calibrating c) :
    EventOrder s (updateActivity (.calibrating c') s) := by
  refine .of_activity (updateActivity_order_of_same (.refl s) (Activity.calibrating_state_eq h)) ?_
  unfold updateActivity emptyJumpIfOpening
  split <;> simp [State.gapState, Activity.state]

theorem pulseOnEnds_order (s : State) : EventOrder s (pulseOnEnds s) := by
  unfold pulseOnEnds
  split
  · next ha =>
    split
    · split
      exacts [.calibrating ha, .refl s]
    · exact .refl s
  · exact .refl s

theorem pulseOffEnds_order (s : State) : EventOrder s (pulseOffEnds s) := by
  unfold pulseOffEnds
  split
  · next c ha =>
    split
    · dsimp only
      split
      · exact .refl s
      · split
        exacts [.settle (contact_order _ _ (.refl s) (Activity.calibrating_state_eq (c' := c) ha).symm), .calibrating ha]
    · exact .refl s
  · exact .refl s

theorem campaignEnds_order (e : CampaignEnd) (c : Campaign) (s : State) : EventOrder s (campaignEnds e c s) := by
  unfold campaignEnds
  extract_lets u v w
  have hu : KeepsOrder s u := (KeepsOrder.refl s).plain
  have hv : KeepsOrder s v := by
    unfold v
    split
    exacts [report_order _ _ hu, hu]
  have hw : KeepsOrder s w := linerChangeTakes_order _ _ hv
  exact .settle (startPending_order hw.plain)

theorem wordReady_order (c : Campaign) (s : State) : EventOrder s (wordReady c s) := by
  unfold wordReady
  split
  · exact campaignEnds_order _ _ _
  · split
    · have h : EventOrder s (cutShort c s) := by
        rw [cutShort_frame]
        exact (EventOrder.refl s).plain
      exact h.trans (campaignEnds_order _ _ _)
    · exact (EventOrder.refl s).plain

/-- The end of the start sequence finds Run Control as STARTING leaves it, its timers stopped (R38). -/
theorem startSequenceEnd_order (straps : Nat) (memory : StartMemory) {s : State} (hs : s.run.state = .starting) :
    EventOrder s (startSequenceEnd straps memory s) := by
  unfold startSequenceEnd
  extract_lets m u v
  have hstart : ∀ (r : RunState) (t : State), r = .idle ∨ r = .unconfigured → t.faults = s.faults →
      t.run = { s.run with state := r } → KeepsOrder s t := fun r t hr hf ht => by
    refine ⟨fun h => by rwa [FaultsSafe, hf], fun h => ⟨?_, ?_, ?_, ?_⟩⟩
    · rw [ht]; rcases hr with rfl | rfl <;> simp [RunState.motorRequired]
    · rw [ht]; rcases hr with rfl | rfl <;> simp
    · have hp : s.run.primingTimer.isSome ≠ true := fun hp => absurd (h.priming.2 hp) (by simp [hs])
      rw [ht]; rcases hr with rfl | rfl <;> simpa using hp
    · have hc : s.run.clearTimer.isSome ≠ true := fun hc => absurd (h.clear hc) (by simp [hs])
      rw [ht]; exact fun h' => absurd h' hc
  have hv : KeepsOrder s v ∧ v.run.state ≠ .priming := by
    unfold v
    split
    · refine ⟨hstart .idle _ (.inl rfl) ?_ ?_, ?_⟩ <;> unfold startConfigured referenceFromRecord <;> dsimp only <;>
        split <;> simp [startTarget, u]
    · refine ⟨report_order _ _ (hstart .unconfigured _ (.inr rfl) rfl rfl), ?_⟩
      simp [startUnconfigured, report_state]
  have hstatus : KeepsOrder s (reportStatus v) := hv.1.plain
  have hstate : (reportStatus v).run.state ≠ .priming := hv.2
  unfold reportLowSupply
  split
  exacts [.of_state (report_order _ _ hstatus) (report_state_ne_priming _ _), .of_state hstatus hstate]

theorem windowClose_order (s : State) : EventOrder s (windowClose s) := by
  have h : KeepsOrder s (reopened s) := (KeepsOrder.refl s).plain
  rw [windowClose_eq]
  exact .settle (clearTakes_order _ (historyTakes_order _ h))

theorem readingEvent_order (r : Readings) (s : State) : EventOrder s (readingEvent r s) := by
  rw [readingEvent_eq]
  exact .settle (wearChanged_order (estimateTonnage_order _ (trampReading_order _ (activityReading_order _ _
    (sensed_order r s)))))

theorem pulse_order (s : State) : EventOrder s (settle (wearChanged (pulsed s))) := by
  have h : KeepsOrder s (pulsed s) := (KeepsOrder.refl s).plain
  exact .settle (wearChanged_order h)

/-- A fall of the motor input while the motor is required trips the station, so none is left without it (R48). -/
theorem motorRunningFall_order (s : State) :
    EventOrder s (if s.run.state.motorRequired then report .motorStopped true { s with motorRunning := false }
      else { s with motorRunning := false }) := by
  split
  · next hr =>
    have htrips : s.run.state.trippable = true := by
      revert hr
      cases s.run.state <;> simp [RunState.motorRequired, RunState.trippable]
    refine .of_state ⟨?_, fun _ => ?_⟩ (report_state_ne_priming _ _)
    · exact (report_order (s := { s with motorRunning := false }) _ _ (.refl _)).faults
    · exact report_runOrder _ (s := { s with motorRunning := false }) htrips
  · next hr => exact ⟨⟨id, fun h => { h with motor := fun hm => absurd hm hr }⟩, id⟩

/-- The priming timer's expiry trips the station, so none is left in PRIMING with it stopped (R43). -/
theorem primingTimerExpires_order {s : State} (hs : s.run.state = .priming) :
    EventOrder s (report .calBlocked true { s with run.primingTimer := none }) := by
  have htrips : s.run.state.trippable = true := by simp [hs, RunState.trippable]
  refine .of_state ⟨?_, fun _ => ?_⟩ (report_state_ne_priming _ _)
  · exact (report_order (s := { s with run.primingTimer := none }) _ _ (.refl _)).faults
  · exact report_runOrder _ (s := { s with run.primingTimer := none }) htrips

/-- Every command but RESET keeps Run Control and the Fault Record consistent. -/
theorem exec_order {c : Instr} {s t : State} (h : exec c s = .next t) (hr : c ≠ .reset) : EventOrder s t := by
  cases c with
  | reset => exact absurd rfl hr
  | startSequenceEnd straps memory =>
    cases h
    split
    · next hs => exact startSequenceEnd_order _ _ hs
    · exact .refl s
  | readingEvent r =>
    cases h
    split
    exacts [readingEvent_order r s, .refl s]
  | beltScalePulse =>
    cases h
    split
    exacts [pulse_order s, .refl s]
  | windowClose =>
    cases h
    split
    exacts [windowClose_order s, .refl s]
  | ageingEvent | sharePeriodExpiry =>
    cases h
    split
    exacts [(EventOrder.refl s).plain, .refl s]
  | statusArrival header own p =>
    cases h
    refine onFrame_of (.refl s) ?_
    split
    exacts [(EventOrder.frameEnds s).trans (takeStatus_order _ _ _), .frameEnds s]
  | demand header p | run header p | stop header p =>
    cases h
    exact takeDemand_order _ _ _ s
  | setGap | calibrate | linerChange =>
    cases h
    exact onRequest_order (enqueue_order _ _)
  | cancel header tag argument =>
    cases h
    exact onRequest_order (cancelEntry_order _ _ _ _)
  | holdFeed header tag =>
    cases h
    exact onRequest_order (holdFeed_order _ _ _)
  | releaseFeed header tag =>
    cases h
    exact onRequest_order (releaseFeed_order _ _ _)
  | clearFault header tag =>
    cases h
    exact onRequest_order (clearFault_order _ _ _)
  | queryFault | queryWear | queryShare | queryQueue | badKind =>
    cases h
    exact onRequest_order ((EventOrder.refl _).answer _)
  | answerFrameReceived | frameDiscarded =>
    cases h
    exact onFrame_of (.refl s) (.frameEnds s)
  | rampInterval =>
    cases h
    split
    exacts [rampInterval_order s, .refl s]
  | motorRunningFall =>
    cases h
    exact motorRunningFall_order s
  | motorRunningRise =>
    cases h
    have h : EventOrder s { s with motorRunning := true } := ⟨⟨id, fun h => { h with motor := fun _ => rfl }⟩, id⟩
    exact h.trans (internalCalibrationTest_event _)
  | primingTimerExpiry =>
    cases h
    split
    · next hs => exact primingTimerExpires_order hs.1
    · exact .refl s
  | clearTimerExpiry =>
    cases h
    split
    · exact .of_state (finishStopping_order (.refl s)) (by simp [finishStopping])
    · exact .refl s
  | stallTimerExpiry =>
    cases h
    split
    exacts [stall_order s, .refl s]
  | seekLimitExpiry =>
    cases h
    split
    exacts [seekLimitExpires_order s, .refl s]
  | seekPulseOnEnd =>
    cases h
    split
    exacts [pulseOnEnds_order s, .refl s]
  | seekPulseOffEnd =>
    cases h
    split
    exacts [pulseOffEnds_order s, .refl s]
  | settleTimerExpiry =>
    cases h
    split
    · split
      exacts [.settle (reliefEnds_order (.refl s)), .refl s]
    · exact .refl s
  | readyTimerExpiry =>
    cases h
    split
    · next c _ =>
      have hgive : EventOrder s (giveUpWord c s) := (EventOrder.refl s).plain
      exact hgive.trans (campaignEnds_order _ _ _)
    · exact .refl s
  | wordReady =>
    cases h
    have hfinish : EventOrder s { s with memory := s.memory.finish } := (EventOrder.refl s).plain
    dsimp only
    split
    exacts [hfinish.trans (wordReady_order _ _), hfinish]
  | supplyLowRise =>
    cases h
    dsimp only
    split
    · exact (EventOrder.refl s).plain
    · have hlow : KeepsOrder s { s with
          supplyLow := true, interface.campaign := s.interface.campaign.map (fun c => { c with cutOff := true }) } :=
        (KeepsOrder.refl s).plain
      exact .of_state (report_order _ _ hlow) (report_state_ne_priming _ _)
  | supplyLowFall =>
    cases h
    rw [startPending_frame]
    exact (EventOrder.refl s).plain
  | reportTimerExpiry =>
    cases h
    split
    exacts [.refl s, (EventOrder.refl s).plain]
  | transmitAttempt =>
    cases h
    split
    exacts [(EventOrder.refl s).plain, .refl s]
  | frameSent | collision =>
    cases h
    split
    · split
      exacts [(EventOrder.refl s).plain, .refl s]
    · exact .refl s
  | lineIdle =>
    cases h
    exact (EventOrder.refl s).plain

/-! ### The two invariants (O24, O4) -/

theorem tick_runSafe {s : State} (h : RunSafe s) : RunSafe (tick s) := by
  obtain ⟨h1, h2, h3, h4, h5⟩ := h
  have hgap : (tick s).gapState = s.gapState := by
    show (s.gap.activity.tick s.monitor.positionValid).state = s.gap.activity.state
    cases s.gap.activity <;> simp only [Activity.tick] <;> (try split) <;> rfl
  have htimer : ∀ t : Timer, (Timer.tick t).isSome = t.isSome := fun t => by cases t <;> rfl
  refine ⟨h1, ?_, ?_, ?_, ?_⟩
  · rw [hgap]
    exact h2
  · rw [← htimer] at h3
    exact h3
  · rw [← htimer] at h4
    exact h4
  · rw [hgap]
    exact h5

theorem reset_runSafe {s t : State} (h : exec .reset s = .next t) : RunSafe t := by
  cases h
  exact ⟨fun h => by simp [State.reset, RunState.motorRequired] at h, fun h => by simp [State.reset] at h,
    by simp [State.reset], fun h => by simp [State.reset] at h, fun h => by simp [State.reset] at h⟩

theorem exec_runSafe {c : Instr} {s t : State} (h : exec c s = .next t) (hs : RunSafe s) : RunSafe t := by
  by_cases hr : c = .reset
  · exact reset_runSafe (hr ▸ h)
  · have hkeep := exec_order h hr
    obtain ⟨horder, hprimed⟩ := (runSafe_iff s).1 hs
    exact (runSafe_iff t).2 ⟨hkeep.run horder, fun hp => hprimed (hkeep.primed hp)⟩

/-- Settles O24: a millisecond and a reset leave Run Control consistent, and every other command keeps it (`exec_order`). -/
theorem runControlStaysConsistent : Obligations.RunControlStaysConsistent := by
  unfold Obligations.RunControlStaysConsistent
  intro s t hs h
  unfold step at h
  split at h
  · cases h
    exact tick_runSafe hs
  · exact exec_runSafe h hs

end Sys2Proof.Machine

/-! ### States that only certain commands leave (O4) -/

namespace Sys2Proof.Machine

/-- UNCONFIGURED and TRIPPED stay, and the Fault Record only grows (R38, R49, R166). -/
structure Standing (s t : State) : Prop where
  stays : s.run.state = .tripped ∨ s.run.state = .unconfigured → t.run.state = s.run.state
  first : ∀ f, s.faults.first = some f → t.faults.first = some f
  seen  : ∀ k ∈ s.faults.seen, k ∈ t.faults.seen

theorem Tame.standing {s t : State} (h : Tame s t) : Standing s t := ⟨h.stays, h.first, h.seen⟩

theorem Standing.trans {s t u : State} (h : Standing s t) (h' : Standing t u) : Standing s u where
  stays hs := by
    have ht := h.stays hs
    rw [h'.stays (ht ▸ hs), ht]
  first f hf := h'.first f (h.first f hf)
  seen k hk := h'.seen k (h.seen k hk)

theorem Standing.of_eq {s t : State} (hr : t.run.state = s.run.state := by rfl) (hf : t.faults = s.faults := by rfl) :
    Standing s t :=
  ⟨fun _ => hr, by rw [hf]; exact fun _ => id, by rw [hf]; exact fun _ => id⟩

theorem enqueue_standing (e : Entry) (s : State) : Standing s (enqueue e s) := by
  rcases enqueue_cases e s with ⟨a, h⟩ | ⟨-, a, h⟩ <;> rw [h]
  · exact .of_eq
  · have hs : Standing s (State.answer a (appended e s)) := .of_eq
    exact hs.trans (settle_tame (.refl _)).standing

theorem rampInterval_standing (s : State) : Standing s (rampInterval s) := by
  have h : Standing s (setOutput (rampOutput s) { s with drive.timer := some rampPeriod }) := .of_eq
  exact h.trans (rampInterval_cases s).1.standing

theorem takeStatus_standing (source : Nat) (p : StatusPayload) (s : State) : Standing s (takeStatus source p s) := by
  unfold takeStatus
  split
  · exact .of_eq
  · split
    · have h : Standing s { s with peers.lastDuplicate := some s.seconds } := .of_eq
      exact h.trans (report_tame _ _ (.refl _)).standing
    · split <;> exact .of_eq

/-- The end of the start sequence adds to the Fault Record; it leaves STARTING, which is none of the states that stay. -/
theorem startSequenceEnd_standing (straps : Nat) (memory : StartMemory) {s : State} (hs : s.run.state = .starting) :
    Standing s (startSequenceEnd straps memory s) := by
  unfold startSequenceEnd
  extract_lets m u v
  have hleaves : ∀ t : State, t.faults = s.faults → Standing s t := fun t hf =>
    ⟨fun h => by simp [hs] at h, by rw [hf]; exact fun _ => id, by rw [hf]; exact fun _ => id⟩
  have hv : Standing s v := by
    unfold v
    split
    · refine hleaves _ ?_
      unfold startConfigured referenceFromRecord
      dsimp only
      split <;> rfl
    · exact (hleaves { u with run.state := .unconfigured } rfl).trans (report_tame _ _ (.refl _)).standing
  have hstatus : Standing v (reportStatus v) := .of_eq
  refine (hv.trans hstatus).trans ?_
  unfold reportLowSupply
  split
  exacts [(report_tame _ _ (.refl _)).standing, .of_eq]

theorem campaignEnds_tame (e : CampaignEnd) (c : Campaign) (s : State) : Tame s (campaignEnds e c s) := by
  obtain ⟨u, h, hu, -⟩ := campaignEnds_cases e c s
  rw [h]
  exact settle_tame hu

theorem onRequest_standing {header : Address} {act : State → State} {s : State}
    (h : Standing (frameEnds s) (act (frameEnds s))) : Standing s (onRequest header act s) :=
  onRequest_of .of_eq .of_eq (Standing.trans .of_eq h)

/-- Every command but RESET and CLEAR_FAULT leaves the standing states and the Fault Record. -/
theorem exec_standing {c : Instr} {s t : State} (h : exec c s = .next t) (hr : c ≠ .reset)
    (hc : ∀ header tag, c ≠ .clearFault header tag) : Standing s t := by
  cases c with
  | reset => exact absurd rfl hr
  | clearFault header tag => exact absurd rfl (hc header tag)
  | startSequenceEnd straps memory =>
    cases h
    split
    · next hs => exact startSequenceEnd_standing _ _ hs
    · exact .of_eq
  | readingEvent r =>
    cases h
    split
    exacts [(readingEvent_tame r s).standing, .of_eq]
  | beltScalePulse =>
    cases h
    split
    exacts [(settle_wearChanged_tame (pulsed_tame s)).standing, .of_eq]
  | windowClose =>
    cases h
    split
    · have h : Standing s (reopened s) := .of_eq
      exact h.trans (windowClose_tame s).standing
    · exact .of_eq
  | ageingEvent | sharePeriodExpiry =>
    cases h
    split <;> exact .of_eq
  | statusArrival header own p =>
    cases h
    refine onFrame_of .of_eq ?_
    split
    · have h : Standing s (frameEnds s) := .of_eq
      exact h.trans (takeStatus_standing _ _ _)
    · exact .of_eq
  | demand header p | run header p | stop header p =>
    cases h
    exact (takeDemand_tame _ _ _ s).standing
  | setGap | calibrate | linerChange =>
    cases h
    exact onRequest_standing (enqueue_standing _ _)
  | cancel header tag argument =>
    cases h
    exact onRequest_standing (cancelEntry_tame _ _ _ _).standing
  | holdFeed header tag =>
    cases h
    exact onRequest_standing (holdFeed_tame _ _ _).standing
  | releaseFeed header tag =>
    cases h
    exact onRequest_standing (releaseFeed_tame _ _ _).standing
  | queryFault | queryWear | queryShare | queryQueue | badKind =>
    cases h
    exact onRequest_standing .of_eq
  | answerFrameReceived | frameDiscarded =>
    cases h
    exact onFrame_of .of_eq .of_eq
  | rampInterval =>
    cases h
    split
    exacts [rampInterval_standing s, .of_eq]
  | motorRunningFall =>
    cases h
    dsimp only
    split
    · exact Standing.trans (t := { s with motorRunning := false }) .of_eq (report_tame _ _ (.refl _)).standing
    · exact .of_eq
  | motorRunningRise =>
    cases h
    exact Standing.trans (t := { s with motorRunning := true }) .of_eq (internalCalibrationTest_tame (.refl _)).standing
  | primingTimerExpiry =>
    cases h
    split
    · exact Standing.trans (t := { s with run.primingTimer := none }) .of_eq (report_tame _ _ (.refl _)).standing
    · exact .of_eq
  | clearTimerExpiry =>
    cases h
    split
    · next hs => exact (finishStopping_tame (.refl s) hs.1).standing
    · exact .of_eq
  | stallTimerExpiry =>
    cases h
    split
    · rcases stall_cases s with h | ⟨u, h, hu, -⟩ <;> rw [h]
      exacts [.of_eq, (settle_tame hu).standing]
    · exact .of_eq
  | seekLimitExpiry =>
    cases h
    split
    · rcases seekLimitExpires_cases s with h | ⟨u, h, hu, -⟩ <;> rw [h]
      exacts [.of_eq, (settle_tame hu).standing]
    · exact .of_eq
  | seekPulseOnEnd =>
    cases h
    split
    exacts [(pulseOnEnds_effect s).1.standing, .of_eq]
  | seekPulseOffEnd =>
    cases h
    split
    exacts [(pulseOffEnds_tame s).standing, .of_eq]
  | settleTimerExpiry =>
    cases h
    split
    · split
      exacts [(settle_tame (reliefEnds_effect s).1).standing, .of_eq]
    · exact .of_eq
  | readyTimerExpiry =>
    cases h
    split
    · next c _ => exact Standing.trans (t := giveUpWord c s) .of_eq (campaignEnds_tame _ _ _).standing
    · exact .of_eq
  | wordReady =>
    cases h
    dsimp only
    split
    · unfold wordReady
      split
      · exact Standing.trans (t := { s with memory := s.memory.finish }) .of_eq (campaignEnds_tame _ _ _).standing
      · split
        · refine Standing.trans ?_ (campaignEnds_tame _ _ _).standing
          rw [cutShort_frame]
          exact .of_eq
        · exact .of_eq
    · exact .of_eq
  | supplyLowRise =>
    cases h
    dsimp only
    split
    · exact .of_eq
    · exact Standing.trans (t := { s with
        supplyLow := true, interface.campaign := s.interface.campaign.map (fun c => { c with cutOff := true }) })
        .of_eq (report_tame _ _ (.refl _)).standing
  | supplyLowFall =>
    cases h
    rw [startPending_frame]
    exact .of_eq
  | reportTimerExpiry | transmitAttempt =>
    cases h
    split <;> exact .of_eq
  | frameSent | collision =>
    cases h
    split
    · split <;> exact .of_eq
    · exact .of_eq
  | lineIdle =>
    cases h
    exact .of_eq

/-- CLEAR_FAULT is no command of an UNCONFIGURED station (R142). -/
theorem exec_clearFault_unconfigured {header : Address} {tag : BitVec 3} {s t : State}
    (h : exec (.clearFault header tag) s = .next t) (hs : s.run.state = .unconfigured) : t.run.state = .unconfigured := by
  cases h
  unfold onRequest
  refine onFrame_of (P := fun t => t.run.state = .unconfigured) hs ?_
  rw [if_neg (by simp [State.takesRequest, State.active, hs, RunState.active])]
  exact hs

theorem exec_faultsSafe {c : Instr} {s t : State} (h : exec c s = .next t) (hs : FaultsSafe s) : FaultsSafe t := by
  by_cases hr : c = .reset
  · subst hr
    cases h
    exact ⟨List.nodup_nil, fun _ => ⟨rfl, rfl⟩⟩
  · exact (exec_order h hr).faults hs

/-- Settles O4: the commands that leave a standing state are RESET and CLEAR_FAULT (`exec_standing`), and every command keeps the Fault
Record consistent (`exec_order`). -/
theorem standingStatesAreLeftOnlyAsTold : Obligations.StandingStatesAreLeftOnlyAsTold := by
  unfold Obligations.StandingStatesAreLeftOnlyAsTold
  refine ⟨fun c s t h hr => ⟨fun hs => ?_, fun hc => ?_⟩, fun s t hs h => ?_⟩
  · by_cases hc : ∃ header tag, c = .clearFault header tag
    · obtain ⟨header, tag, rfl⟩ := hc
      exact exec_clearFault_unconfigured h hs
    · exact ((exec_standing h hr fun header tag he => hc ⟨header, tag, he⟩).stays (.inr hs)).trans hs
  · obtain ⟨hstays, hfirst, hseen⟩ := exec_standing h hr hc
    exact ⟨fun hs => (hstays (.inl hs)).trans hs, hfirst, hseen⟩
  · unfold step at h
    split at h
    · cases h
      exact hs
    · exact exec_faultsSafe h hs

end Sys2Proof.Machine

/-! ## What the end of an event leaves of Run Control (R42, R46) -/

namespace Sys2Proof.Machine

/-! ### Run Control at a change of the gap state -/

@[simp] theorem emptyJumpIfOpening_run (s : State) : (emptyJumpIfOpening s).run = s.run := by
  unfold emptyJumpIfOpening
  split <;> rfl

/-- Only an output that falls to 0 in STOPPING touches Run Control at a change of the gap state (R46). -/
theorem setActivity_run {act : Activity} {s : State}
    (h : s.run.state ≠ .stopping ∨ s.drive.output = 0 ∨ act.state.feeds = true) : (setActivity act s).run = s.run := by
  have hframe : (setActivity act s).run = { s.run with clearTimer := (setActivity act s).run.clearTimer } :=
    congrArg State.run (setActivity_frame act s)
  suffices hc : (setActivity act s).run.clearTimer = s.run.clearTimer by rw [hframe, hc]
  have key : ∀ u : State, u.run = s.run → u.drive = s.drive →
      (zeroIfZeroed (dropCapacity { u with gap.activity := act })).run.clearTimer = s.run.clearTimer := by
    intro u hrun hdrive
    rw [← hrun, ← hdrive] at h
    rw [← hrun, dropCapacity_frame]
    by_cases hs : u.run.state = .stopping ∧ u.drive.output ≠ 0
    · have hfeeds := (h.resolve_left (not_not.2 hs.1)).resolve_left hs.2
      rw [zeroIfZeroed_of_feeding]
      simp [State.driveMode, State.gapState, driveModeOf, hs.1, hfeeds]
    · rw [zeroIfZeroed_clearTimer, if_neg fun hc => hs ⟨hc.1, hc.2.1⟩]
  unfold setActivity
  rw [emptyJumpIfOpening_run]
  refine key _ ?_ ?_ <;> split <;> rfl

/-- OPEN empties the jump window, and nothing else is written (R133). -/
theorem emptyJumpIfOpening_frame (s : State) :
    emptyJumpIfOpening s = { s with gap.jumpWindow := (emptyJumpIfOpening s).gap.jumpWindow } := by
  unfold emptyJumpIfOpening
  split <;> rfl

theorem setActivity_of_not_leaving {act : Activity} {s : State} (h : ¬ (s.gapState = .stuck ∧ act.state ≠ .stuck)) :
    setActivity act s = emptyJumpIfOpening (zeroIfZeroed (dropCapacity { s with gap.activity := act })) := by
  unfold setActivity
  rw [if_neg h]

theorem setActivity_of_leaving {act : Activity} {s : State} (h : s.gapState = .stuck ∧ act.state ≠ .stuck) :
    setActivity act s = emptyJumpIfOpening (zeroIfZeroed (dropCapacity { setAfresh s with gap.activity := act })) := by
  unfold setActivity
  rw [if_pos h]

/-- Out of STUCK a change of the gap state leaves the approach pending mark and the load history. -/
theorem setActivity_approach_history {act : Activity} {s : State} (h : ¬ (s.gapState = .stuck ∧ act.state ≠ .stuck)) :
    (setActivity act s).gap.approach = s.gap.approach ∧ (setActivity act s).gap.history = s.gap.history := by
  rw [setActivity_of_not_leaving h, emptyJumpIfOpening_frame]
  simp

/-- Leaving STUCK sets W afresh and empties the history (R105). -/
theorem setActivity_of_stuck {act : Activity} {s : State} (h : s.gapState = .stuck) (ha : act.state ≠ .stuck) :
    (setActivity act s).gap.setpoint = s.heldInWindow s.gap.target ∧ (setActivity act s).gap.history = [] := by
  rw [setActivity_of_leaving ⟨h, ha⟩, emptyJumpIfOpening_frame]
  simp only [zeroIfZeroed_gap, dropCapacity_gap]
  exact ⟨rfl, rfl⟩

theorem setActivity_history (act : Activity) (s : State) :
    (setActivity act s).gap.history = s.gap.history ∨ (setActivity act s).gap.history = [] := by
  by_cases h : s.gapState = .stuck ∧ act.state ≠ .stuck
  exacts [.inr (setActivity_of_stuck h.1 h.2).2, .inl (setActivity_approach_history h).2]

/-! ### Operations that leave Run Control, the Fault Record and the feeder's setpoint -/

/-- Run Control, the feeder's setpoint and the Fault Record stand as they were, and the load history does or is empty. -/
structure Stands (s t : State) : Prop where
  run      : t.run = s.run
  setpoint : t.drive.setpoint = s.drive.setpoint
  faults   : t.faults = s.faults
  history  : t.gap.history = s.gap.history ∨ t.gap.history = []

@[refl] theorem Stands.refl (s : State) : Stands s s := ⟨rfl, rfl, rfl, .inl rfl⟩

theorem Stands.trans {s t u : State} (h : Stands s t) (h' : Stands t u) : Stands s u where
  run := h'.run.trans h.run
  setpoint := h'.setpoint.trans h.setpoint
  faults := h'.faults.trans h.faults
  history := by
    rcases h'.history with h2 | h2
    · rw [h2]; exact h.history
    · exact .inr h2

theorem Stands.plain {s t u : State} (h : Stands s t) (hr : u.run = t.run := by rfl)
    (hd : u.drive.setpoint = t.drive.setpoint := by rfl) (hf : u.faults = t.faults := by rfl)
    (hh : u.gap.history = t.gap.history := by rfl) : Stands s u :=
  h.trans ⟨hr, hd, hf, .inl hh⟩

theorem Stands.history_nil {s t : State} (h : Stands s t) (hs : s.gap.history = []) : t.gap.history = [] := by
  rcases h.history with h | h
  exacts [h.trans hs, h]

theorem setActivity_stands {act : Activity} {s : State}
    (h : s.run.state ≠ .stopping ∨ s.drive.output = 0 ∨ act.state.feeds = true) : Stands s (setActivity act s) :=
  ⟨setActivity_run h, setActivity_driveSetpoint act s, setActivity_faults act s, setActivity_history act s⟩

theorem updateActivity_stands (act : Activity) (s : State) : Stands s (updateActivity act s) := by
  unfold updateActivity emptyJumpIfOpening
  split <;> exact .plain (.refl s)

theorem holdW_stands (s : State) : Stands s (holdW s) := by
  unfold holdW
  split
  exacts [.refl s, .plain (.refl s)]

theorem endActive_stands (o : AnswerOutcome) (s : State) : Stands s (endActive o s) := by
  rw [endActive_frame]
  exact .plain (.refl s)

theorem requestRecord_stands (s : State) : Stands s (requestRecord s) := by
  rw [requestRecord_frame]
  exact .plain (.refl s)

theorem startSetGap_stands (e : Entry) (s : State) : Stands s (startSetGap e s) := by
  unfold startSetGap
  split
  · exact endActive_stands _ s
  · split
    · exact ((endActive_stands _ s).plain (u := { endActive _ s with gap.target := _ })).trans (holdW_stands _)
    · dsimp only
      have h : ∀ n, Stands s (setAfresh { s with gap.target := n }) := fun n => ⟨rfl, rfl, rfl, .inr rfl⟩
      split
      exacts [(h _).trans (endActive_stands _ _), ⟨rfl, rfl, rfl, .inr rfl⟩]

theorem startCalibration_stands (k : CalKind) {s : State} (h : s.calibrationReady = true) :
    Stands s (startCalibration k s) :=
  setActivity_stands (.inr (.inl (State.calibrationReady_iff.1 h).2.1))

theorem startRequestedCalibration_stands (s : State) : Stands s (startRequestedCalibration s) := by
  unfold startRequestedCalibration
  split
  · next h => exact startCalibration_stands _ h
  · exact endActive_stands _ s

/-- A new reference leaves Run Control unless it takes the reference from a feeding station (R44). -/
theorem setReference_stands {r : Reference} {s : State}
    (h : r.present = true ∨ s.run.state ≠ .running ∧ s.run.state ≠ .held) : Stands s (setReference r s) := by
  unfold setReference
  extract_lets _ u v
  have hu : Stands s u := (Stands.plain (.refl s)).trans (holdW_stands _)
  have hv : Stands s v := by
    unfold v
    split
    exacts [hu.trans (setActivity_stands (.inr (.inr rfl))), hu]
  split
  · exact hu
  · next hr =>
    obtain ⟨h1, h2⟩ := h.resolve_left hr
    rw [if_neg (by rw [hv.run]; simp [h1, h2])]
    exact hv

theorem startLinerChange_stands {s : State} (h : s.run.state ≠ .running ∧ s.run.state ≠ .held) :
    Stands s (startLinerChange s) := by
  refine Stands.trans ?_ (requestRecord_stands _)
  exact (Stands.plain (.refl s)).trans (setReference_stands (.inr h))

/-- The start of a head leaves Run Control unless a LINER_CHANGE takes the reference from a feeding station (R44). -/
theorem startHead_stands {s : State} (h : s.headStartable = true)
    (hn : s.run.state = .running ∨ s.run.state = .held → NoneWaits .linerChange s.queue) : Stands s (startHead s) := by
  unfold startHead
  split
  · exact .refl s
  · next e rest hq =>
    have hmark : Stands s { s with queue := activateHead s.queue } := .plain (.refl s)
    dsimp only
    split
    · exact hmark.trans (startSetGap_stands _ _)
    · exact hmark.trans (startRequestedCalibration_stands _)
    · next hk =>
      refine hmark.trans (startLinerChange_stands ⟨fun hr => ?_, fun hr => ?_⟩)
      exacts [(hn (.inl hr)).head_kind h hq hk, (hn (.inr hr)).head_kind h hq hk]

theorem startHeads_stands (n : Nat) {s : State}
    (hn : s.run.state = .running ∨ s.run.state = .held → NoneWaits .linerChange s.queue) : Stands s (startHeads n s) := by
  induction n generalizing s with
  | zero => exact .refl s
  | succ n ih =>
    unfold startHeads
    split
    · next h =>
      have hs := startHead_stands h hn
      exact hs.trans (ih fun hr => startHead_noneWaits (hn (hs.run ▸ hr)))
    · exact .refl s

theorem moveTest_stands (s : State) : Stands s (moveTest s) := by
  unfold moveTest
  split
  · split
    exacts [setActivity_stands (.inr (.inr rfl)), .refl s]
  · exact .refl s

theorem internalCalibrationTest_stands (s : State) : Stands s (internalCalibrationTest s) := by
  unfold internalCalibrationTest
  split
  · next h => exact startCalibration_stands _ h.2.2.2
  · exact .refl s

/-- Out of PRIMING the end of an event leaves Run Control, unless a LINER_CHANGE that waits takes the reference from a feeding
station. -/
theorem settle_stands {s : State} (hp : s.run.state ≠ .priming)
    (hn : s.run.state = .running ∨ s.run.state = .held → NoneWaits .linerChange s.queue) : Stands s (settle s) := by
  have h : Stands s (moveTest (internalCalibrationTest (startHeads s.queue.length s))) :=
    ((startHeads_stands _ hn).trans (internalCalibrationTest_stands _)).trans (moveTest_stands _)
  unfold settle primingTest
  rw [if_neg fun hc => hp (h.run ▸ hc.1)]
  exact h

/-! ### Operations that leave W and, with no request queued, the line -/

/-- W with its approach pending mark, the queue and the line stand as they were; what else is written is the activity, Run Control and
the feeder. -/
structure Rests (s t : State) : Prop where
  still    : t.still = s.still
  setpoint : t.gap.setpoint = s.gap.setpoint
  approach : t.gap.approach = s.gap.approach
  queue    : t.queue = s.queue
  line     : t.line = s.line
  history  : t.gap.history = s.gap.history ∨ t.gap.history = []

@[refl] theorem Rests.refl (s : State) : Rests s s := ⟨rfl, rfl, rfl, rfl, rfl, .inl rfl⟩

theorem Rests.trans {s t u : State} (h : Rests s t) (h' : Rests t u) : Rests s u where
  still := h'.still.trans h.still
  setpoint := h'.setpoint.trans h.setpoint
  approach := h'.approach.trans h.approach
  queue := h'.queue.trans h.queue
  line := h'.line.trans h.line
  history := by
    rcases h'.history with h2 | h2
    · rw [h2]; exact h.history
    · exact .inr h2

theorem Rests.history_nil {s t : State} (h : Rests s t) (hs : s.gap.history = []) : t.gap.history = [] := by
  rcases h.history with h | h
  exacts [h.trans hs, h]

theorem State.heldInWindow_of_still {s t : State} (h : s.still = t.still) (w : Nat) : s.heldInWindow w = t.heldInWindow w :=
  (congrArg (fun u : State => u.heldInWindow w) h :)

theorem State.reference_of_still {s t : State} (h : s.still = t.still) : s.gap.reference = t.gap.reference :=
  (congrArg (fun u : State => u.gap.reference) h :)

theorem State.gapEstimate_of_still {s t : State} (h : s.still = t.still) : s.gapEstimate = t.gapEstimate :=
  (congrArg State.gapEstimate h :)

theorem setActivity_rests (act : Activity) {s : State} (h : s.gapState ≠ .stuck) : Rests s (setActivity act s) where
  still := setActivity_still act s
  setpoint := setActivity_setpoint act h
  approach := (setActivity_approach_history fun hc => h hc.1).1
  queue := setActivity_queue act s
  line := setActivity_line act s
  history := .inl (setActivity_approach_history fun hc => h hc.1).2

theorem changeRun_rests (r : RunState) (s : State) : Rests s (changeRun r s) where
  still := changeRun_still r s
  setpoint := changeRun_gapSetpoint r s
  approach := by rw [changeRun_frame]
  queue := changeRun_queue r s
  line := changeRun_line r s
  history := by
    rw [changeRun_frame]
    dsimp only
    split
    exacts [.inr rfl, .inl rfl]

theorem noteFault_rests (k : FaultKind) (s : State) : Rests s (noteFault k s) :=
  ⟨noteFault_still k s, rfl, rfl, rfl, rfl, .inl rfl⟩

theorem flushQueue_of_nil {s : State} (h : s.queue = []) : flushQueue s = s := by
  cases s
  subst h
  rfl

theorem endForTrip_rests (s : State) : Rests s (endForTrip s) := by
  unfold endForTrip
  split
  · next h => exact setActivity_rests _ (by simp [State.gapState, h, Activity.state])
  · next h => exact setActivity_rests _ (by simp [State.gapState, h, Activity.state])
  · exact .refl s

theorem trip_rests {s : State} (h : s.queue = []) : Rests s (trip s) := by
  unfold trip
  rw [flushQueue_of_nil h]
  exact (endForTrip_rests s).trans (changeRun_rests _ _)

theorem report_rests (k : FaultKind) (trips : Bool) {s : State} (h : s.queue = []) : Rests s (report k trips s) := by
  unfold report
  split
  exacts [(noteFault_rests k s).trans (trip_rests h), noteFault_rests k s]

theorem enterRun_rests (r : RunState) {s : State} (h : s.queue = []) : Rests s (enterRun r s) := by
  unfold enterRun
  split
  · exact (changeRun_rests r s).trans (report_rests _ _ ((changeRun_queue r s).trans h))
  · exact changeRun_rests r s

theorem moveTest_rests (s : State) : Rests s (moveTest s) := by
  unfold moveTest
  split
  · split
    · next h => exact setActivity_rests _ (by simp [(State.movesAllowed_iff.1 h.1).2.1])
    · exact .refl s
  · exact .refl s

theorem internalCalibrationTest_rests (s : State) : Rests s (internalCalibrationTest s) := by
  unfold internalCalibrationTest
  split
  · next h => exact setActivity_rests _ (by simp [h.2.1])
  · exact .refl s

theorem primingTest_rests {s : State} (h : s.queue = []) : Rests s (primingTest s) := by
  unfold primingTest
  split
  exacts [enterRun_rests _ h, .refl s]

/-- With no request queued the end of an event makes its three tests. -/
theorem settle_of_nil {s : State} (h : s.queue = []) :
    settle s = primingTest (moveTest (internalCalibrationTest s)) := by
  unfold settle
  rw [h]
  rfl

/-- With no request queued the end of an event leaves W and the line. -/
theorem settle_rests {s : State} (h : s.queue = []) : Rests s (settle s) := by
  have hm := (internalCalibrationTest_rests s).trans (moveTest_rests _)
  rw [settle_of_nil h]
  exact hm.trans (primingTest_rests (hm.queue.trans h))

/-! ### The tests that do not act -/

theorem internalCalibrationTest_of_state {s : State} (h : s.run.state ≠ .priming) : internalCalibrationTest s = s :=
  if_neg fun hc => h (State.standingRequest_iff.1 hc.1).1

theorem internalCalibrationTest_of_reference {s : State} (h : s.gap.reference.present = true) :
    internalCalibrationTest s = s :=
  if_neg fun hc => by simp [State.standingRequest, h] at hc

theorem internalCalibrationTest_of_gapState {s : State} (h : s.gapState ≠ .holding) : internalCalibrationTest s = s :=
  if_neg fun hc => h hc.2.1

theorem moveTest_of_gapState {s : State} (h : s.gapState ≠ .holding) : moveTest s = s := by
  unfold moveTest
  split
  · rw [if_neg fun hc => h (State.movesAllowed_iff.1 hc.1).2.1]
  · rfl

theorem moveTest_of_noEstimate {s : State} (h : s.gapEstimate = none) : moveTest s = s := by
  unfold moveTest
  rw [h]

theorem moveTest_of_tripped {s : State} (h : s.run.state = .tripped) : moveTest s = s := by
  unfold moveTest
  split
  · rw [if_neg fun hc => (State.movesAllowed_iff.1 hc.1).2.2.2.2 h]
  · rfl

theorem primingTest_of_not {s : State} (h : ¬ s.Primed) : primingTest s = s := if_neg h

theorem gapEstimate_of_unreferenced {s : State} (h : s.gap.reference.present = false) : s.gapEstimate = none := by
  unfold State.gapEstimate
  cases hr : s.gap.reference.contact? with
  | none => rfl
  | some c => simp [Reference.present, hr] at h

theorem present_of_gapEstimate {s : State} {g : Nat} (h : s.gapEstimate = some g) : s.gap.reference.present = true := by
  by_contra hr
  simp [gapEstimate_of_unreferenced (by simpa using hr)] at h

theorem State.headStartable_of_nil {s : State} (h : s.queue = []) : s.headStartable = false := by
  simp [State.headStartable, h]

theorem State.headStartable_of_gapState {s : State} (h1 : s.gapState ≠ .holding) (h2 : s.gapState ≠ .stuck) :
    s.headStartable = false := by
  simp [State.headStartable, h1, h2]

/-- While the activity is neither HOLDING nor STUCK the end of an event does nothing. -/
theorem settle_of_busy {s : State} (h1 : s.gapState ≠ .holding) (h2 : s.gapState ≠ .stuck) : settle s = s := by
  rw [settle_of_not_startable (State.headStartable_of_gapState h1 h2), internalCalibrationTest_of_gapState h1,
    moveTest_of_gapState h1, primingTest_of_not fun hp => h1 hp.2.2]

end Sys2Proof.Machine

/-! ## Faults, trips and the level inputs (O60, O22, O21) -/

namespace Sys2Proof.Machine

/-! ### What a trip leaves (R49) -/

/-- A trip flushes the queue and beyond that leaves W, its mark and the line. -/
theorem trip_rests_flush (s : State) : Rests (flushQueue s) (trip s) :=
  (endForTrip_rests _).trans (changeRun_rests _ _)

theorem changeRun_capacity {r : RunState} (h : r ≠ .running) (s : State) : (changeRun r s).share.capacity = 0 := by
  simp [changeRun, dropCapacity_frame, State.feedPermitted, h]

/-- A trip stops the timers of Run Control and takes feeder and capacity to 0 (R43, R46, R55, R56, R87). -/
theorem trip_feeder (s : State) :
    (trip s).run.primingTimer = none ∧ (trip s).run.clearTimer = none ∧ (trip s).drive.output = 0 ∧
      (trip s).drive.setpoint = 0 ∧ (trip s).share.capacity = 0 := by
  refine ⟨?_, ?_, (trip_stops s).2.2, ?_, ?_⟩
  · simp [trip]
  · rw [trip, changeRun_clearTimer]
    simp
  · simp [trip]
  · exact changeRun_capacity (by simp) _

theorem trip_history {s : State} (h : s.run.state = .running) : (trip s).gap.history = [] := by
  rw [trip, changeRun_frame]
  exact if_pos (by simp [h])

theorem trip_reference (s : State) : (trip s).gap.reference = s.gap.reference :=
  State.reference_of_still (trip_still s)

/-- The answers of a flush: the head's as its mark tells, then CANCELLED for every WAITING entry (R150). -/
theorem flushQueue_line {s : State} {e : Entry} {rest : List Entry} (hq : s.queue = e :: rest)
    (hrest : ∀ f ∈ rest, f.active = false) :
    (flushQueue s).line = (rest.map (fun f => s.entryAnswer f .cancelled)).foldl LinePort.push
      (s.line.push (s.entryAnswer e (if e.active then .stopped .tripped else .cancelled))) := by
  simp only [flushQueue, hq, List.foldl_cons, List.foldl_map]
  exact List.foldl_ext _ _ _ fun l f hf => by rw [hrest f hf]; rfl

/-- Settles O60: a report notes its fault, and in an active run state a tripping kind goes on to the trip. -/
theorem faultReportFillsTheRecordAndTrips : Obligations.FaultReportFillsTheRecordAndTrips := by
  unfold Obligations.FaultReportFillsTheRecordAndTrips
  intro k trips s t
  have hfaults : t.faults = (noteFault k s).faults := report_faults k trips s
  refine ⟨fun hf => ?_, fun f hf => ?_, fun k' => ?_, fun h => ?_, fun htrips ht => ?_⟩
  · simp [hfaults, noteFault, hf]
  · simp [hfaults, noteFault, hf]
  · rw [hfaults]
    exact noteFault_seen k k' s
  · have ht : t = noteFault k s := report_of_noted k h
    rw [ht]
    rfl
  · subst htrips
    have htrip : t = trip (noteFault k s) := report_of_trip k ht
    clear_value t
    subst htrip
    have hrest := trip_rests_flush (noteFault k s)
    obtain ⟨hpriming, hclear, houtput, hsetpoint, hcapacity⟩ := trip_feeder (noteFault k s)
    refine ⟨trip_state _, hpriming, hclear, houtput, hsetpoint, hcapacity, trip_queue _, hrest.approach, trip_reference _,
      hrest.setpoint, State.target_of_still (trip_still _), fun hr => trip_history (s := noteFault k s) hr,
      trip_activity _, fun hq => ?_, fun e rest hq hactive => ?_⟩
    · rw [hrest.line, flushQueue_of_nil (s := noteFault k s) hq]
      rfl
    · rw [hrest.line, flushQueue_line (s := noteFault k s) hq hactive]
      split <;> rfl

/-! ### The records of the setting memory (R129, R164) -/

/-- A campaign starts by enabling the memory and writing word 64 (R164). -/
theorem startCampaign_effect (r : WearRecord) (s : State) :
    (startCampaign r s).interface.campaign =
      some { record := r, word := 64, ready := 25, cutOff := false, forLiner := true } ∧
    (startCampaign r s).interface.pending = s.interface.pending ∧ (startCampaign r s).memory.enabled = true ∧
    (startCampaign r s).memory.programming = some (64, r.word s.stationNumber 64) := by
  refine ⟨rfl, rfl, ?_, ?_⟩
  · simp [startCampaign, Memory.setEnabled]
  · simp [startCampaign, Memory.write, Memory.setEnabled]

theorem startPending_of_none {s : State} (h : s.interface.pending = none) : startPending s = s := by
  simp [startPending, h]

theorem startPending_of_busy {s : State} (h : s.interface.campaign ≠ none) : startPending s = s := by
  unfold startPending
  split
  exacts [if_neg fun hc => h hc.1, rfl]

theorem startPending_of_idle {s : State} {r : WearRecord} (h : s.interface.pending = some r)
    (hc : s.interface.campaign = none) (hl : s.supplyLow = false) :
    startPending s = startCampaign r { s with interface.pending := none } := by
  simp [startPending, h, hc, hl]

theorem RunState.motorRequired_iff {r : RunState} :
    r.motorRequired = true ↔ r = .running ∨ r = .held ∨ r = .stopping := by
  cases r <;> simp [RunState.motorRequired]

theorem RunState.trippable_of_motorRequired {r : RunState} (h : r.motorRequired = true) : r.trippable = true := by
  rcases RunState.motorRequired_iff.1 h with rfl | rfl | rfl <;> rfl

/-- The run state after a supply report: TRIPPED but in UNCONFIGURED (R165). -/
theorem report_state_of_started (k : FaultKind) {s : State} (h : s.run.state ≠ .starting) :
    (report k true s).run.state = if s.run.state = .unconfigured then .unconfigured else .tripped := by
  rw [report_state]
  cases hs : s.run.state <;> simp_all [RunState.trippable]

/-- Settles O22: the edges of the two inputs are reports (`report_of_trip`), the test of a waiting internal calibration, and the start
of a pending record. -/
theorem motorAndSupplyEdges : Obligations.MotorAndSupplyEdges := by
  unfold Obligations.MotorAndSupplyEdges
  intro s
  refine ⟨fun hr => ?fall, fun hr => ?idleFall, ?rise, fun hs => ?idleRise, fun hs => ?held, fun hs => ?low,
    fun h => ?idleGood, fun r hp hc => ?good⟩
  case fall =>
    have hreq := RunState.motorRequired_iff.2 hr
    obtain ⟨hstate, hqueue, houtput⟩ :=
      report_stops .motorStopped (s := { s with motorRunning := false }) (RunState.trippable_of_motorRequired hreq)
    refine ⟨_, congrArg Host.Outcome.next (if_pos hreq), hstate, report_noted _ _ _, ?_, houtput, hqueue⟩
    exact State.motorRunning_of_still (report_still .motorStopped true { s with motorRunning := false })
  case idleFall => exact congrArg Host.Outcome.next (if_neg fun h => hr (RunState.motorRequired_iff.1 h))
  case rise =>
    refine ⟨_, rfl, ?_, ?_, internalCalibrationTest_state _⟩
    · exact State.motorRunning_of_still (internalCalibrationTest_still { s with motorRunning := true })
    · exact (internalCalibrationTest_stands { s with motorRunning := true }).faults
  case idleRise =>
    refine congrArg Host.Outcome.next (if_neg fun h => ?_)
    have hrequest : s.standingRequest = true := h.1
    simp [hs] at hrequest
  case held => exact congrArg Host.Outcome.next (if_pos hs)
  case low =>
    obtain ⟨u, hu⟩ : ∃ u : State, u = { s with
      supplyLow := true, interface.campaign := s.interface.campaign.map (fun c => { c with cutOff := true }) } := ⟨_, rfl⟩
    have hexec : exec .supplyLowRise s = .next (report .supplyLow true u) := by
      rw [hu]
      exact congrArg Host.Outcome.next (if_neg hs)
    have hstill : (report .supplyLow true u).still = u.still := report_still _ _ _
    have hinterface : (report .supplyLow true u).interface = u.interface := (congrArg (fun v : State => v.interface) hstill :)
    have hmemory : (report .supplyLow true u).memory = u.memory := (congrArg (fun v : State => v.memory) hstill :)
    have hlow : (report .supplyLow true u).supplyLow = u.supplyLow := (congrArg (fun v : State => v.supplyLow) hstill :)
    have hstate : u.run.state = s.run.state := by rw [hu]
    refine ⟨_, hexec, ?_, report_noted _ _ _, ?_, ?_, ?_, ?_, fun ht => ?_⟩
    · rw [hlow, hu]
    · rw [hinterface, hu]
    · rw [hmemory, hu]
    · rw [hinterface, hu]
    · rw [report_state_of_started _ (hstate ▸ hs), hstate]
    · obtain ⟨-, hqueue, houtput⟩ := report_stops .supplyLow (s := u) (hstate ▸ ht)
      exact ⟨hqueue, houtput⟩
  case idleGood =>
    refine congrArg Host.Outcome.next ?_
    rcases h with h | h
    exacts [startPending_of_none h, startPending_of_busy h]
  case good =>
    have hstart := startPending_of_idle (s := { s with supplyLow := false }) hp hc rfl
    obtain ⟨hcampaign, hpending, henabled, hprogramming⟩ :=
      startCampaign_effect r { s with supplyLow := false, interface.pending := none }
    have hexec : exec .supplyLowFall s =
        .next (startCampaign r { s with supplyLow := false, interface.pending := none }) := congrArg Host.Outcome.next hstart
    exact ⟨_, hexec, rfl, hpending, henabled, hprogramming, _, hcampaign, rfl, rfl, rfl⟩

end Sys2Proof.Machine

/-! ## Demands at the receiver, and the timers of Run Control (O17, O21) -/

namespace Sys2Proof.Machine

/-! ### Accepting a demand (R34 to R36) -/

theorem stageOf_iff {b : Byte} {k : StationKind} :
    stageOf b ≠ .none ∧ stageOf b = k ↔ b = 1 ∧ k = .primary ∨ b = 2 ∧ k = .secondary := by
  unfold stageOf
  split
  · next h => simp [h, eq_comm]
  · split
    · next h => simp [h, eq_comm]
    · next h1 h2 =>
      refine ⟨fun h => absurd rfl h.1, ?_⟩
      rintro (⟨h, -⟩ | ⟨h, -⟩)
      exacts [absurd h h1, absurd h h2]

theorem sequenceNewer_iff {last : Option Byte} {n : Byte} :
    sequenceNewer last n = true ↔ ∀ l ∈ last, 1 ≤ (n - l).toNat ∧ (n - l).toNat ≤ 127 := by
  cases last <;> simp [sequenceNewer, within_iff]

/-- A frame that is not taken up has ended, and that is all. -/
theorem takeDemand_of_unaccepted {header : Address} {p : DemandPayload} {s : State} (c : Option Command)
    (h : s.acceptsDemand header p = false) (hr : s.line.receiver ≠ .waitingIdle) :
    takeDemand header p c s = frameEnds s := by
  have hframe : (frameEnds s).acceptsDemand header p = false := h
  rw [takeDemand, onFrame_taken _ hr, hframe]
  exact if_neg (by simp)

/-- A frame that is taken up acts on the state in which it has ended. -/
theorem takeDemand_of_accepted {header : Address} {p : DemandPayload} {s : State} (c : Option Command)
    (h : s.acceptsDemand header p = true) (hr : s.line.receiver ≠ .waitingIdle) :
    takeDemand header p c s = actDemand p c (frameEnds s) := by
  rw [takeDemand, onFrame_taken _ hr]
  exact if_pos h

/-- Settles O17: acceptance is its four tests, and under any row an unaccepted frame ends at the receiver. -/
theorem demandIsAcceptedWhenItMatchesAndIsNewer : Obligations.DemandIsAcceptedWhenItMatchesAndIsNewer := by
  unfold Obligations.DemandIsAcceptedWhenItMatchesAndIsNewer
  intro header p s
  refine ⟨?_, fun h hr => ?_⟩
  · rw [← sequenceNewer_iff, ← agree_iff, ← stageOf_iff]
    simp [State.acceptsDemand, demandMatches, and_assoc]
  · exact ⟨congrArg Host.Outcome.next (takeDemand_of_unaccepted _ h hr),
      congrArg Host.Outcome.next (takeDemand_of_unaccepted _ h hr),
      congrArg Host.Outcome.next (takeDemand_of_unaccepted _ h hr)⟩

/-! ### The record of a run (R129, R164) -/

/-- What a request for the wear record leaves at the Setting Memory Interface: a campaign with its first word, or the pending record. -/
def Stored (s t : State) : Prop :=
  if s.interface.campaign = none ∧ s.supplyLow = false then
    (∃ c, t.interface.campaign = some c ∧ c.record = s.wearRecord ∧ c.word = 64 ∧ c.ready = 25 ∧ c.cutOff = false) ∧
    t.interface.pending = s.interface.pending ∧ t.memory.enabled = true ∧
    t.memory.programming = some (64, s.wearRecord.word s.stationNumber 64)
  else t.interface = { s.interface with pending := some s.wearRecord } ∧ t.memory = s.memory

theorem requestRecord_stored (s : State) : Stored s (requestRecord s) := by
  unfold Stored requestRecord recordArrives
  split
  · obtain ⟨hcampaign, hpending, henabled, hprogramming⟩ := startCampaign_effect s.wearRecord s
    exact ⟨⟨_, hcampaign, rfl, rfl, rfl, rfl⟩, hpending, henabled, hprogramming⟩
  · exact ⟨rfl, rfl⟩

theorem State.interface_of_still {s t : State} (h : s.still = t.still) : s.interface = t.interface :=
  (congrArg (fun u : State => u.interface) h :)

theorem State.memory_of_still {s t : State} (h : s.still = t.still) : s.memory = t.memory :=
  (congrArg (fun u : State => u.memory) h :)

theorem State.sample_of_fixed {s t : State} (h : s.fixed = t.fixed) : s.monitor.sample = t.monitor.sample :=
  (congrArg (fun u : State => u.monitor.sample) h :)

theorem Stored.of_still {s s' t t' : State} (h : Stored s t) (hs : s'.still = s.still) (ht : t'.still = t.still) :
    Stored s' t' := by
  have key : Stored s' t := ((congrArg (fun u : State => Stored u t) hs.symm :) ▸ h : Stored s'.still t)
  unfold Stored at key ⊢
  rwa [State.interface_of_still ht, State.memory_of_still ht]

/-- The end of STOPPING: IDLE with its timer stopped, the feeder at 0, the record requested (R46, R55, R129). -/
theorem finishStopping_effect (s : State) :
    (finishStopping s).run.state = .idle ∧ (finishStopping s).run.clearTimer = none ∧
      (finishStopping s).drive.output = 0 ∧ (finishStopping s).drive.setpoint = 0 ∧
      (finishStopping s).faults = s.faults ∧ (finishStopping s).queue = s.queue ∧ Stored s (finishStopping s) := by
  have hout : (changeRun .idle s).drive.output = 0 := changeRun_output_of_zeroed rfl
  have hrec := requestRecord_frame (changeRun .idle s)
  refine ⟨by simp [finishStopping], ?_, ?_, ?_, ?_, ?_, ?_⟩
  · rw [finishStopping, hrec, changeRun_clearTimer]
    simp
  · rw [finishStopping, hrec, hout]
  · rw [finishStopping, hrec, changeRun_setpoint]
    simp
  · rw [finishStopping, hrec]
    exact changeRun_faults _ _
  · rw [finishStopping, hrec]
    exact changeRun_queue _ _
  · exact (requestRecord_stored (changeRun .idle s)).of_still (changeRun_still _ _).symm rfl

/-! ### The window close in STOPPING (R46) -/

theorem historyTakes_of_not_running (l : LoadSample) {s : State} (h : s.run.state ≠ .running) : historyTakes l s = s :=
  if_neg fun hc => h hc.1

/-- Out of PRIMING and with no request queued the end of an event leaves Run Control, the fault record and the setting memory, and an
output at 0. -/
theorem settle_idle {s : State} (hp : s.run.state ≠ .priming) (hq : s.queue = []) :
    (settle s).run = s.run ∧ (settle s).drive.setpoint = s.drive.setpoint ∧ (settle s).still = s.still ∧
      (s.drive.output = 0 → (settle s).drive.output = 0) := by
  have hstands := settle_stands hp fun _ => by simp [NoneWaits, hq]
  refine ⟨hstands.run, hstands.setpoint, (settle_rests hq).still, fun h0 => ?_⟩
  rcases (settle_tame (Tame.refl s)).output with h | h
  exacts [h.trans h0, h]

theorem execWindowClose_of_stopping {s : State} (h : s.run.state = .stopping) :
    exec .windowClose s = .next (settle (clearTakes (closingSample s) (reopened s))) := by
  have hactive : s.active = true := by simp [State.active, h, RunState.active]
  have htakes := historyTakes_of_not_running (closingSample s) (s := reopened s) (by simp [reopened, h])
  exact congrArg Host.Outcome.next ((if_pos hactive).trans ((windowClose_eq s).trans (by rw [htakes])))

theorem reopened_stored {s t : State} (h : Stored (reopened s) t) : Stored s t := h

/-- Settles O21: the priming timer reports, the clear timer ends STOPPING, and a window close in STOPPING is that end or nothing to
Run Control. -/
theorem runControlTimersExpire : Obligations.RunControlTimersExpire := by
  unfold Obligations.RunControlTimersExpire
  intro s
  refine ⟨fun hs ht => ?priming, fun hs ht => ?clear, fun hs hq => ?window⟩
  case priming =>
    have hexec : exec .primingTimerExpiry s = .next (report .calBlocked true { s with run.primingTimer := none }) :=
      congrArg Host.Outcome.next (if_pos ⟨hs, ht⟩)
    have htrip := report_of_trip .calBlocked (s := { s with run.primingTimer := none }) (by simp [hs, RunState.trippable])
    have hnoted := report_noted .calBlocked true { s with run.primingTimer := none }
    refine ⟨_, hexec, ?_⟩
    rw [htrip] at hnoted ⊢
    obtain ⟨hpriming, -, houtput, hsetpoint, -⟩ := trip_feeder (noteFault .calBlocked { s with run.primingTimer := none })
    have hact := congrArg Activity.state (trip_activity (noteFault .calBlocked { s with run.primingTimer := none }))
    have hgap : ∀ g : GapState, g = .moving ∨ g = .calibrating →
        (trip (noteFault .calBlocked { s with run.primingTimer := none })).gapState ≠ g := by
      intro g hg hc
      have hc' := hact.symm.trans hc
      split at hc'
      · rcases hg with rfl | rfl <;> cases hc'
      · next hn => exact hn (hg.imp (fun h => hc'.trans h) fun h => hc'.trans h)
    exact ⟨trip_state _, hnoted, hpriming, houtput, hsetpoint, trip_queue _, hgap _ (.inl rfl), hgap _ (.inr rfl),
      trip_reference _⟩
  case clear =>
    exact ⟨_, congrArg Host.Outcome.next (if_pos ⟨hs, ht⟩), finishStopping_effect s⟩
  case window =>
    refine ⟨_, closingSample s, execWindowClose_of_stopping hs, ?_, fun ht hl => ?_, fun hkeep => ?_⟩
    · exact State.sample_of_fixed ((settle_fixed _).trans (clearTakes_fixed (closingSample s) (reopened s)))
    · have hfinish : clearTakes (closingSample s) (reopened s) = finishStopping (reopened s) := if_pos ⟨hs, ht, hl⟩
      obtain ⟨hstate, hclear, houtput, hsetpoint, -, hqueue, hstored⟩ := finishStopping_effect (reopened s)
      obtain ⟨hrun, hset, hstill, hzero⟩ := settle_idle (s := finishStopping (reopened s)) (by simp [hstate]) (hqueue.trans hq)
      rw [hfinish, hrun]
      exact ⟨hstate, hclear, hzero houtput, hset.trans hsetpoint, reopened_stored (hstored.of_still rfl hstill)⟩
    · have hkept : clearTakes (closingSample s) (reopened s) = reopened s := if_neg fun hc => by
        obtain ⟨-, ht, hl⟩ := hc
        rcases hkeep with h | h
        · simp [reopened, h] at ht
        · exact Nat.not_le.2 h hl
      obtain ⟨hrun, -, hstill, -⟩ := settle_idle (s := reopened s) (by simp [reopened, hs]) hq
      rw [hkept]
      exact ⟨hrun, (State.interface_of_still hstill :), (State.memory_of_still hstill :)⟩

end Sys2Proof.Machine

/-! ## The end of the start sequence (O9) -/

namespace Sys2Proof.Machine

/-! ### The first STATUS (R156, R159) -/

@[simp] theorem reportStatus_reportTimer (s : State) : (reportStatus s).line.reportTimer = some s.reportPeriodMs := by
  unfold reportStatus
  dsimp only
  rw [LinePort.takeNext_frame]

/-- An idle transmitter with no answer waiting takes the fresh STATUS at once (R153). -/
theorem reportStatus_line {s : State} (h : s.line.inFlight = none) (ha : s.line.answers = []) :
    (reportStatus s).line = { s.line with
      inFlight := some { frame := .status { payload := assembleStatus s, lateLoss := false }, driving := false }
      collisions := 0, backoff := 0, slot := none, reportTimer := some s.reportPeriodMs } :=
  LinePort.takeNext_status h ha rfl

/-- Before the first accepted DEMAND the flag byte marks no sequence number. -/
theorem statusFlags_sequence {s : State} (h : s.run.lastSequence = none) : s.statusFlags.getLsbD 6 = false := by
  have hbit : ∀ b1 b2 b3 b4 b5 b6 : Bool, (BitVec.ofNat 8 (b1.toNat + 2 * b2.toNat + 4 * b3.toNat + 8 * b4.toNat +
      16 * b5.toNat + 32 * b6.toNat + 64 * (none : Option Byte).isSome.toNat)).getLsbD 6 = false := by decide
  unfold State.statusFlags
  rw [h]
  exact hbit _ _ _ _ _ _

/-! ### A supply that is low at the end of the sequence (R165) -/

theorem reportLowSupply_still (s : State) : (reportLowSupply s).still = s.still := by
  unfold reportLowSupply
  split
  exacts [report_still _ _ s, rfl]

theorem reportLowSupply_line {s : State} (h : s.queue = []) : (reportLowSupply s).line = s.line := by
  unfold reportLowSupply
  split
  exacts [(report_rests _ _ h).line, rfl]

theorem reportLowSupply_of_good {s : State} (h : s.supplyLow = false) : reportLowSupply s = s := if_neg (by simp [h])

theorem reportLowSupply_of_low {s : State} (h : s.supplyLow = true) : reportLowSupply s = report .supplyLow true s :=
  if_pos h

/-- In UNCONFIGURED a low supply is noted, and nothing follows. -/
theorem reportLowSupply_of_unconfigured {s : State} (h : s.run.state = .unconfigured) :
    reportLowSupply s = { s with faults := (reportLowSupply s).faults } ∧
      ∀ k ∈ s.faults.seen, k ∈ (reportLowSupply s).faults.seen := by
  unfold reportLowSupply
  split
  · rw [report_of_noted _ (.inr (by simp [h, RunState.trippable]))]
    exact ⟨rfl, fun k hk => (noteFault_seen _ _ s).2 (.inr hk)⟩
  · exact ⟨rfl, fun _ hk => hk⟩

/-! ### The verdict (R38, R162) -/

/-- The station with straps, memory and settings as read. -/
def readIn (straps : Nat) (m : Memory) (s : State) : State :=
  { s with memory := m, stationNumber := straps, settings := decodeSettings m.read }

/-- The station after the verdict, as its first STATUS finds it. -/
def judged (straps : Nat) (m : Memory) (s : State) : State :=
  if configurationValid straps m.read then
    startConfigured (wearRecordValid straps m.read) (decodeWearRecord m.read) (readIn straps m s)
  else startUnconfigured (readIn straps m s)

theorem startSequenceEnd_eq (straps : Nat) (source : StartMemory) (s : State) :
    startSequenceEnd straps source s = reportLowSupply (reportStatus (judged straps (startMemory s.memory source) s)) := rfl

theorem judged_of_valid {straps : Nat} {m : Memory} (s : State) (h : configurationValid straps m.read = true) :
    judged straps m s =
      startConfigured (wearRecordValid straps m.read) (decodeWearRecord m.read) (readIn straps m s) := if_pos h

theorem judged_of_invalid {straps : Nat} {m : Memory} (s : State) (h : configurationValid straps m.read = false) :
    judged straps m s = startUnconfigured (readIn straps m s) := if_neg (by simp [h])

theorem referenceFromRecord_frame (valid : Bool) (r : WearRecord) (s : State) :
    referenceFromRecord valid r s = { s with gap := (referenceFromRecord valid r s).gap } := by
  unfold referenceFromRecord
  split <;> rfl

theorem startConfigured_faults (valid : Bool) (r : WearRecord) (s : State) :
    (startConfigured valid r s).faults = s.faults := by
  unfold startConfigured startTarget
  rw [referenceFromRecord_frame]
  rfl

/-- An invalid configuration changes the run state and notes SETTING_INVALID. -/
theorem startUnconfigured_eq (s : State) :
    startUnconfigured s = noteFault .settingInvalid { s with run.state := .unconfigured } :=
  report_of_noted _ (.inl rfl)

/-- What the verdict leaves of the station, and what it has read in. -/
theorem judged_fields (straps : Nat) (m : Memory) (s : State) :
    (judged straps m s).line = s.line ∧ (judged straps m s).queue = s.queue ∧
      (judged straps m s).run =
        { s.run with state := if configurationValid straps m.read = true then .idle else .unconfigured } ∧
      (judged straps m s).supplyLow = s.supplyLow ∧ (judged straps m s).memory = m ∧
      (judged straps m s).stationNumber = straps ∧ (judged straps m s).settings = decodeSettings m.read := by
  unfold judged
  split
  · unfold startConfigured startTarget
    rw [referenceFromRecord_frame]
    exact ⟨rfl, rfl, rfl, rfl, rfl, rfl, rfl⟩
  · rw [startUnconfigured_eq]
    exact ⟨rfl, rfl, rfl, rfl, rfl, rfl, rfl⟩

/-! ### The blocks that become active (R1, R19, R53, R85, R94, R116) -/

/-- Every block starts its timer, and G_t takes the start gap. -/
theorem startConfigured_timers (valid : Bool) (r : WearRecord) (s : State) :
    (startConfigured valid r s).monitor.window = some s.settings.sampleWindow ∧
      (startConfigured valid r s).peers.ageing = some 100 ∧
      (startConfigured valid r s).share.timer = some s.settings.sharePeriod ∧
      (startConfigured valid r s).drive.timer = some 100 ∧
      (startConfigured valid r s).gap.target = clampGap s.settings s.settings.startGap := by
  unfold startConfigured startTarget
  rw [referenceFromRecord_frame]
  exact ⟨rfl, rfl, rfl, rfl, rfl⟩

/-- Reference, wear and totals are those of the record where it is valid (R116). -/
theorem startConfigured_wear (valid : Bool) (r : WearRecord) (s : State) :
    if valid = true then
      (startConfigured valid r s).gap.reference =
        (match r.contact with
          | some c => .provisional c
          | none => .unreferenced) ∧
      (startConfigured valid r s).gap.wearAcc = r.wearAcc ∧ (startConfigured valid r s).gap.linerTonnes = r.linerTonnes ∧
      (startConfigured valid r s).gap.linerWear = r.linerWear ∧ (startConfigured valid r s).gap.calCount = r.calCount ∧
      (startConfigured valid r s).gap.wearUnknown = false
    else
      (startConfigured valid r s).gap.reference = .unreferenced ∧ (startConfigured valid r s).gap.wearAcc = 0 ∧
      (startConfigured valid r s).gap.linerTonnes = 0 ∧ (startConfigured valid r s).gap.linerWear = 0 ∧
      (startConfigured valid r s).gap.calCount = 0 ∧ (startConfigured valid r s).gap.wearUnknown = true := by
  cases valid
  · exact ⟨rfl, rfl, rfl, rfl, rfl, rfl⟩
  · refine ⟨?_, rfl, rfl, rfl, rfl, rfl⟩
    unfold startConfigured startTarget referenceFromRecord
    cases r.contact <;> rfl

theorem State.timers_of_still {s t : State} (h : t.still = s.still) :
    t.monitor.window = s.monitor.window ∧ t.peers = s.peers ∧ t.share.timer = s.share.timer ∧
      t.drive.timer = s.drive.timer ∧ t.line.reportTimer = s.line.reportTimer :=
  ⟨(congrArg (fun u : State => u.monitor.window) h :), (congrArg (fun u : State => u.peers) h :),
    (congrArg (fun u : State => u.share.timer) h :), (congrArg (fun u : State => u.drive.timer) h :),
    (congrArg (fun u : State => u.line.reportTimer) h :)⟩

theorem State.read_of_still {s t : State} (h : t.still = s.still) :
    t.stationNumber = s.stationNumber ∧ t.settings = s.settings ∧ t.memory = s.memory :=
  ⟨(congrArg (fun u : State => u.stationNumber) h :), (congrArg (fun u : State => u.settings) h :),
    (congrArg (fun u : State => u.memory) h :)⟩

/-! ### The end of the sequence -/

section
variable (straps : Nat) (m : Memory) (s : State)

/-- The first STATUS tells the verdict, no sequence number and no command, and an idle transmitter has taken it. -/
theorem reportLowSupply_firstStatus (hf : s.line.inFlight = none) (ha : s.line.answers = []) (hq : s.queue = []) :
    ∃ h : HeldStatus, (reportLowSupply (reportStatus (judged straps m s))).line = { s.line with
        inFlight := some { frame := .status h, driving := false }, collisions := 0, backoff := 0, slot := none
        reportTimer := some (judged straps m s).reportPeriodMs } ∧
      h.payload.runState = (if configurationValid straps m.read = true then 3 else 2) ∧
      (s.run.lastSequence = none → h.payload.flags.getLsbD 6 = false) ∧
      (s.run.lastCommand = none → h.payload.command = 0) := by
  obtain ⟨hline, hqueue, hrun, -⟩ := judged_fields straps m s
  refine ⟨{ payload := assembleStatus (judged straps m s), lateLoss := false }, ?_, ?_, fun hs => ?_, fun hc => ?_⟩
  · rw [reportLowSupply_line (s := reportStatus (judged straps m s)) (hqueue.trans hq),
      reportStatus_line (hline ▸ hf) (hline ▸ ha), hline]
  · simp only [assembleStatus, hrun]
    split <;> rfl
  · exact statusFlags_sequence (by rw [hrun, hs])
  · simp only [assembleStatus, hrun, hc]
    rfl

/-- With a valid configuration a low supply trips the station, which a good one leaves IDLE (R161, R165). -/
theorem reportLowSupply_state (h : configurationValid straps m.read = true) :
    (reportLowSupply (reportStatus (judged straps m s))).run.state = if s.supplyLow = true then .tripped else .idle := by
  obtain ⟨-, -, hrun, hlow, -⟩ := judged_fields straps m s
  have hidle : (reportStatus (judged straps m s)).run.state = .idle := by
    rw [if_pos h] at hrun
    exact congrArg RunControl.state hrun
  have hsupply : (reportStatus (judged straps m s)).supplyLow = s.supplyLow := hlow
  split
  · next hs =>
    rw [reportLowSupply_of_low (hsupply.trans hs), report_state, hidle]
    rfl
  · next hs => rw [reportLowSupply_of_good (hsupply.trans (by simpa using hs)), hidle]

end

/-- With a valid configuration: the timers, G_t, and the reference with its totals as the wear record gives them (R116). -/
theorem reportLowSupply_configured {straps : Nat} {m : Memory} (s : State) (h : configurationValid straps m.read = true) :
    let c := decodeSettings m.read
    let valid := wearRecordValid straps m.read
    let t := reportLowSupply (reportStatus (judged straps m s))
    t.monitor.window = some c.sampleWindow ∧ t.peers.ageing = some 100 ∧ t.share.timer = some c.sharePeriod ∧
      t.drive.timer = some 100 ∧ t.line.reportTimer = some c.reportPeriod ∧ t.gap.target = clampGap c c.startGap ∧
      t.wear = (startConfigured valid (decodeWearRecord m.read) (readIn straps m s)).wear := by
  intro c valid t
  have hjudged := judged_of_valid s h
  have hstill : t.still = (reportStatus (judged straps m s)).still := reportLowSupply_still _
  have hrun := (judged_fields straps m s).2.2.1
  have hperiod : (judged straps m s).reportPeriodMs = c.reportPeriod := by
    rw [if_pos h] at hrun
    simp only [State.reportPeriodMs, hrun, (judged_fields straps m s).2.2.2.2.2.2]
    rfl
  obtain ⟨hwindow, hpeers, hshare, hdrive, hreport⟩ := State.timers_of_still hstill
  obtain ⟨hwindow', hageing, hshare', hdrive', htarget⟩ :=
    startConfigured_timers valid (decodeWearRecord m.read) (readIn straps m s)
  rw [← hjudged] at hwindow' hageing hshare' hdrive' htarget ⊢
  refine ⟨hwindow.trans hwindow', (congrArg PeerTable.ageing hpeers).trans hageing, hshare.trans hshare',
    hdrive.trans hdrive', ?_, (State.target_of_still hstill).trans htarget, (State.wear_of_still hstill :)⟩
  rw [hreport, reportStatus_reportTimer, hperiod]

/-- With an invalid configuration nothing but run state, Fault Record, line and what was read has changed (R38, R162). -/
theorem reportLowSupply_unconfigured {straps : Nat} {m : Memory} (s : State)
    (h : configurationValid straps m.read = false) :
    let t := reportLowSupply (reportStatus (judged straps m s))
    t = { readIn straps m s with
      run := { s.run with state := .unconfigured }, faults := t.faults, freeCount := t.freeCount, line := t.line } ∧
      .settingInvalid ∈ t.faults.seen ∧ t.line.reportTimer = some 500 := by
  intro t
  have hjudged : judged straps m s = noteFault .settingInvalid { readIn straps m s with run.state := .unconfigured } :=
    (judged_of_invalid s h).trans (startUnconfigured_eq _)
  obtain ⟨hframe, hseen⟩ : t = { reportStatus (judged straps m s) with faults := t.faults } ∧
      ∀ k ∈ (reportStatus (judged straps m s)).faults.seen, k ∈ t.faults.seen :=
    reportLowSupply_of_unconfigured (s := reportStatus (judged straps m s)) (by rw [hjudged]; rfl)
  clear_value t
  have hline : t.line = (reportStatus (judged straps m s)).line :=
    (congrArg State.line hframe :)
  have hfree : t.freeCount = (reportStatus (judged straps m s)).freeCount :=
    (congrArg State.freeCount hframe :)
  refine ⟨?_, hseen _ ?_, ?_⟩
  · rw [hline, hfree]
    refine hframe.trans ?_
    rw [hjudged]
    rfl
  · rw [hjudged]
    exact (noteFault_seen _ _ _).2 (.inl rfl)
  · rw [hline, reportStatus_reportTimer, hjudged]
    rfl

/-- Settles O9: the sequence ends in the verdict, the first STATUS, and the report of a low supply (`startSequenceEnd_eq`). -/
theorem startEndsIdleOrUnconfigured : Obligations.StartEndsIdleOrUnconfigured := by
  unfold Obligations.StartEndsIdleOrUnconfigured
  intro straps source s
  refine ⟨fun hs => congrArg Host.Outcome.next (if_neg hs), fun hs => ?_⟩
  intro m
  have hm : startMemory s.memory source = m := by cases source <;> rfl
  have hexec : exec (.startSequenceEnd straps source) s =
      .next (reportLowSupply (reportStatus (judged straps.toNat m s))) :=
    congrArg Host.Outcome.next ((if_pos hs).trans (by rw [startSequenceEnd_eq, hm]))
  obtain ⟨hline, hqueue, hrun, hlow, hmemory, hnumber, hsettings⟩ := judged_fields straps.toNat m s
  obtain ⟨hnumber', hsettings', hmemory'⟩ :=
    State.read_of_still (reportLowSupply_still (reportStatus (judged straps.toNat m s)))
  clear_value m
  refine ⟨_, hexec, hnumber'.trans hnumber, hsettings'.trans hsettings, hmemory'.trans hmemory,
    fun hf ha hq => ?status, fun hvalid => ?configured, fun hinvalid => ?unconfigured⟩
  case status =>
    obtain ⟨h, hstatus, hstate, hflags, hcommand⟩ := reportLowSupply_firstStatus straps.toNat m s hf ha hq
    rw [hstatus]
    exact ⟨h, rfl, rfl, rfl, hstate, hflags, hcommand⟩
  case configured =>
    obtain ⟨hwindow, hageing, hshare, hdrive, hreport, htarget, hwear⟩ := reportLowSupply_configured s hvalid
    rw [hsettings'.trans hsettings]
    refine ⟨reportLowSupply_state _ _ _ hvalid, fun hl => ?_, fun hl => ?_, hwindow, hageing, hshare, hdrive, hreport,
      htarget, ?_⟩
    · rw [reportLowSupply_of_low (s := reportStatus (judged straps.toNat m s)) (hlow.trans hl)]
      exact report_noted _ _ _
    · rw [reportLowSupply_of_good (s := reportStatus (judged straps.toNat m s)) (hlow.trans hl)]
      exact (congrArg State.faults (judged_of_valid s hvalid)).trans (startConfigured_faults _ _ _)
    · obtain ⟨hreference, hliner, hcount, -⟩ := State.reference_of_wear hwear
      rw [hreference, hliner, hcount, State.wearAcc_of_wear hwear, State.linerTonnes_of_wear hwear,
        State.wearUnknown_of_wear hwear]
      exact startConfigured_wear _ _ _
  case unconfigured =>
    obtain ⟨hframe, hseen, hreport⟩ := reportLowSupply_unconfigured s hinvalid
    rw [hframe] at hseen hreport ⊢
    exact ⟨rfl, hseen, hreport, rfl, rfl, rfl, rfl, rfl, rfl, rfl⟩

end Sys2Proof.Machine

/-! ## CLEAR_FAULT (O48) -/

namespace Sys2Proof.Machine

/-! ### What follows an event before the PRIMING test -/

/-- The Fault Record stands, STUCK is not entered, and a station that is not PRIMING, or has no reference there, is no different. -/
structure Settling (s t : State) : Prop where
  faults   : t.faults = s.faults
  stuck    : t.gapState = .stuck → s.gapState = .stuck
  unprimed : (s.run.state = .priming → s.gap.reference.present = false) →
    t.run.state = .priming → t.gap.reference.present = false

@[refl] theorem Settling.refl (s : State) : Settling s s := ⟨rfl, id, id⟩

theorem Settling.trans {s t u : State} (h : Settling s t) (h' : Settling t u) : Settling s u :=
  ⟨h'.faults.trans h.faults, h.stuck ∘ h'.stuck, h'.unprimed ∘ h.unprimed⟩

theorem Settling.plain {s t u : State} (h : Settling s t) (hf : u.faults = t.faults := by rfl)
    (ha : u.gap.activity = t.gap.activity := by rfl) (hr : u.run.state = t.run.state := by rfl)
    (hg : u.gap.reference = t.gap.reference := by rfl) : Settling s u :=
  h.trans ⟨hf, by simp [State.gapState, ha], by rw [hr, hg]; exact id⟩

theorem setActivity_settling {act : Activity} (h : act.state ≠ .stuck) (s : State) : Settling s (setActivity act s) :=
  ⟨setActivity_faults act s, fun hs => absurd ((setActivity_gapState act s).symm.trans hs) h, by simp⟩

theorem endActive_settling (o : AnswerOutcome) (s : State) : Settling s (endActive o s) := by
  rw [endActive_frame]
  exact .plain (.refl s)

theorem holdW_settling (s : State) : Settling s (holdW s) := by
  unfold holdW
  split
  exacts [.refl s, .plain (.refl s)]

theorem startSetGap_settling (e : Entry) (s : State) : Settling s (startSetGap e s) := by
  unfold startSetGap
  split
  · exact endActive_settling _ s
  · split
    · exact ((endActive_settling _ s).plain (u := { endActive _ s with gap.target := _ })).trans (holdW_settling _)
    · dsimp only
      have h : ∀ n, Settling s (setAfresh { s with gap.target := n }) := fun n => .plain (.refl s)
      split
      exacts [(h _).trans (endActive_settling _ _), .plain (.refl s)]

theorem startRequestedCalibration_settling (s : State) : Settling s (startRequestedCalibration s) := by
  unfold startRequestedCalibration
  split
  exacts [setActivity_settling (by simp [Activity.state]) s, endActive_settling _ s]

/-- A LINER_CHANGE leaves the station without a reference (R128). -/
theorem startLinerChange_reference (s : State) : (startLinerChange s).gap.reference = .unreferenced := by
  have href : ∀ u : State, (setReference .unreferenced u).gap.reference = .unreferenced := fun u =>
    State.reference_of_still (setReference_still .unreferenced u)
  rw [startLinerChange, requestRecord_frame]
  exact href _

theorem setReference_unreferenced_settling (s : State) :
    (setReference .unreferenced s).faults = s.faults ∧
      ((setReference .unreferenced s).gapState = .stuck → s.gapState = .stuck) := by
  unfold setReference
  extract_lets _ u v
  have hu : u.faults = s.faults ∧ u.gapState = s.gapState := by
    unfold u holdW
    split <;> exact ⟨rfl, rfl⟩
  have hv : v.faults = s.faults ∧ (v.gapState = .stuck → s.gapState = .stuck) := by
    unfold v
    split
    exacts [⟨(setActivity_faults _ _).trans hu.1, fun h => by simp [Activity.state] at h⟩, ⟨hu.1, fun h => hu.2 ▸ h⟩]
  rw [if_neg (by simp [Reference.present, Reference.contact?])]
  split
  exacts [⟨(changeRun_faults _ _).trans hv.1, fun h => hv.2 ((changeRun_gapState _ _).symm.trans h)⟩, hv]

theorem requestRecord_gapState (s : State) : (requestRecord s).gapState = s.gapState := by
  rw [requestRecord_frame]
  rfl

theorem startLinerChange_settling (s : State) : Settling s (startLinerChange s) := by
  refine ⟨?_, fun h => ?_, fun _ _ => by rw [startLinerChange_reference]; rfl⟩
  · rw [startLinerChange, requestRecord_frame]
    exact (setReference_unreferenced_settling _).1
  · unfold startLinerChange at h
    rw [requestRecord_gapState] at h
    have hs := (setReference_unreferenced_settling _).2 h
    exact hs

theorem startHead_settling (s : State) : Settling s (startHead s) := by
  unfold startHead
  split
  · exact .refl s
  · have hmark : Settling s { s with queue := activateHead s.queue } := .plain (.refl s)
    dsimp only
    split
    exacts [hmark.trans (startSetGap_settling _ _), hmark.trans (startRequestedCalibration_settling _),
      hmark.trans (startLinerChange_settling _)]

theorem startHeads_settling (n : Nat) (s : State) : Settling s (startHeads n s) := by
  induction n generalizing s with
  | zero => exact .refl s
  | succ n ih =>
    unfold startHeads
    split
    exacts [(startHead_settling s).trans (ih _), .refl s]

theorem internalCalibrationTest_settling (s : State) : Settling s (internalCalibrationTest s) := by
  unfold internalCalibrationTest
  split
  exacts [setActivity_settling (by simp [Activity.state]) s, .refl s]

theorem moveTest_settling (s : State) : Settling s (moveTest s) := by
  unfold moveTest
  split
  · split
    exacts [setActivity_settling (by simp [Activity.state]) s, .refl s]
  · exact .refl s

theorem settle_before_priming (s : State) :
    ∃ u, Settling s u ∧ settle s = primingTest u :=
  ⟨_, ((startHeads_settling _ s).trans (internalCalibrationTest_settling _)).trans (moveTest_settling _), rfl⟩

/-- The end of an event reports nothing unless the station is PRIMING with a reference. -/
theorem settle_faults {s : State} (h : s.run.state = .priming → s.gap.reference.present = false) :
    (settle s).faults = s.faults := by
  obtain ⟨u, hu, hsettle⟩ := settle_before_priming s
  rw [hsettle, primingTest_of_not, hu.faults]
  rintro ⟨hp, hr, -⟩
  simp [hu.unprimed h hp] at hr

/-- A run state entered at HOLDING leaves HOLDING, whether it trips for the motor or not (R48). -/
theorem enterRun_gapState {r : RunState} {s : State} (h : s.gapState = .holding) : (enterRun r s).gapState = .holding := by
  have hc : (changeRun r s).gapState = .holding := (changeRun_gapState r s).trans h
  unfold enterRun
  split
  · rcases report_activity .motorStopped true (changeRun r s) with ha | ⟨-, ha⟩
    exacts [(congrArg Activity.state ha).trans hc, congrArg Activity.state ha]
  · exact hc

/-- The end of an event never makes the gap STUCK. -/
theorem settle_stuck {s : State} (h : s.gapState ≠ .stuck) : (settle s).gapState ≠ .stuck := by
  obtain ⟨u, hu, hsettle⟩ := settle_before_priming s
  rw [hsettle]
  unfold primingTest
  split
  · next hp =>
    rw [enterRun_gapState hp.2.2]
    simp
  · exact fun hs => h (hu.stuck hs)

/-! ### What an accepted CLEAR_FAULT ends (R50, R105, R148) -/

/-- The state in which an accepted CLEAR_FAULT has also left TRIPPED (R50). -/
def untripped (s : State) : State :=
  if s.run.state = .tripped then changeRun .idle (faultsCleared s) else faultsCleared s

theorem clearAccepted_eq (s : State) :
    clearAccepted s = if (untripped s).gapState = .stuck then setActivity .holding (untripped s) else untripped s := rfl

theorem untripped_rests (s : State) : Rests (faultsCleared s) (untripped s) := by
  unfold untripped
  split
  exacts [changeRun_rests _ _, .refl _]

theorem untripped_fields (s : State) :
    (untripped s).faults = { first := none, seen := [], further := false } ∧ (untripped s).gapState = s.gapState ∧
      (untripped s).run.state = if s.run.state = .tripped then .idle else s.run.state := by
  unfold untripped
  split
  · exact ⟨changeRun_faults _ _, changeRun_gapState _ _, changeRun_state _ _⟩
  · exact ⟨rfl, rfl, rfl⟩

theorem clearAccepted_fields (s : State) :
    (clearAccepted s).faults = { first := none, seen := [], further := false } ∧
      (clearAccepted s).gapState = (if s.gapState = .stuck then .holding else s.gapState) ∧
      (clearAccepted s).run.state = (if s.run.state = .tripped then .idle else s.run.state) ∧
      (clearAccepted s).queue = s.queue ∧ (clearAccepted s).line = s.line := by
  obtain ⟨hfaults, hgap, hstate⟩ := untripped_fields s
  have hrests := untripped_rests s
  rw [clearAccepted_eq, hgap]
  split
  · exact ⟨(setActivity_faults _ _).trans hfaults, setActivity_gapState _ _, (setActivity_state _ _).trans hstate,
      (setActivity_queue _ _).trans hrests.queue, (setActivity_line _ _).trans hrests.line⟩
  · exact ⟨hfaults, hgap, hstate, hrests.queue, hrests.line⟩

/-- STUCK is left with W set afresh (R105). -/
theorem clearAccepted_of_stuck {s : State} (h : s.gapState = .stuck) :
    (clearAccepted s).gap.setpoint = s.heldInWindow s.gap.target ∧ (clearAccepted s).gap.history = [] := by
  have hgap : (untripped s).gapState = .stuck := (untripped_fields s).2.1.trans h
  have hstill := (untripped_rests s).still
  rw [clearAccepted_eq, if_pos hgap]
  obtain ⟨hsetpoint, hhistory⟩ := setActivity_of_stuck (act := .holding) hgap (by simp [Activity.state])
  refine ⟨hsetpoint.trans ?_, hhistory⟩
  rw [State.heldInWindow_of_still hstill, State.target_of_still hstill]
  rfl

/-- A move starts where moves are allowed and G is off W by more than the hold band (R99). -/
theorem moveTest_starts {s : State} {g : Nat} (hg : s.gapEstimate = some g) (ha : s.movesAllowed = true)
    (hd : s.settings.holdBand < gapDistance g s.gap.setpoint) : (moveTest s).gapState = .moving := by
  unfold moveTest
  rw [hg]
  dsimp only
  rw [if_pos ⟨ha, .inl hd⟩]
  exact setActivity_gapState _ _

/-- With a reference and no request queued, a G that is off W in HOLDING is moved at the end of the event (R99). -/
theorem settle_moves {s : State} {g : Nat} (hq : s.queue = []) (hg : s.gapEstimate = some g) (ha : s.movesAllowed = true)
    (hd : s.settings.holdBand < gapDistance g s.gap.setpoint) : (settle s).gapState = .moving := by
  have hmove := moveTest_starts hg ha hd
  rw [settle_of_nil hq, internalCalibrationTest_of_reference (present_of_gapEstimate hg),
    primingTest_of_not fun hp => by simpa [hmove] using hp.2.2, hmove]

theorem State.headStartable_iff {s : State} :
    s.headStartable = true ↔ s.active = true ∧ (s.gapState = .holding ∨ s.gapState = .stuck) ∧
      ∃ e rest, s.queue = e :: rest ∧ e.active = false := by
  unfold State.headStartable
  cases s.queue <;> simp [and_assoc]

theorem settle_state_of_not_startable {s : State} (hp : s.run.state ≠ .priming) (h : s.headStartable = false) :
    (settle s).run.state = s.run.state := by
  have hstate : (moveTest (internalCalibrationTest s)).run.state = s.run.state := by simp
  rw [settle_of_not_startable h, primingTest_of_not fun hc => hp (hstate ▸ hc.1), hstate]

theorem State.conditionPresent_iff {s : State} :
    s.conditionPresent = true ↔
      (FaultKind.motorStopped ∈ s.faults.seen ∧ s.motorRunning = false) ∨ s.monitor.validity.pressure = .broken ∨
        s.monitor.validity.position = .broken ∨
        (∃ d, s.peers.lastDuplicate = some d ∧ s.seconds - d < s.settings.forgetTime) ∨ s.supplyLow = true := by
  have hduplicate : s.duplicateRecent = true ↔
      ∃ d, s.peers.lastDuplicate = some d ∧ s.seconds - d < s.settings.forgetTime := by
    unfold State.duplicateRecent
    cases s.peers.lastDuplicate <;> simp
  simp [State.conditionPresent, hduplicate, or_assoc]

/-- A request that the queue takes up acts on the state in which its frame has ended. -/
theorem onRequest_taken {header : Address} {s : State} (act : State → State) (h1 : s.addressedAlone header = true)
    (h2 : s.active = true) (hr : s.line.receiver ≠ .waitingIdle) : onRequest header act s = act (frameEnds s) := by
  rw [onRequest, onFrame_taken _ hr]
  have htakes : (frameEnds s).takesRequest header = true := by
    change (s.addressedAlone header && s.active) = true
    rw [h1, h2]
    rfl
  exact if_pos htakes

/-- Settles O48: what an accepted CLEAR_FAULT leaves (`clearAccepted_fields`, `clearAccepted_of_stuck`) goes through the end of the
event. -/
theorem clearFaultEmptiesTheRecord : Obligations.ClearFaultEmptiesTheRecord := by
  unfold Obligations.ClearFaultEmptiesTheRecord
  intro header tag s haddressed hactive hreceiver persists answered
  have htaken := onRequest_taken (clearFault header tag) haddressed hactive hreceiver
  have hcondition : (frameEnds s).conditionPresent = true ↔ persists := State.conditionPresent_iff (s := s)
  refine ⟨fun hp => ?_, fun hp => ?_⟩
  · refine congrArg Host.Outcome.next (htaken.trans ?_)
    rw [clearFault, if_pos (hcondition.2 hp)]
    rfl
  · obtain ⟨w, hw⟩ : ∃ w, w = answerNow header tag (some .clearFault) .done (clearAccepted (frameEnds s)) := ⟨_, rfl⟩
    have hexec : exec (.clearFault header tag) s = .next (settle w) := by
      refine congrArg Host.Outcome.next (htaken.trans ?_)
      rw [clearFault, if_neg (mt hcondition.1 hp), hw]
    obtain ⟨hfaults, hgap, hstate, hqueue, hline⟩ := clearAccepted_fields (frameEnds s)
    have hstill : w.still = (faultsCleared (frameEnds s)).still := by
      rw [hw, answerNow_still]
      exact (clearAccepted_effect _).2
    replace hfaults : w.faults = { first := none, seen := [], further := false } := by rw [hw]; exact hfaults
    replace hgap : w.gapState = if s.gapState = .stuck then .holding else s.gapState := by rw [hw]; exact hgap
    replace hstate : w.run.state = if s.run.state = .tripped then .idle else s.run.state := by rw [hw]; exact hstate
    replace hqueue : w.queue = s.queue := by rw [hw]; exact hqueue
    have hanswer : w.line = answered .done := by
      rw [hw]
      exact congrArg (fun l => LinePort.push l _) hline
    have hcleared : s.gapState = .stuck → w.gap.setpoint = s.heldInWindow s.gap.target ∧ w.gap.history = [] := by
      rw [hw]
      exact clearAccepted_of_stuck (s := frameEnds s)
    clear hw
    refine ⟨_, hexec, ?tramps, settle_stuck ?gap, fun hn => ?faults, fun ht => ?tripped, fun ht hn hh => ?state,
      fun hq => ?answer, fun hs hq => ?stuck⟩
    case tramps =>
      have hfixed := (settle_fixed w).trans (State.fixed_of_still hstill)
      exact (congrArg (fun u : State => u.gap.trampList) hfixed :)
    case gap =>
      rw [hgap]
      split
      · simp
      · assumption
    case faults =>
      refine (settle_faults fun hw => ?_).trans hfaults
      rw [hstate] at hw
      split at hw <;> simp_all
    case tripped =>
      rw [if_pos ht] at hstate
      rw [settle_state (by simp [hstate]) (by simp [hstate]), hstate]
    case state =>
      rw [if_neg ht] at hstate
      have hnot : w.headStartable = false := by
        refine Bool.eq_false_iff.2 fun hc => Bool.eq_false_iff.1 hh ?_
        obtain ⟨-, hg, hhead⟩ := State.headStartable_iff.1 hc
        refine State.headStartable_iff.2 ⟨hactive, ?_, hqueue ▸ hhead⟩
        rw [hgap] at hg
        split at hg
        exacts [.inr ‹_›, hg]
      rw [settle_state_of_not_startable (hstate ▸ hn) hnot, hstate]
    case answer =>
      have hrests := settle_rests (hqueue.trans hq)
      exact ⟨hrests.queue.trans (hqueue.trans hq), hrests.line.trans hanswer⟩
    case stuck =>
      obtain ⟨hsetpoint, hhistory⟩ := hcleared hs
      have hrests := settle_rests (hqueue.trans hq)
      refine ⟨?_, hrests.setpoint.trans hsetpoint, hrests.history_nil hhistory, fun g hg hv hd => ?_⟩
      · exact (State.target_of_still (hrests.still.trans hstill)).trans rfl
      · rw [hrests.setpoint] at hd
        refine settle_moves (hqueue.trans hq) (g := g) ?_ ?_ ?_
        · exact (State.gapEstimate_of_still hstill).trans hg
        · refine State.movesAllowed_iff.2 ⟨?_, by rw [hgap, if_pos hs], ?_, ?_, ?_⟩
          · unfold State.active at hactive ⊢
            rw [hstate]
            split
            exacts [rfl, hactive]
          · exact present_of_gapEstimate ((State.gapEstimate_of_still hstill).trans hg)
          · exact (congrArg (fun u : State => u.monitor.positionValid) hstill :).trans hv
          · rw [hstate]
            split
            exacts [by simp, ‹_›]
        · exact (State.settings_of_still hstill) ▸ hd

end Sys2Proof.Machine

/-! ## The end of an event in PRIMING, and a calibration without contact (O36) -/

namespace Sys2Proof.Machine

/-! ### The end of an event with no head to start -/

section
variable {s : State} (h : s.headStartable = false)
include h

theorem settle_of_tripped (ht : s.run.state = .tripped) : settle s = s := by
  rw [settle_of_not_startable h, internalCalibrationTest_of_state (by simp [ht]), moveTest_of_tripped ht,
    primingTest_of_not fun hp => by simp [State.Primed, ht] at hp]

/-- Without a reference the end of an event is the test of a waiting internal calibration. -/
theorem settle_of_unreferenced (hr : s.gap.reference.present = false) : settle s = internalCalibrationTest s := by
  have hr' : (internalCalibrationTest s).gap.reference.present = false := by
    rw [State.reference_of_still (internalCalibrationTest_still s), hr]
  rw [settle_of_not_startable h, moveTest_of_noEstimate (gapEstimate_of_unreferenced hr'),
    primingTest_of_not fun hp => by simpa [hr'] using hp.2.1]

/-- Out of PRIMING the end of an event is the move test. -/
theorem settle_of_not_priming (hp : s.run.state ≠ .priming) : settle s = moveTest s := by
  rw [settle_of_not_startable h, internalCalibrationTest_of_state hp, primingTest_of_not fun hc => hp (by simpa using hc.1)]

end

/-- The move test acts by starting a move, or not at all. -/
theorem moveTest_cases (s : State) : moveTest s = s ∨ (moveTest s).gapState = .moving := by
  unfold moveTest
  split
  · split
    exacts [.inr (setActivity_gapState _ _), .inl rfl]
  · exact .inl rfl

/-- In PRIMING with a reference at HOLDING a move starts, or the station goes on to run (R42). -/
theorem settle_of_primed {s : State} (h : s.headStartable = false) (hp : s.Primed) :
    ((settle s).gapState = .moving ∧ (settle s).run = s.run) ∨
      ((settle s).gapState = .holding ∧ settle s = enterRun .running s) := by
  obtain ⟨hs, hr, hh⟩ := hp
  rw [settle_of_not_startable h, internalCalibrationTest_of_reference hr]
  rcases moveTest_cases s with hm | hm
  · have hrun : primingTest (moveTest s) = enterRun .running s := by
      rw [hm]
      exact if_pos ⟨hs, hr, hh⟩
    rw [hrun]
    exact .inr ⟨enterRun_gapState hh, rfl⟩
  · rw [primingTest_of_not fun hc => by simpa [hm] using hc.2.2]
    exact .inl ⟨hm, (moveTest_stands s).run⟩

/-- RUNNING entered from PRIMING (R42, R48). -/
theorem enterRun_of_priming {s : State} (hp : s.run.state = .priming) :
    (enterRun .running s).run.primingTimer = none ∧
    (s.motorRunning = true →
      (enterRun .running s).run.state = .running ∧ (enterRun .running s).faults = s.faults) ∧
    (s.motorRunning = false →
      (enterRun .running s).run.state = .tripped ∧ .motorStopped ∈ (enterRun .running s).faults.seen) := by
  by_cases hm : s.motorRunning = true
  · have hrun : enterRun .running s = changeRun .running s := if_neg fun hc => hc.2.2 hm
    rw [hrun]
    exact ⟨by simp, fun _ => ⟨changeRun_state _ _, changeRun_faults _ _⟩, fun h => by simp [hm] at h⟩
  · have hrun : enterRun .running s = report .motorStopped true (changeRun .running s) :=
      if_pos ⟨by simp [RunState.motorRequired], by simp [hp, RunState.motorRequired], hm⟩
    have htrip := report_of_trip .motorStopped (s := changeRun .running s) (by simp [RunState.trippable])
    have hnoted := report_noted .motorStopped true (changeRun .running s)
    rw [hrun]
    rw [htrip] at hnoted ⊢
    exact ⟨(trip_feeder _).1, fun h => absurd h hm, fun _ => ⟨trip_state _, hnoted⟩⟩

/-- A standing request that meets the start conditions starts OPENING, Run Control left as it was (R41, R120). -/
theorem internalCalibrationTest_starts {s : State} {p : Nat} (hr : s.standingRequest = true) (hh : s.gapState = .holding)
    (ha : s.active = true) (hc : s.calibrationReady = true) (hp : s.monitor.position = some p) :
    (internalCalibrationTest s).gap.activity = .calibrating
      { kind := .internal, seekLimit := some (s.settings.seekLimit * 1000), phase := .opening p } ∧
    (internalCalibrationTest s).run = s.run := by
  have hstart : internalCalibrationTest s = startCalibration .internal s := if_pos ⟨hr, hh, ha, hc⟩
  rw [hstart]
  refine ⟨?_, (startCalibration_stands _ hc).run⟩
  rw [startCalibration, setActivity_activity, hp]
  rfl

theorem internalCalibrationTest_of_unready {s : State} (h : s.calibrationReady = false) : internalCalibrationTest s = s :=
  if_neg fun hc => by simp [h] at hc

theorem State.standingRequest_of_nil {s : State} (hq : s.queue = []) (hp : s.run.state = .priming)
    (hr : s.gap.reference.present = false) : s.standingRequest = true := by
  simp [State.standingRequest, State.activeKind, State.activeEntry, hq, hp, hr]

theorem State.active_of_priming {s : State} (h : s.run.state = .priming) : s.active = true := by
  simp [State.active, h, RunState.active]

theorem setActivity_output_of_zeroed {act : Activity} {s : State} (h : driveModeOf s.run.state act.state = .zeroed) :
    (setActivity act s).drive.output = 0 := by
  have key : ∀ u : State, u.run.state = s.run.state →
      (zeroIfZeroed (dropCapacity { u with gap.activity := act })).drive.output = 0 := by
    intro u hu
    refine zeroIfZeroed_output _ ?_
    simpa [State.driveMode, State.gapState, hu] using h
  unfold setActivity
  rw [emptyJumpIfOpening_drive]
  refine key _ ?_
  split <;> rfl

/-! ### A calibration without contact (R124) -/

/-- A calibration that ends leaves HOLDING, Run Control and W. -/
theorem stopCalibration_holds {s : State} (h : s.gapState = .calibrating) :
    (stopCalibration s).gapState = .holding ∧ (stopCalibration s).run = s.run ∧ Rests s (stopCalibration s) :=
  ⟨setActivity_gapState _ _, setActivity_run (.inr (.inr rfl)), setActivity_rests _ (by simp [h])⟩

/-- An internal calibration without contact trips the PRIMING station. -/
theorem calibrationFails_internal {s : State} (hp : s.run.state = .priming) (h : s.gapState = .calibrating) :
    StoppedByTrip (calibrationFails .internal s) ∧ .calNoContact ∈ (calibrationFails .internal s).faults.seen ∧
      (calibrationFails .internal s).gapState = .holding ∧ (calibrationFails .internal s).still = s.still := by
  obtain ⟨hgap, hrun, hrests⟩ := stopCalibration_holds h
  have htrippable : (stopCalibration s).run.state.trippable = true := by simp [hrun, hp, RunState.trippable]
  refine ⟨report_stops _ htrippable, report_noted _ _ _, ?_, calibrationFails_still _ s⟩
  rcases report_activity .calNoContact true (stopCalibration s) with ha | ⟨-, ha⟩
  exacts [(congrArg Activity.state ha).trans hgap, congrArg Activity.state ha]

/-- A requested calibration without contact ends its entry, and leaves Run Control, W and reference. -/
theorem calibrationFails_requested {s : State} {e : Entry} (h : s.gapState = .calibrating) (hq : s.queue = [e])
    (ha : e.active = true) (hk : e.kind = .calibrate) :
    let t := calibrationFails .requested s
    t.gapState = .holding ∧ t.run = s.run ∧ t.still = s.still ∧ t.gap.setpoint = s.gap.setpoint ∧ t.queue = [] ∧
      .calNoContact ∈ t.faults.seen ∧ t.line = s.line.push (s.entryAnswer e (.stopped .noContact)) ∧
      t.drive.output = (stopCalibration s).drive.output := by
  obtain ⟨hgap, hrun, hrests⟩ := stopCalibration_holds h
  obtain ⟨v, hv⟩ : ∃ v, v = report .calNoContact false (stopCalibration s) := ⟨_, rfl⟩
  have hnoted : v = noteFault .calNoContact (stopCalibration s) := hv.trans (report_of_noted _ (.inl rfl))
  have hvrests : Rests s v := hnoted ▸ hrests.trans (noteFault_rests _ _)
  have hvgap : v.gapState = .holding := hnoted ▸ hgap
  have hvrun : v.run = s.run := hnoted ▸ hrun
  have hvseen : .calNoContact ∈ v.faults.seen := hv ▸ report_noted _ _ _
  have hvoutput : v.drive.output = (stopCalibration s).drive.output := by rw [hnoted, noteFault_drive]
  have hanswer : v.entryAnswer e (.stopped .noContact) = s.entryAnswer e (.stopped .noContact) := by
    simp only [State.entryAnswer, State.remaining, State.gapEstimate_of_still hvrests.still, hvrests.setpoint]
  have hend : calibrationFails .requested s =
      { v with queue := [], line := s.line.push (s.entryAnswer e (.stopped .noContact)) } := by
    have hkind : v.activeKind .calibrate = true := by
      simp [State.activeKind, State.activeEntry, hvrests.queue, hq, ha, hk]
    rw [calibrationFails, ← hv, endActiveOf, if_pos hkind, endActive_of_active _ (hvrests.queue.trans hq) ha, hanswer,
      hvrests.line]
  intro t
  have hstill : t.still = s.still := calibrationFails_still _ s
  have ht : t = { v with queue := [], line := s.line.push (s.entryAnswer e (.stopped .noContact)) } := hend
  clear_value t
  refine ⟨?_, ?_, hstill, ?_, ?_, ?_, ?_, ?_⟩ <;> rw [ht]
  exacts [hvgap, hvrun, hvrests.setpoint, hvseen, hvoutput]

/-- The start conditions depend on the feeder and the run state beside what `still` keeps. -/
theorem State.calibrationReady_of_still {s t : State} (h : t.still = s.still) (ho : t.drive.output = 0)
    (hv : s.monitor.positionValid = true) (ht : t.run.state ≠ .tripped) :
    t.calibrationReady = true ↔
      s.motorRunning = true ∧ ∃ l, s.monitor.sample = some l ∧ l.cavity ≤ s.settings.cavityEmpty := by
  have hmonitor : t.monitor.sample = s.monitor.sample ∧ t.monitor.positionValid = s.monitor.positionValid :=
    ⟨(congrArg (fun u : State => u.monitor.sample) h :), (congrArg (fun u : State => u.monitor.positionValid) h :)⟩
  rw [State.calibrationReady_iff, State.motorRunning_of_still h, State.settings_of_still h, hmonitor.1, hmonitor.2]
  exact ⟨fun hc => ⟨hc.1, hc.2.2.1⟩, fun hc => ⟨hc.1, ho, hc.2, hv, ht⟩⟩

theorem exec_seekLimitExpiry {s : State} {c : Calibration} (ha : s.active = true) (hv : s.monitor.positionValid = true)
    (hc : s.gap.activity = .calibrating c) (hl : c.seekLimit.isSome = true) :
    exec .seekLimitExpiry s = .next (settle (calibrationFails c.kind s)) := by
  have hexpires : seekLimitExpires s = settle (calibrationFails c.kind s) := by
    unfold seekLimitExpires
    rw [hc]
    exact if_pos hl
  exact congrArg Host.Outcome.next ((if_pos ⟨ha, hv⟩).trans hexpires)

theorem State.gapState_of_calibrating {s : State} {c : Calibration} (h : s.gap.activity = .calibrating c) :
    s.gapState = .calibrating := congrArg Activity.state h

theorem Reference.not_present_iff {r : Reference} : r.present = false ↔ r = .unreferenced := by
  cases r <;> simp [Reference.present, Reference.contact?]

/-- Settles O36: the failed calibration (`calibrationFails_internal`, `calibrationFails_requested`), then the end of the event, in
PRIMING by whether there is a reference. -/
theorem seekLimitFailsTheCalibration : Obligations.SeekLimitFailsTheCalibration := by
  unfold Obligations.SeekLimitFailsTheCalibration
  intro s c hactive hvalid hact hlimit
  have hexec := exec_seekLimitExpiry hactive hvalid hact hlimit
  have hcal := State.gapState_of_calibrating hact
  refine ⟨fun hk hp => ?internal, fun hk hstate e hq hactiveEntry hkind => ?requested⟩
  case internal =>
    rw [hk] at hexec
    obtain ⟨⟨htripped, hqueue, -⟩, hseen, hgap, hstill⟩ := calibrationFails_internal hp hcal
    rw [settle_of_tripped (State.headStartable_of_nil hqueue) htripped] at hexec
    obtain ⟨hreference, hliner, -⟩ := State.reference_of_wear (State.wear_of_still hstill)
    exact ⟨_, hexec, htripped, hseen, hgap, hreference, State.wearAcc_of_wear (State.wear_of_still hstill), hliner, hqueue⟩
  case requested =>
    rw [hk] at hexec
    obtain ⟨hgap, hrun, hstill, hsetpoint, hqueue, hseen, hline, houtput⟩ :=
      calibrationFails_requested hcal hq hactiveEntry hkind
    generalize calibrationFails .requested s = u at hexec hgap hrun hstill hsetpoint hqueue hseen hline houtput
    have hrests := settle_rests hqueue
    have hwear := State.wear_of_still (hrests.still.trans hstill)
    have hreference := State.reference_of_still hstill
    intro conditions
    refine ⟨_, hexec, (settle_tame (.refl u)).seen _ hseen, (State.reference_of_wear hwear).1, State.wearAcc_of_wear hwear,
      (State.reference_of_wear hwear).2.1, hrests.queue.trans hqueue, hrests.line.trans ?_, fun hn => ?_, fun hp hr => ?_,
      fun hp hr => ?_⟩
    · rw [hline]
      simp [State.entryAnswer, plainAnswer, State.remaining, hkind, QueuedKind.request]
    · rw [settle_of_not_priming (State.headStartable_of_nil hqueue) (hrun ▸ hn)]
      refine ⟨(moveTest_stands u).run.trans hrun, ?_⟩
      rcases moveTest_cases u with hm | hm <;> simp [hm, hgap]
    · have hu : u.gap.reference.present = false := Reference.not_present_iff.2 (hreference.trans hr)
      have hup : u.run.state = .priming := by rw [hrun, hp]
      have hzero : u.drive.output = 0 := houtput.trans (setActivity_output_of_zeroed (by rw [hp]; rfl))
      have hrequest := State.standingRequest_of_nil hqueue hup hu
      have hready := State.calibrationReady_of_still hstill hzero hvalid (by simp [hup])
      rw [settle_of_unreferenced (State.headStartable_of_nil hqueue) hu]
      have htests := internalCalibrationTest_rests u
      have hirun := (internalCalibrationTest_stands u).run
      refine ⟨hirun.trans hrun, State.standingRequest_of_nil (htests.queue.trans hqueue) (by rw [hirun, hup]) ?_,
        fun hc q hposition => ?_, fun hc => ?_⟩
      · rw [State.reference_of_still htests.still, hu]
      · have hpos : u.monitor.position = some q := (congrArg (fun v : State => v.monitor.position) hstill :).trans hposition
        rw [(internalCalibrationTest_starts hrequest hgap (State.active_of_priming hup) (hready.2 hc) hpos).1,
          State.settings_of_still hstill]
      · rw [internalCalibrationTest_of_unready (by simpa using mt hready.1 hc), hgap]
    · have hprimed : u.Primed := by
        refine ⟨hrun ▸ hp, ?_, hgap⟩
        rw [hreference]
        simpa using mt Reference.not_present_iff.1 hr
      rcases settle_of_primed (State.headStartable_of_nil hqueue) hprimed with ⟨hm, hmrun⟩ | ⟨hh, henter⟩
      · exact .inl ⟨hm, hmrun.trans hrun⟩
      · obtain ⟨-, hruns, htrips⟩ := enterRun_of_priming hprimed.1
        refine .inr ⟨hh, fun hm => ?_, fun hm => ?_⟩ <;> rw [henter]
        exacts [(hruns ((State.motorRunning_of_still hstill).trans hm)).1,
          htrips ((State.motorRunning_of_still hstill).trans hm)]

end Sys2Proof.Machine

/-! ## The arrivals of a demand at the Gap Controller (R36, R94, R95) -/

namespace Sys2Proof.Machine

/-! ### What an arrival leaves of Run Control and the feeder, and does to the activity -/

/-- What an arrival keeps beside Run Control: the output of a station whose motor is required, and with no request queued the line; an
activity may end in HOLDING, STUCK stays, and no calibration starts. -/
structure Arrives (s t : State) : Prop extends Stands s t where
  output      : s.run.state.motorRequired = true → t.drive.output = s.drive.output
  gapState    : t.gapState = s.gapState ∨ t.gapState = .holding ∧ s.gapState ≠ .stuck
  calibrating : ∀ c, t.gap.activity = .calibrating c → s.gap.activity = .calibrating c
  noRetry     : (∀ m, s.gap.activity = .moving m → m.noRetry = false) → ∀ m, t.gap.activity = .moving m → m.noRetry = false
  waiting     : s.queue = [] → t.queue = [] ∧ t.line = s.line

@[refl] theorem Arrives.refl (s : State) : Arrives s s where
  toStands := .refl s
  output _ := rfl
  gapState := .inl rfl
  calibrating _ := id
  noRetry := id
  waiting h := ⟨h, rfl⟩

theorem Arrives.trans {s t u : State} (h : Arrives s t) (h' : Arrives t u) : Arrives s u where
  toStands := h.toStands.trans h'.toStands
  output hm := (h'.output (h.run ▸ hm)).trans (h.output hm)
  gapState := by
    rcases h'.gapState with h1 | ⟨h1, h2⟩
    · exact h1 ▸ h.gapState
    · refine .inr ⟨h1, fun hs => ?_⟩
      rcases h.gapState with h3 | ⟨-, h3⟩
      exacts [h2 (h3.trans hs), h3 hs]
  calibrating c := h.calibrating c ∘ h'.calibrating c
  noRetry := h'.noRetry ∘ h.noRetry
  waiting hq := ⟨(h'.waiting (h.waiting hq).1).1, (h'.waiting (h.waiting hq).1).2.trans (h.waiting hq).2⟩

/-- A further update of fields that no arrival is judged by. -/
theorem Arrives.plain {s t u : State} (h : Arrives s t) (hr : u.run = t.run := by rfl) (hd : u.drive = t.drive := by rfl)
    (hf : u.faults = t.faults := by rfl) (ha : u.gap.activity = t.gap.activity := by rfl)
    (hh : u.gap.history = t.gap.history ∨ u.gap.history = [] := by exact .inl rfl) (hq : u.queue = t.queue := by rfl)
    (hl : u.line = t.line := by rfl) : Arrives s u :=
  h.trans
    { run := hr, setpoint := by rw [hd], faults := hf, history := hh, output := fun _ => by rw [hd]
      gapState := .inl (congrArg Activity.state ha), calibrating := fun c hc => ha ▸ hc
      noRetry := fun hn m hm => hn m (ha ▸ hm), waiting := fun h => ⟨hq.trans h, hl⟩ }

/-- An activity that ends in HOLDING leaves the feeder of a station whose motor is required (R39). -/
theorem setActivity_holding_arrives {s : State} (h : s.gapState ≠ .stuck) : Arrives s (setActivity .holding s) where
  toStands := setActivity_stands (.inr (.inr rfl))
  output hm := by
    refine setActivity_output_of_feeding h ?_
    rcases RunState.motorRequired_iff.1 hm with hr | hr | hr <;> simp [hr, driveModeOf, Activity.state, GapState.feeds]
  gapState := .inr ⟨setActivity_gapState _ _, h⟩
  calibrating c hc := by simp at hc
  noRetry _ m hm := by simp at hm
  waiting hq := ⟨(setActivity_queue _ _).trans hq, setActivity_line _ _⟩

theorem arrive_arrives {s : State} (h : s.gapState ≠ .stuck) : Arrives s (arrive s) :=
  (Arrives.plain (.refl s)).trans (setActivity_holding_arrives (s := { s with gap.approach := false }) h)

theorem endActive_of_nil (o : AnswerOutcome) {s : State} (h : s.queue = []) : endActive o s = s := by
  simp [endActive, h]

theorem endActiveOf_of_nil (k : QueuedKind) (o : AnswerOutcome) {s : State} (h : s.queue = []) : endActiveOf k o s = s := by
  unfold endActiveOf
  split
  exacts [endActive_of_nil o h, rfl]

theorem endActive_activity (o : AnswerOutcome) (s : State) : (endActive o s).gap.activity = s.gap.activity := by
  rw [endActive_frame]

theorem endActive_arrives (o : AnswerOutcome) (s : State) : Arrives s (endActive o s) where
  toStands := endActive_stands o s
  output _ := by rw [endActive_frame]
  gapState := .inl (congrArg Activity.state (endActive_activity o s))
  calibrating c hc := endActive_activity o s ▸ hc
  noRetry hn m hm := hn m (endActive_activity o s ▸ hm)
  waiting h := by
    rw [endActive_of_nil o h]
    exact ⟨h, rfl⟩

theorem endActiveOf_arrives (k : QueuedKind) (o : AnswerOutcome) (s : State) : Arrives s (endActiveOf k o s) := by
  unfold endActiveOf
  split
  exacts [endActive_arrives o s, .refl s]

theorem endSetGapReached_arrives (s : State) : Arrives s (endSetGapReached s) := by
  unfold endSetGapReached
  split
  · split
    exacts [endActive_arrives _ s, .refl s]
  · exact .refl s

theorem moveCrossing_arrives (s : State) : Arrives s (moveCrossing s) := by
  unfold moveCrossing
  split
  · next m g hact hg =>
    split
    · exact (arrive_arrives (by simp [State.gapState, hact, Activity.state])).trans (endSetGapReached_arrives _)
    · exact .refl s
  · exact .refl s

theorem backingArrival_arrives (s : State) : Arrives s (backingArrival s) := by
  unfold backingArrival
  split
  · next c g hact hg =>
    split
    · split
      · exact (arrive_arrives (by simp [State.gapState, hact, Activity.state])).trans (endActiveOf_arrives _ _ _)
      · exact .refl s
    · exact .refl s
  · exact .refl s

theorem reclosingArrival_arrives (s : State) : Arrives s (reclosingArrival s) := by
  unfold reclosingArrival
  split
  · next r g hact hg =>
    split
    exacts [arrive_arrives (by simp [State.gapState, hact, Activity.state]), .refl s]
  · exact .refl s

theorem testW_arrives (s : State) : Arrives s (testW s) := by
  unfold testW
  split
  exacts [moveCrossing_arrives s, backingArrival_arrives s, reclosingArrival_arrives s, .refl s]

/-- W as a change of target or span moves it, before it is tested (R97). -/
def targetMoved (s : State) : State := if s.gapState = .stuck then holdW s else setAfresh s

theorem targetChanged_eq (s : State) : targetChanged s = testW (targetMoved s) := rfl

theorem holdW_arrives (s : State) : Arrives s (holdW s) := by
  unfold holdW
  split
  exacts [.refl s, .plain (.refl s)]

theorem targetMoved_arrives (s : State) : Arrives s (targetMoved s) := by
  unfold targetMoved
  split
  · exact holdW_arrives s
  · exact .plain (.refl s) (hh := .inr rfl)

theorem targetChanged_arrives (s : State) : Arrives s (targetChanged s) :=
  (targetMoved_arrives s).trans (testW_arrives _)

theorem spanArrives_arrives (n : Nat) (s : State) : Arrives s (spanArrives n s) := by
  unfold spanArrives
  split
  · exact .refl s
  · exact (Arrives.plain (u := { s with gap.span := n }) (.refl s)).trans (targetChanged_arrives _)

/-- The NO_RETRY flag of a running move is taken from it (R113). -/
def flagDropped (s : State) : State :=
  match s.gap.activity with
  | .moving m => updateActivity (.moving { m with noRetry := false }) s
  | _ => s

/-- G_t takes the value that arrives, clamped into the gap limits (R94). -/
def targetTaken (n : Nat) (s : State) : State := { s with gap.target := clampGap s.settings n }

theorem targetTaken_arrives (n : Nat) (s : State) : Arrives s (targetTaken n s) := .plain (.refl s)

theorem gapTargetArrives_eq (n : Nat) (s : State) :
    gapTargetArrives n s =
      targetChanged (targetTaken n (flagDropped (endActiveOf .setGap (.stopped .superseded) s))) := rfl

theorem updateActivity_activity (act : Activity) (s : State) : (updateActivity act s).gap.activity = act := by
  unfold updateActivity
  rw [emptyJumpIfOpening_frame]

theorem updateActivity_frame (act : Activity) (s : State) :
    updateActivity act s = { s with gap := { s.gap with activity := act, jumpWindow := (updateActivity act s).gap.jumpWindow } } := by
  unfold updateActivity
  exact emptyJumpIfOpening_frame _

theorem flagDropped_noRetry {s : State} {m : Move} (h : (flagDropped s).gap.activity = .moving m) : m.noRetry = false := by
  unfold flagDropped at h
  split at h
  · rw [updateActivity_activity] at h
    cases h
    rfl
  · next hn => exact absurd h (hn m)

theorem flagDropped_arrives (s : State) : Arrives s (flagDropped s) where
  toStands := by
    unfold flagDropped
    split
    exacts [updateActivity_stands _ s, .refl s]
  output _ := by
    unfold flagDropped
    split
    · rw [updateActivity_frame]
    · rfl
  gapState := by
    unfold flagDropped State.gapState
    split
    · next m hm => exact .inl (by rw [updateActivity_activity, hm]; rfl)
    · exact .inl rfl
  calibrating c hc := by
    unfold flagDropped at hc
    split at hc
    · simp [updateActivity_activity] at hc
    · exact hc
  noRetry _ m := flagDropped_noRetry
  waiting h := by
    unfold flagDropped
    split
    · rw [updateActivity_frame]
      exact ⟨h, rfl⟩
    · exact ⟨h, rfl⟩

theorem gapTargetArrives_arrives (n : Nat) (s : State) : Arrives s (gapTargetArrives n s) := by
  rw [gapTargetArrives_eq]
  exact (((endActiveOf_arrives _ _ s).trans (flagDropped_arrives _)).trans (targetTaken_arrives n _)).trans
    (targetChanged_arrives _)

/-! ### The fields of an accepted DEMAND (R36) -/

/-- The state with sequence number and stage target stored. -/
def sequenceStored (p : DemandPayload) (s : State) : State :=
  { s with run.lastSequence := some p.sequence, run.target := p.target?.getD s.run.target }

/-- The gap target of a frame taken up by an active Gap Controller. -/
def gapStored (p : DemandPayload) (s : State) : State :=
  match p.gap? with
  | some g => if s.active then gapTargetArrives g s else s
  | none => s

/-- The span of a frame taken up by an active Gap Controller. -/
def spanStored (p : DemandPayload) (s : State) : State :=
  match p.span? with
  | some a => if s.active then spanArrives a s else s
  | none => s

theorem storeDemand_eq (p : DemandPayload) (s : State) :
    storeDemand p s = spanStored p (gapStored p (sequenceStored p s)) := rfl

theorem gapStored_arrives (p : DemandPayload) (s : State) : Arrives s (gapStored p s) := by
  unfold gapStored
  split
  · split
    exacts [gapTargetArrives_arrives _ s, .refl s]
  · exact .refl s

theorem spanStored_arrives (p : DemandPayload) (s : State) : Arrives s (spanStored p s) := by
  unfold spanStored
  split
  · split
    exacts [spanArrives_arrives _ s, .refl s]
  · exact .refl s

theorem storeDemand_arrives (p : DemandPayload) (s : State) : Arrives (sequenceStored p s) (storeDemand p s) :=
  (gapStored_arrives p _).trans (spanStored_arrives p _)

theorem storeDemand_of_absent {p : DemandPayload} (s : State) (hg : p.gap? = none) (ha : p.span? = none) :
    storeDemand p s = sequenceStored p s := by
  rw [storeDemand_eq, gapStored, hg, spanStored, ha]

end Sys2Proof.Machine

/-! ## What an accepted DEMAND stores (O18) -/

namespace Sys2Proof.Machine

/-! ### W at an arrival (R97, R108) -/

/-- Out of STUCK, W stands as G_t sets it afresh, and the load history is empty. -/
structure Afresh (s : State) : Prop where
  free     : s.gapState ≠ .stuck
  setpoint : s.gap.setpoint = s.heldInWindow s.gap.target
  history  : s.gap.history = []

theorem arrive_setpoint {s : State} (h : s.gapState ≠ .stuck) : (arrive s).gap.setpoint = s.gap.setpoint :=
  setActivity_setpoint .holding (s := { s with gap.approach := false }) h

theorem endSetGapReached_frame (s : State) :
    endSetGapReached s = { s with queue := (endSetGapReached s).queue, line := (endSetGapReached s).line } := by
  unfold endSetGapReached
  split
  · split
    exacts [endActive_frame _ s, rfl]
  · rfl

theorem testW_setpoint (s : State) : (testW s).gap.setpoint = s.gap.setpoint := by
  unfold testW
  split
  · next h =>
    unfold moveCrossing
    split
    · split
      · rw [endSetGapReached_frame]
        exact arrive_setpoint (by simp [h])
      · rfl
    · rfl
  · next h =>
    unfold backingArrival
    split
    · split
      · split
        · rw [endActiveOf_frame]
          exact arrive_setpoint (by simp [h])
        · rfl
      · rfl
    · rfl
  · next h =>
    unfold reclosingArrival
    split
    · split
      exacts [arrive_setpoint (by simp [h]), rfl]
    · rfl
  · rfl

theorem targetChanged_afresh {s : State} (h : s.gapState ≠ .stuck) : Afresh (targetChanged s) := by
  have hmoved : targetMoved s = setAfresh s := if_neg h
  have harrives : Arrives (setAfresh s) (targetChanged s) := by
    rw [targetChanged_eq, hmoved]
    exact testW_arrives _
  have hstill : (targetChanged s).still = s.still := targetChanged_still s
  refine ⟨fun hs => ?_, ?_, harrives.toStands.history_nil rfl⟩
  · rcases harrives.gapState with h1 | ⟨h1, -⟩
    exacts [h (h1.symm.trans hs), by simp [h1] at hs]
  · rw [State.heldInWindow_of_still hstill, State.target_of_still hstill, targetChanged_eq, testW_setpoint, hmoved]
    rfl

theorem Afresh.of_rests {s t : State} (h : Afresh s) (hr : Rests s t) :
    t.gap.setpoint = t.heldInWindow t.gap.target ∧ t.gap.history = [] := by
  rw [hr.setpoint, State.heldInWindow_of_still hr.still, State.target_of_still hr.still]
  exact ⟨h.setpoint, hr.history_nil h.history⟩

theorem spanStored_afresh (p : DemandPayload) {s : State} (h : Afresh s) : Afresh (spanStored p s) := by
  unfold spanStored
  split
  · split
    · unfold spanArrives
      split
      exacts [h, targetChanged_afresh h.free]
    · exact h
  · exact h

theorem holdW_setpoint (s : State) : (holdW s).gap.setpoint = s.heldInWindow s.gap.setpoint := by
  unfold holdW
  split
  · next h => exact h.symm
  · rfl

/-- While STUCK a gap target holds W within the window. -/
theorem targetChanged_of_stuck {s : State} (h : s.gapState = .stuck) :
    (targetChanged s).gap.setpoint = (targetChanged s).heldInWindow s.gap.setpoint := by
  have hmoved : targetMoved s = holdW s := if_pos h
  rw [State.heldInWindow_of_still (targetChanged_still s), targetChanged_eq, testW_setpoint, hmoved, holdW_setpoint]

/-! ### The gap target of a frame (R94, R113) -/

theorem gapTargetArrives_target (n : Nat) (s : State) : (gapTargetArrives n s).gap.target = clampGap s.settings n := by
  have hsettings : (flagDropped (endActiveOf .setGap (.stopped .superseded) s)).settings = s.settings := by
    unfold flagDropped
    split
    · exact State.settings_of_still ((updateActivity_still _ _).trans (endActiveOf_still _ _ s))
    · exact State.settings_of_still (endActiveOf_still _ _ s)
  rw [gapTargetArrives_eq, State.target_of_still (targetChanged_still _), targetTaken, hsettings]

/-- The entry that a gap target supersedes, if one is ACTIVE. -/
theorem endActiveOf_of_active {k : QueuedKind} {s : State} {e : Entry} {rest : List Entry} (o : AnswerOutcome)
    (hq : s.queue = e :: rest) (ha : e.active = true) (hk : e.kind = k) :
    endActiveOf k o s = { s with queue := rest, line := s.line.push (s.entryAnswer e o) } := by
  have hkind : s.activeKind k = true := by simp [State.activeKind, State.activeEntry, hq, ha, hk]
  rw [endActiveOf, if_pos hkind, endActive_of_active o hq ha]

section
variable (n : Nat) {s : State}

theorem gapTargetArrives_afresh (h : s.gapState ≠ .stuck) : Afresh (gapTargetArrives n s) := by
  rw [gapTargetArrives_eq]
  refine targetChanged_afresh fun hs => ?_
  rcases (((endActiveOf_arrives .setGap (.stopped .superseded) s).trans (flagDropped_arrives _)).trans
    (targetTaken_arrives n _)).gapState with h1 | ⟨h1, -⟩
  exacts [h (h1.symm.trans hs), by simp [h1] at hs]

theorem gapTargetArrives_of_stuck (h : s.gapState = .stuck) :
    (gapTargetArrives n s).gap.setpoint = (gapTargetArrives n s).heldInWindow s.gap.setpoint := by
  obtain ⟨u, hu⟩ : ∃ u, u = endActiveOf .setGap (.stopped .superseded) s := ⟨_, rfl⟩
  have hframe := endActiveOf_frame .setGap (.stopped .superseded) s
  rw [← hu] at hframe
  have hgap : u.gap = s.gap := by rw [hframe]
  have hstuck : u.gapState = .stuck := by rw [State.gapState, hgap]; exact h
  have hflag : flagDropped u = u := by
    unfold flagDropped
    split
    · next m hm => simp [State.gapState, hm, Activity.state] at hstuck
    · rfl
  rw [gapTargetArrives_eq, ← hu, hflag, ← hgap]
  exact targetChanged_of_stuck (s := targetTaken n u) hstuck

theorem gapTargetArrives_noRetry {m : Move} (h : (gapTargetArrives n s).gap.activity = .moving m) : m.noRetry = false := by
  rw [gapTargetArrives_eq] at h
  refine ((targetTaken_arrives n _).trans (targetChanged_arrives _)).noRetry (fun m' hm' => ?_) m h
  exact flagDropped_noRetry hm'

/-- An ACTIVE SET_GAP alone in the queue is answered with the distances as they were before. -/
theorem gapTargetArrives_superseded {e : Entry} (hq : s.queue = [e]) (ha : e.active = true) (hk : e.kind = .setGap) :
    (gapTargetArrives n s).queue = [] ∧
      (gapTargetArrives n s).line = s.line.push (s.entryAnswer e (.stopped .superseded)) := by
  have hend := endActiveOf_of_active (.stopped .superseded) hq ha hk
  rw [gapTargetArrives_eq, hend]
  exact (((flagDropped_arrives { s with queue := [], line := _ }).trans (targetTaken_arrives n _)).trans
    (targetChanged_arrives _)).waiting rfl

end

/-! ### The command and the end of the event -/

/-- The last command as an accepted DEMAND records it (R37). -/
def commandNoted (c : Option Command) (s : State) : State :=
  match c with
  | none => s
  | some k => { s with run.lastCommand := some k }

theorem beginRun_rests {s : State} (h : s.queue = []) : Rests s (beginRun s) := by
  unfold beginRun
  split
  exacts [enterRun_rests _ h, changeRun_rests _ s]

theorem abortInternal_rests (s : State) : Rests s (abortInternal s) := by
  unfold abortInternal
  split
  · next c hc =>
    split
    exacts [setActivity_rests _ (by simp [State.gapState, hc, Activity.state]), .refl s]
  · exact .refl s

theorem actRun_rests {s : State} (h : s.queue = []) : Rests s (actRun s) := by
  unfold actRun
  split
  exacts [beginRun_rests h, beginRun_rests h, .refl s]

theorem actStop_rests {s : State} (h : s.queue = []) : Rests s (actStop s) := by
  unfold actStop beginStop
  split
  exacts [enterRun_rests _ h, enterRun_rests _ h, (enterRun_rests _ h).trans (abortInternal_rests _), .refl s]

theorem actCommand_rests (c : Option Command) {s : State} (h : s.queue = []) : Rests (commandNoted c s) (actCommand c s) := by
  rcases c with - | (- | -)
  exacts [.refl s, actRun_rests (s := commandNoted (some .run) s) h, actStop_rests (s := commandNoted (some .stop) s) h]

theorem actCommand_still (c : Option Command) (s : State) : (actCommand c s).still = (commandNoted c s).still := by
  rcases c with - | (- | -)
  exacts [rfl, actRun_still _, actStop_still _]

/-- A change of the run state leaves the activity, or a trip ends it (R106, R126). -/
theorem enterRun_activity (r : RunState) (s : State) :
    (enterRun r s).gap.activity = s.gap.activity ∨ (enterRun r s).gap.activity = .holding := by
  unfold enterRun
  split
  · rcases report_activity .motorStopped true (changeRun r s) with h | ⟨-, h⟩
    exacts [.inl (h.trans (changeRun_activity r s)), .inr h]
  · exact .inl (changeRun_activity r s)

theorem abortInternal_activity (s : State) :
    (abortInternal s).gap.activity = s.gap.activity ∨ (abortInternal s).gap.activity = .holding := by
  unfold abortInternal
  split
  · split
    exacts [.inr (setActivity_activity _ _), .inl rfl]
  · exact .inl rfl

theorem actCommand_activity (c : Option Command) (s : State) :
    (actCommand c s).gap.activity = s.gap.activity ∨ (actCommand c s).gap.activity = .holding := by
  have hbegin : ∀ u : State, (beginRun u).gap.activity = u.gap.activity ∨ (beginRun u).gap.activity = .holding := fun u => by
    unfold beginRun
    split
    exacts [enterRun_activity _ u, .inl (changeRun_activity _ u)]
  have habort : ∀ u : State, (abortInternal (beginStop u)).gap.activity = u.gap.activity ∨
      (abortInternal (beginStop u)).gap.activity = .holding := fun u => by
    rcases abortInternal_activity (beginStop u) with h | h
    · rw [h]
      exact enterRun_activity _ u
    · exact .inr h
  unfold actCommand
  split
  · exact .inl rfl
  · unfold actRun
    split
    exacts [hbegin _, hbegin _, .inl rfl]
  · unfold actStop
    split
    exacts [enterRun_activity _ _, enterRun_activity _ _, habort _, .inl rfl]

/-- With no request queued no move starts that carries NO_RETRY (R113). -/
theorem moveTest_noRetry {s : State} (hq : s.queue = []) (h : ∀ m, s.gap.activity = .moving m → m.noRetry = false) {m : Move}
    (hm : (moveTest s).gap.activity = .moving m) : m.noRetry = false := by
  unfold moveTest at hm
  split at hm
  · split at hm
    · rw [startMove, setActivity_activity] at hm
      cases hm
      simp [State.activeEntry, hq]
    · exact h m hm
  · exact h m hm

theorem settle_noRetry {s : State} (hq : s.queue = []) (h : ∀ m, s.gap.activity = .moving m → m.noRetry = false) {m : Move}
    (hm : (settle s).gap.activity = .moving m) : m.noRetry = false := by
  have hcal : ∀ m, (internalCalibrationTest s).gap.activity = .moving m → m.noRetry = false := by
    intro m hm
    unfold internalCalibrationTest at hm
    split at hm
    · simp [startCalibration] at hm
    · exact h m hm
  rw [settle_of_nil hq] at hm
  refine moveTest_noRetry ((internalCalibrationTest_rests s).queue.trans hq) hcal (m := m) ?_
  unfold primingTest at hm
  split at hm
  · rcases enterRun_activity .running (moveTest (internalCalibrationTest s)) with h1 | h1
    exacts [h1.symm.trans hm, by simp [h1] at hm]
  · exact hm

/-! ### The event as a whole -/

theorem commandNoted_fields (c : Option Command) (s : State) :
    (commandNoted c s).run.lastSequence = s.run.lastSequence ∧ (commandNoted c s).run.target = s.run.target ∧
      (commandNoted c s).run.lastCommand = (if c = none then s.run.lastCommand else c) ∧
      (commandNoted c s).gap = s.gap ∧ (commandNoted c s).queue = s.queue ∧ (commandNoted c s).line = s.line := by
  cases c <;> exact ⟨rfl, rfl, rfl, rfl, rfl, rfl⟩

theorem commandNoted_heldInWindow (c : Option Command) (s : State) (w : Nat) :
    (commandNoted c s).heldInWindow w = s.heldInWindow w := by
  cases c <;> rfl

theorem commandNoted_afresh (c : Option Command) {s : State} (h : Afresh s) : Afresh (commandNoted c s) := by
  cases c <;> exact ⟨h.free, h.setpoint, h.history⟩

theorem actDemand_cases (p : DemandPayload) (c : Option Command) (s : State) :
    actDemand p c s = settle (actCommand c (storeDemand p s)) ∨ actDemand p c s = actCommand c (storeDemand p s) := by
  unfold actDemand
  dsimp only
  split
  exacts [.inl rfl, .inr rfl]

theorem actDemand_fixed (p : DemandPayload) (c : Option Command) (s : State) :
    (actDemand p c s).fixed = (commandNoted c (storeDemand p s)).fixed := by
  rcases actDemand_cases p c s with h | h <;> rw [h]
  exacts [(settle_fixed _).trans (State.fixed_of_still (actCommand_still c _)), State.fixed_of_still (actCommand_still c _)]

theorem State.demand_of_fixed {s t : State} (h : t.fixed = s.fixed) :
    t.run.lastSequence = s.run.lastSequence ∧ t.run.target = s.run.target ∧ t.run.lastCommand = s.run.lastCommand ∧
      t.gap.span = s.gap.span :=
  ⟨(congrArg (fun u : State => u.run.lastSequence) h :), (congrArg (fun u : State => u.run.target) h :),
    (congrArg (fun u : State => u.run.lastCommand) h :), (congrArg (fun u : State => u.gap.span) h :)⟩

/-- Sequence number, stage target and command of the frame stand in Run Control (R36, R37). -/
theorem actDemand_stored (p : DemandPayload) (c : Option Command) (s : State) :
    (actDemand p c s).run.lastSequence = some p.sequence ∧
      (actDemand p c s).run.target = p.target?.getD s.run.target ∧
      (actDemand p c s).run.lastCommand = (if c = none then s.run.lastCommand else c) ∧
      (actDemand p c s).gap.span = (storeDemand p s).gap.span := by
  obtain ⟨hsequence, htarget, hcommand, hspan⟩ := State.demand_of_fixed (actDemand_fixed p c s)
  obtain ⟨hsequence', htarget', hcommand', hgap, -⟩ := commandNoted_fields c (storeDemand p s)
  have hrun : (storeDemand p s).run = (sequenceStored p s).run := (storeDemand_arrives p s).run
  rw [hsequence, hsequence', htarget, htarget', hcommand, hcommand', hspan, hgap, hrun]
  exact ⟨rfl, rfl, rfl, rfl⟩

/-- With the queue empty once the fields are stored, the command and the end of the event leave W and the line. -/
theorem actDemand_rests {p : DemandPayload} (c : Option Command) {s : State} (hq : (storeDemand p s).queue = []) :
    Rests (commandNoted c (storeDemand p s)) (actDemand p c s) := by
  have hcommand := actCommand_rests c hq
  have hqueue : (actCommand c (storeDemand p s)).queue = [] :=
    hcommand.queue.trans ((commandNoted_fields c _).2.2.2.2.1.trans hq)
  rcases actDemand_cases p c s with h | h <;> rw [h]
  exacts [hcommand.trans (settle_rests hqueue), hcommand]

theorem actDemand_noRetry {p : DemandPayload} (c : Option Command) {s : State} (hq : (storeDemand p s).queue = [])
    (h : ∀ m, (storeDemand p s).gap.activity = .moving m → m.noRetry = false) {m : Move}
    (hm : (actDemand p c s).gap.activity = .moving m) : m.noRetry = false := by
  have hqueue : (actCommand c (storeDemand p s)).queue = [] :=
    (actCommand_rests c hq).queue.trans ((commandNoted_fields c _).2.2.2.2.1.trans hq)
  have hflag : ∀ m, (actCommand c (storeDemand p s)).gap.activity = .moving m → m.noRetry = false := by
    intro m hm
    rcases actCommand_activity c (storeDemand p s) with ha | ha
    exacts [h m (ha.symm.trans hm), by simp [ha] at hm]
  rcases actDemand_cases p c s with hact | hact <;> rw [hact] at hm
  exacts [settle_noRetry hqueue hflag hm, hflag m hm]

theorem State.active_of_run {s t : State} (h : t.run.state = s.run.state) : t.active = s.active := by
  simp only [State.active, h]

theorem gapStored_of_present {p : DemandPayload} {s : State} (h : p.presence.getLsbD 1 = true) (ha : s.active = true) :
    gapStored p s = gapTargetArrives p.gapTarget.toNat s := by
  simp [gapStored, DemandPayload.gap?, h, ha]

theorem gapStored_of_absent {p : DemandPayload} {s : State} (h : ¬ (p.presence.getLsbD 1 = true ∧ s.active = true)) :
    gapStored p s = s := by
  unfold gapStored DemandPayload.gap?
  by_cases h1 : p.presence.getLsbD 1 = true <;> simp_all

theorem spanStored_target (p : DemandPayload) (s : State) : (spanStored p s).gap.target = s.gap.target := by
  unfold spanStored spanArrives
  split
  · split
    · split
      exacts [rfl, (State.target_of_still (targetChanged_still _)).trans rfl]
    · rfl
  · rfl

/-- G_t takes the gap target that an active Gap Controller is given (R94). -/
theorem storeDemand_target (p : DemandPayload) (s : State) :
    (storeDemand p s).gap.target =
      if p.presence.getLsbD 1 = true ∧ s.active = true then
        min (max p.gapTarget.toNat s.settings.gapMin) s.settings.gapMax else s.gap.target := by
  rw [storeDemand_eq, spanStored_target]
  split
  · next h =>
    rw [gapStored_of_present h.1 (s := sequenceStored p s) h.2, gapTargetArrives_target]
    rfl
  · next h => rw [gapStored_of_absent (s := sequenceStored p s) h]; rfl

theorem spanArrives_span (n : Nat) (s : State) : (spanArrives n s).gap.span = n := by
  unfold spanArrives
  split
  · next h => exact h.symm
  · exact (State.demand_of_fixed (targetChanged_fixed _)).2.2.2.trans rfl

/-- The span takes the span that an active Gap Controller is given (R95). -/
theorem storeDemand_span (p : DemandPayload) (s : State) :
    (storeDemand p s).gap.span =
      if p.presence.getLsbD 2 = true ∧ s.active = true then min p.span.toNat 200 else s.gap.span := by
  have hactive : (gapStored p (sequenceStored p s)).active = s.active :=
    State.active_of_run (s := sequenceStored p s) (congrArg RunControl.state (gapStored_arrives p (sequenceStored p s)).run)
  have hspan : (gapStored p (sequenceStored p s)).gap.span = s.gap.span := by
    unfold gapStored
    split
    · split
      exacts [(State.demand_of_fixed (gapTargetArrives_fixed _ _)).2.2.2, rfl]
    · rfl
  rw [storeDemand_eq, spanStored, DemandPayload.span?, hactive]
  by_cases h1 : p.presence.getLsbD 2 = true
  · rw [if_pos h1]
    by_cases h2 : s.active = true
    · rw [if_pos ⟨h1, h2⟩]
      exact (congrArg (fun u : State => u.gap.span) (if_pos h2)).trans (spanArrives_span _ _)
    · rw [if_neg fun h => h2 h.2]
      exact (congrArg (fun u : State => u.gap.span) (if_neg h2)).trans hspan
  · rw [if_neg h1, if_neg fun h => h1 h.1]
    exact hspan

/-- With no request but an ACTIVE SET_GAP queued, a gap target leaves the queue empty, and that entry answered. -/
theorem storeDemand_superseded {p : DemandPayload} {s : State} (h : p.presence.getLsbD 1 = true) (ha : s.active = true)
    (hq : s.queue = [] ∨ ∃ e, s.queue = [e] ∧ e.active = true ∧ e.kind = .setGap) :
    (storeDemand p s).queue = [] ∧
      ∀ e, s.queue = [e] → (storeDemand p s).line = s.line.push (s.entryAnswer e (.stopped .superseded)) := by
  have hstored : storeDemand p s = spanStored p (gapTargetArrives p.gapTarget.toNat (sequenceStored p s)) := by
    rw [storeDemand_eq, gapStored_of_present (s := sequenceStored p s) h ha]
  rcases hq with hq | ⟨e, hq, hactive, hkind⟩
  · exact ⟨((storeDemand_arrives p s).waiting hq).1, fun e he => by simp [hq] at he⟩
  · obtain ⟨hqueue, hline⟩ := gapTargetArrives_superseded p.gapTarget.toNat (s := sequenceStored p s) hq hactive hkind
    obtain ⟨hqueue', hline'⟩ := (spanStored_arrives p _).waiting hqueue
    rw [hstored]
    refine ⟨hqueue', fun e' he' => ?_⟩
    have hee : e' = e := by simpa using he'.symm.trans hq
    rw [hline', hline, hee]
    rfl

/-- W after a gap target: afresh out of STUCK, in STUCK held within the window where no span came with it. -/
theorem storeDemand_setpoint {p : DemandPayload} {s : State} (h : p.presence.getLsbD 1 = true) (ha : s.active = true) :
    (s.gapState ≠ .stuck → Afresh (storeDemand p s)) ∧
    (s.gapState = .stuck → p.presence.getLsbD 2 = false →
      (storeDemand p s).gap.setpoint = (storeDemand p s).heldInWindow s.gap.setpoint) ∧
    ∀ m, (storeDemand p s).gap.activity = .moving m → m.noRetry = false := by
  have hstored : storeDemand p s = spanStored p (gapTargetArrives p.gapTarget.toNat (sequenceStored p s)) := by
    rw [storeDemand_eq, gapStored_of_present (s := sequenceStored p s) h ha]
  rw [hstored]
  refine ⟨fun hs => spanStored_afresh p (gapTargetArrives_afresh _ hs), fun hs h2 => ?_, fun m hm => ?_⟩
  · have hspan : p.span? = none := if_neg (Bool.eq_false_iff.1 h2)
    rw [spanStored, hspan]
    exact gapTargetArrives_of_stuck _ hs
  · exact (spanStored_arrives p _).noRetry (fun m hm => gapTargetArrives_noRetry _ hm) m hm

/-- The three rows that a DEMAND frame may stand under, with the command that each reads. -/
def DemandRow (header : Address) (p : DemandPayload) (row : Instr) (command : Option Command) : Prop :=
  (row = .demand header p ∧ command =
    (if p.presence.getLsbD 3 = true ∧ p.command = 1 then some .run
     else if p.presence.getLsbD 3 = true ∧ p.command = 2 then some .stop else none)) ∨
  (row = .run header p ∧ command = some .run) ∨ (row = .stop header p ∧ command = some .stop)

theorem DemandPayload.command?_eq (p : DemandPayload) :
    p.command? = if p.presence.getLsbD 3 = true ∧ p.command = 1 then some .run
      else if p.presence.getLsbD 3 = true ∧ p.command = 2 then some .stop else none := by
  unfold DemandPayload.command?
  by_cases h : p.presence.getLsbD 3 = true
  · simp only [h, true_and, if_true]
  · rw [if_neg h, if_neg fun hc => h hc.1, if_neg fun hc => h hc.1]

theorem exec_demandRow {header : Address} {p : DemandPayload} {s : State} {row : Instr} {command : Option Command}
    (h : s.acceptsDemand header p = true) (hr : s.line.receiver ≠ .waitingIdle) (hrow : DemandRow header p row command) :
    exec row s = .next (actDemand p command (frameEnds s)) := by
  rw [← takeDemand_of_accepted command h hr]
  rcases hrow with ⟨rfl, rfl⟩ | ⟨rfl, rfl⟩ | ⟨rfl, rfl⟩
  · rw [← DemandPayload.command?_eq]
    rfl
  · rfl
  · rfl

theorem actRun_of_state {s : State} (h1 : s.run.state ≠ .idle) (h2 : s.run.state ≠ .stopping) : actRun s = s := by
  unfold actRun
  split
  exacts [absurd ‹_› h1, absurd ‹_› h2, rfl]

theorem actStop_of_state {s : State} (h1 : s.run.state ≠ .running) (h2 : s.run.state ≠ .held)
    (h3 : s.run.state ≠ .priming) : actStop s = s := by
  unfold actStop
  split
  exacts [absurd ‹_› h1, absurd ‹_› h2, absurd ‹_› h3, rfl]

/-- In a station whose blocks are idle a command finds no run state to leave. -/
theorem actDemand_state_of_inactive (p : DemandPayload) (c : Option Command) {s : State} (h : s.active = false) :
    (actDemand p c s).run.state = s.run.state := by
  have hstate := storeDemand_state p s
  have hidle : ∀ r : RunState, r.active = true → (storeDemand p s).run.state ≠ r := fun r hr hs => by
    rw [State.active, ← hstate, hs, hr] at h
    cases h
  have hact : (actCommand c (storeDemand p s)).run.state = s.run.state := by
    rcases c with - | (- | -)
    · exact hstate
    · exact (congrArg (fun u : State => u.run.state)
        (actRun_of_state (s := commandNoted (some .run) _) (hidle _ rfl) (hidle _ rfl))).trans hstate
    · exact (congrArg (fun u : State => u.run.state)
        (actStop_of_state (s := commandNoted (some .stop) _) (hidle _ rfl) (hidle _ rfl) (hidle _ rfl))).trans hstate
  unfold actDemand
  rw [if_neg (by rw [State.active_of_run hact, h]; exact Bool.false_ne_true), hact]

/-- Settles O18: the fields are stored (`actDemand_stored`, `storeDemand_target`, `storeDemand_span`), and with the queue empty what
an arrival makes of W, of a move's flag and of the ACTIVE SET_GAP stands to the end of the event (`actDemand_rests`). -/
theorem demandStoresItsFields : Obligations.DemandStoresItsFields := by
  unfold Obligations.DemandStoresItsFields
  intro header p s haccepts hreceiver row command hrow
  refine ⟨_, exec_demandRow haccepts hreceiver hrow, ?_⟩
  obtain ⟨hsequence, htarget, hcommand, hspan⟩ := actDemand_stored p command (frameEnds s)
  refine ⟨hsequence, htarget.trans ?_, hcommand, hspan.trans (storeDemand_span p _), fun hq => ?_, fun ha h1 hq => ?_,
    fun ha => actDemand_state_of_inactive p command ha⟩
  · unfold DemandPayload.target?
    split <;> rfl
  · have hnil := ((storeDemand_arrives p (frameEnds s)).waiting hq).1
    rw [State.target_of_still (actDemand_rests command hnil).still, (commandNoted_fields command _).2.2.2.1]
    exact storeDemand_target p (frameEnds s)
  · obtain ⟨hnil, hline⟩ := storeDemand_superseded (s := frameEnds s) h1 ha hq
    obtain ⟨hafresh, hstuck, hflag⟩ := storeDemand_setpoint (s := frameEnds s) h1 ha
    have hrests := actDemand_rests command hnil
    obtain ⟨-, -, -, hgap, hqueue, hnoted⟩ := commandNoted_fields command (storeDemand p (frameEnds s))
    refine ⟨hrests.queue.trans (hqueue.trans hnil), ?_, fun hs => ?_, fun hs h2 => ?_,
      fun m hm => actDemand_noRetry command hnil hflag hm, fun e he => ?_⟩
    · rw [State.target_of_still hrests.still, hgap, storeDemand_target, if_pos ⟨h1, ha⟩]
      rfl
    · exact (commandNoted_afresh command (hafresh hs)).of_rests hrests
    · rw [hrests.setpoint, hgap, hstuck hs h2, State.heldInWindow_of_still hrests.still, commandNoted_heldInWindow]
      rfl
    · have hkind : e.kind = .setGap := by
        rcases hq with hq | ⟨f, hq, -, hk⟩
        · simp [he] at hq
        · rwa [show e = f by simpa [he] using hq]
      rw [hrests.line, hnoted, hline e he]
      simp only [State.entryAnswer, plainAnswer, hkind]
      rfl

end Sys2Proof.Machine

/-! ## RUN and STOP (O19, O20) -/

namespace Sys2Proof.Machine

/-! ### The end of an event in the run states that RUN enters -/

/-- In PRIMING without a reference the end of an event leaves Run Control. -/
theorem settle_run_of_unreferenced {s : State} (hp : s.run.state = .priming) (hr : s.gap.reference.present = false) :
    (settle s).run = s.run := by
  have hheads : Stands s (startHeads s.queue.length s) := startHeads_stands _ (by simp [hp])
  have hsettling := ((startHeads_settling s.queue.length s).trans (internalCalibrationTest_settling _)).trans
    (moveTest_settling _)
  unfold settle
  rw [primingTest_of_not fun hc => by simpa [hsettling.unprimed (fun _ => hr) hc.1] using hc.2.1]
  exact ((hheads.trans (internalCalibrationTest_stands _)).trans (moveTest_stands _)).run

theorem changeRun_output_of_feeding {r : RunState} {s : State} (h : driveModeOf r s.gapState ≠ .zeroed) :
    (changeRun r s).drive.output = s.drive.output := by
  unfold changeRun
  rw [zeroIfZeroed_of_feeding (by simpa [State.driveMode, State.gapState] using h), dropCapacity_frame]

theorem State.headStartable_of_same {s t : State} (h : s.headStartable = false) (ha : s.active = true)
    (hq : t.queue = s.queue) (hg : t.gapState = s.gapState) : t.headStartable = false := by
  refine Bool.eq_false_iff.2 fun hc => Bool.eq_false_iff.1 h ?_
  obtain ⟨-, hgap, hhead⟩ := State.headStartable_iff.1 hc
  exact State.headStartable_iff.2 ⟨ha, hg ▸ hgap, hq ▸ hhead⟩

/-- A motor that is not running when it becomes required trips the station (R48). -/
theorem settle_enterRun_stopped {r : RunState} {s : State} (hr : r.motorRequired = true) (hs : s.run.state.motorRequired = false)
    (hm : s.motorRunning = false) :
    let t := settle (enterRun r s)
    t.run.state = .tripped ∧ .motorStopped ∈ t.faults.seen ∧ t.drive.output = 0 := by
  have henter : enterRun r s = report .motorStopped true (changeRun r s) := if_pos ⟨hr, by simp [hs], by simp [hm]⟩
  obtain ⟨hstate, hqueue, houtput⟩ := report_stops .motorStopped (s := changeRun r s)
    (by rw [changeRun_state]; exact RunState.trippable_of_motorRequired hr)
  rw [henter, settle_of_tripped (State.headStartable_of_nil hqueue) hstate]
  exact ⟨hstate, report_noted _ _ _, houtput⟩

section
variable {s : State} (h : s.headStartable = false) (ha : s.active = true)
include h ha

theorem changeRun_headStartable (r : RunState) : (changeRun r s).headStartable = false :=
  State.headStartable_of_same h ha (changeRun_queue r s) (changeRun_gapState r s)

/-- RUNNING with the motor running, or from STOPPING, where it is required already (R40, R48). -/
theorem settle_enterRun_running (hm : s.motorRunning = true ∨ s.run.state = .stopping) :
    let t := settle (enterRun .running s)
    t.run.state = .running ∧ t.run.clearTimer = none ∧ t.drive.setpoint = s.drive.setpoint ∧
      (s.gapState.feeds = true → t.drive.output = s.drive.output) := by
  have henter : enterRun .running s = changeRun .running s := by
    refine if_neg fun hc => ?_
    rcases hm with hm | hm
    exacts [hc.2.2 hm, hc.2.1 (by simp [hm, RunState.motorRequired])]
  have hmove : settle (changeRun .running s) = moveTest (changeRun .running s) :=
    settle_of_not_priming (changeRun_headStartable h ha _) (by simp)
  have hstands := moveTest_stands (changeRun .running s)
  rw [henter, hmove]
  refine ⟨by simp, ?_, hstands.setpoint.trans (by simp), fun hf => ?_⟩
  · rw [hstands.run, changeRun_clearTimer]
    simp
  · rw [moveTest_output_of_feeding (by simp)]
    exact changeRun_output_of_feeding (by simp [driveModeOf, hf])

/-- PRIMING without a reference, or with a calibration in progress, stands to the end of its event (R40, R42). -/
theorem settle_changeRun_priming (hn : ¬ (s.gap.reference.present = true ∧ s.gapState ≠ .calibrating)) :
    let t := settle (changeRun .priming s)
    t.run.state = .priming ∧ t.run.primingTimer = some (s.settings.primingTimeout * 1000) ∧ t.drive.output = 0 ∧
      t.drive.setpoint = 0 := by
  have hzero : (changeRun .priming s).drive.output = 0 := changeRun_output_of_zeroed rfl
  have houtput : (settle (changeRun .priming s)).drive.output = 0 :=
    (settle_tame (.refl (changeRun .priming s))).output.elim (·.trans hzero) id
  have hstands : Stands (changeRun .priming s) (settle (changeRun .priming s)) := by
    by_cases hr : s.gap.reference.present = true
    · have hcal : s.gapState = .calibrating := by simpa [hr] using hn
      rw [settle_of_busy (by simp [hcal]) (by simp [hcal])]
    · rw [settle_of_unreferenced (changeRun_headStartable h ha _) (by simpa using hr)]
      exact internalCalibrationTest_stands _
  refine ⟨?_, ?_, houtput, ?_⟩
  · rw [hstands.run, changeRun_state]
  · rw [hstands.run, changeRun_primingTimer, if_pos rfl]
  · rw [hstands.setpoint, changeRun_setpoint, if_pos (by simp)]

end

/-! ### The station as the command of a frame finds it -/

section
variable (p : DemandPayload) (c : Option Command) (s : State)

/-- The state in which a command acts: the fields of its frame stored, the command recorded (R36, R37). -/
def commanded : State := commandNoted c (storeDemand p s)

theorem commanded_run : (commanded p c s).run =
    { s.run with lastSequence := some p.sequence, target := p.target?.getD s.run.target
                 lastCommand := if c = none then s.run.lastCommand else c } := by
  have hrun : (storeDemand p s).run = (sequenceStored p s).run := (storeDemand_arrives p s).run
  cases c <;> simp only [commanded, commandNoted, hrun] <;> rfl

theorem commanded_arrives : Arrives (commandNoted c (sequenceStored p s)) (commanded p c s) := by
  have h := storeDemand_arrives p s
  cases c with
  | none => exact h
  | some k =>
    exact { run := by rw [commanded, commandNoted, h.run]; rfl
            setpoint := h.setpoint, faults := h.faults, history := h.history, output := h.output, gapState := h.gapState
            calibrating := h.calibrating, noRetry := h.noRetry, waiting := h.waiting }

theorem commanded_kept : (commanded p c s).motorRunning = s.motorRunning ∧ (commanded p c s).settings = s.settings ∧
    (commanded p c s).gap.reference = s.gap.reference ∧ (commanded p c s).monitor.sample = s.monitor.sample := by
  obtain ⟨-, hwear, hdemand⟩ := storeDemand_effect p s
  have hkept : (commanded p c s).undemanded = s.undemanded ∧ (commanded p c s).wear = s.wear := by
    cases c <;> exact ⟨hdemand, hwear⟩
  exact ⟨(congrArg State.motorRunning hkept.1 :), (congrArg State.settings hkept.1 :),
    (State.reference_of_wear hkept.2).1, (congrArg (fun u : State => u.monitor.sample) hkept.1 :)⟩

/-- What the arrivals of the frame leave of the station, as its command finds it. -/
theorem commanded_fields :
    (commanded p c s).drive.setpoint = s.drive.setpoint ∧ (commanded p c s).faults = s.faults ∧
      (s.run.state.motorRequired = true → (commanded p c s).drive.output = s.drive.output) ∧
      ((commanded p c s).gapState = s.gapState ∨ (commanded p c s).gapState = .holding) ∧
      (∀ c', (commanded p c s).gap.activity = .calibrating c' → s.gap.activity = .calibrating c') ∧
      (s.queue = [] → (commanded p c s).queue = []) := by
  have h := commanded_arrives p c s
  have hgap : (commanded p c s).gapState = (commandNoted c (sequenceStored p s)).gapState ∨
      (commanded p c s).gapState = .holding := h.gapState.imp id And.left
  cases c <;> exact ⟨h.setpoint, h.faults, h.output, hgap, h.calibrating, fun hq => (h.waiting hq).1⟩

theorem commanded_of_absent (hg : p.gap? = none) (ha : p.span? = none) :
    commanded p c s = commandNoted c (sequenceStored p s) := by
  rw [commanded, storeDemand_of_absent s hg ha]

theorem commanded_active : (commanded p c s).active = s.active :=
  State.active_of_run (by rw [commanded_run])

/-- A queue without a head to start stays one where it is empty, or where the frame brings nothing to the Gap Controller. -/
theorem commanded_headStartable (h : s.queue = [] ∨ (p.gap? = none ∧ p.span? = none ∧ s.headStartable = false)) :
    (commanded p c s).headStartable = false := by
  rcases h with hq | ⟨hg, ha, hh⟩
  · exact State.headStartable_of_nil ((commanded_fields p c s).2.2.2.2.2 hq)
  · rw [commanded_of_absent p c s hg ha]
    cases c <;> exact hh

/-- A calibration in progress is found so, unless a gap target or span may have ended its BACKING. -/
theorem commanded_calibrating (h : s.gapState ≠ .calibrating ∨ (p.gap? = none ∧ p.span? = none)) :
    (commanded p c s).gapState = .calibrating ↔ s.gapState = .calibrating := by
  rcases h with hs | ⟨hg, ha⟩
  · rcases (commanded_fields p c s).2.2.2.1 with hc | hc <;> simp [hc, hs]
  · rw [commanded_of_absent p c s hg ha]
    cases c <;> rfl

end

theorem actDemand_eq (p : DemandPayload) (c : Option Command) {s : State} (h : (actCommand c (storeDemand p s)).active = true) :
    actDemand p c s = settle (actCommand c (storeDemand p s)) := if_pos h

theorem actCommand_run (p : DemandPayload) (s : State) :
    actCommand (some .run) (storeDemand p s) = actRun (commanded p (some .run) s) := rfl

/-- RUN in IDLE or STOPPING begins a run. -/
theorem actRun_of_begin {s : State} (h : s.run.state = .idle ∨ s.run.state = .stopping) : actRun s = beginRun s := by
  unfold actRun
  rcases h with h | h <;> simp only [h]

/-- A RUN that finds no run state to leave: the event ends on the station as the command found it. -/
theorem actDemand_run_of_standing (p : DemandPayload) {s : State} (ha : s.active = true) (h1 : s.run.state ≠ .idle)
    (h2 : s.run.state ≠ .stopping) : actDemand p (some .run) s = settle (commanded p (some .run) s) := by
  have hrun := commanded_run p (some .run) s
  have hact : actCommand (some .run) (storeDemand p s) = commanded p (some .run) s := by
    rw [actCommand_run]
    exact actRun_of_state (by rw [hrun]; exact h1) (by rw [hrun]; exact h2)
  rw [actDemand_eq _ _ (by rw [hact, commanded_active, ha]), hact]

theorem actDemand_run_of_begin (p : DemandPayload) {s : State} (h : s.run.state = .idle ∨ s.run.state = .stopping) :
    actDemand p (some .run) s = settle (beginRun (commanded p (some .run) s)) := by
  have hact : actCommand (some .run) (storeDemand p s) = beginRun (commanded p (some .run) s) := by
    rw [actCommand_run]
    exact actRun_of_begin (by rw [commanded_run]; exact h)
  rw [actDemand_eq _ _ (by rw [hact]; exact beginRun_active _), hact]

/-! ### RUN (R40) -/

/-- RUNNING and HELD with no request queued keep Run Control but for what the frame stores. -/
theorem actDemand_run_of_feeding (p : DemandPayload) {s : State} (h : s.run.state = .running ∨ s.run.state = .held)
    (hq : s.queue = []) : (actDemand p (some .run) s).run = (commanded p (some .run) s).run := by
  have ha : s.active = true := by rcases h with h | h <;> simp [State.active, h, RunState.active]
  have hqueue := (commanded_fields p (some .run) s).2.2.2.2.2 hq
  have hstate : (commanded p (some .run) s).run.state = s.run.state := by rw [commanded_run]
  rw [actDemand_run_of_standing p ha (by rcases h with h | h <;> simp [h]) (by rcases h with h | h <;> simp [h])]
  exact (settle_idle (by rw [hstate]; rcases h with h | h <;> simp [h]) hqueue).1

/-- Settles O19: RUN begins a run in IDLE and STOPPING (`settle_enterRun_running`, `settle_enterRun_stopped`,
`settle_changeRun_priming`), and elsewhere only the end of its event follows. -/
theorem runEntersRunningOrPriming : Obligations.RunEntersRunningOrPriming := by
  unfold Obligations.RunEntersRunningOrPriming
  intro header p s haccepts hreceiver
  have hexec : exec (.run header p) s = .next (actDemand p (some .run) (frameEnds s)) :=
    exec_demandRow haccepts hreceiver (.inr (.inl ⟨rfl, rfl⟩))
  obtain ⟨hsequence, -, hcommand, -⟩ := actDemand_stored p (some .run) (frameEnds s)
  have hrun := commanded_run p (some .run) (frameEnds s)
  refine ⟨fun hs hr => ⟨_, hexec, hcommand, ?priming⟩, fun hs hq => ⟨_, hexec, ?feeding⟩,
    fun hs => ⟨_, hexec, hcommand, ?ignored⟩, fun hs hhead hcal => ?begins⟩
  case priming =>
    have hs' : (frameEnds s).run.state = .priming := hs
    have hreference : (commanded p (some .run) (frameEnds s)).gap.reference.present = false := by
      rw [(commanded_kept p (some .run) (frameEnds s)).2.2.1, Reference.not_present_iff]
      exact hr
    rw [actDemand_run_of_standing p (State.active_of_priming hs') (by simp [hs]) (by simp [hs]),
      settle_run_of_unreferenced (by rw [hrun]; exact hs) hreference, hrun]
    exact ⟨hs, rfl⟩
  case feeding =>
    rw [actDemand_run_of_feeding p (s := frameEnds s) hs hq, hrun]
    rfl
  case ignored => exact (actDemand_effect p (some .run) (frameEnds s)).1.stays hs
  case begins =>
    intro ready
    obtain ⟨w, hw⟩ : ∃ w, w = commanded p (some .run) (frameEnds s) := ⟨_, rfl⟩
    rw [actDemand_run_of_begin p (s := frameEnds s) hs, ← hw] at hexec hcommand hsequence
    obtain ⟨hmotor, hsettings, hreference, -⟩ := commanded_kept p (some .run) (frameEnds s)
    obtain ⟨hsetpoint, -, houtput, hgap, -, -⟩ := commanded_fields p (some .run) (frameEnds s)
    have hheads := commanded_headStartable p (some .run) (frameEnds s) hhead
    have hcalibrating := commanded_calibrating p (some .run) (frameEnds s) hcal
    rw [← hw] at hmotor hsettings hreference hsetpoint houtput hgap hheads hcalibrating hrun
    have hstate : w.run.state = s.run.state := by rw [hrun]; rfl
    have hactive : w.active = true := by rcases hs with hs | hs <;> simp [State.active, hstate, hs, RunState.active]
    have hready : w.readyToRun = true ↔ ready := by
      simp only [State.readyToRun, hreference, Bool.and_eq_true, decide_eq_true_eq, ne_eq, hcalibrating]
      rfl
    refine ⟨_, hexec, hcommand, hsequence, fun hr hm => ?_, fun hr hm hi => ?_, fun hr => ?_⟩
    · rw [beginRun, if_pos (hready.2 hr)]
      obtain ⟨h1, h2, h3, h4⟩ := settle_enterRun_running hheads hactive
        (hm.imp (fun h => hmotor.trans h) fun h => hstate.trans h)
      refine ⟨h1, h2, h3.trans hsetpoint, fun hstop hf => (h4 ?_).trans (houtput ?_)⟩
      · rcases hgap with h | h
        · rw [h]
          exact hf
        · rw [h]
          rfl
      · rw [show (frameEnds s).run.state = .stopping from hstop]
        rfl
    · rw [beginRun, if_pos (hready.2 hr)]
      exact settle_enterRun_stopped rfl (by rw [hstate, hi]; rfl) (hmotor.trans hm)
    · rw [beginRun, if_neg (mt hready.1 hr)]
      obtain ⟨h1, h2, h3, h4⟩ := settle_changeRun_priming hheads hactive (by
        rw [hreference, ne_eq, hcalibrating]
        exact hr)
      exact ⟨h1, h2.trans (by rw [hsettings]; rfl), h3, h4⟩

/-! ### STOP (R45) -/

theorem actStop_of_feeding {s : State} (h : s.run.state = .running ∨ s.run.state = .held) :
    actStop s = changeRun .stopping s := by
  have hbegin : beginStop s = changeRun .stopping s :=
    enterRun_of_required _ (by rcases h with h | h <;> simp [h, RunState.motorRequired])
  rw [← hbegin]
  unfold actStop
  rcases h with h | h <;> simp only [h]

theorem actStop_of_priming {s : State} (h : s.run.state = .priming) : actStop s = abortInternal (enterRun .stopping s) := by
  unfold actStop beginStop
  simp only [h]

theorem abortInternal_stands (s : State) : Stands s (abortInternal s) := by
  unfold abortInternal
  split
  · split
    exacts [setActivity_stands (.inr (.inr rfl)), .refl s]
  · exact .refl s

/-- STOPPING is entered without a trip from RUNNING and HELD, and from PRIMING with the motor running. -/
theorem actStop_stands {s : State}
    (h : s.run.state = .running ∨ s.run.state = .held ∨ (s.run.state = .priming ∧ s.motorRunning = true)) :
    Stands (changeRun .stopping s) (actStop s) := by
  rcases h with h | h | ⟨h, hm⟩
  · rw [actStop_of_feeding (.inl h)]
  · rw [actStop_of_feeding (.inr h)]
  · have henter : enterRun .stopping s = changeRun .stopping s := if_neg fun hc => hc.2.2 hm
    rw [actStop_of_priming h, henter]
    exact abortInternal_stands _

/-- An internal calibration is over once STOP has told the Gap Controller (R126). -/
theorem abortInternal_gapState {s : State} (h : ∀ c, s.gap.activity = .calibrating c → c.kind = .internal) :
    (abortInternal s).gapState ≠ .calibrating := by
  unfold abortInternal
  split
  · next c hc =>
    rw [if_pos (h c hc)]
    simp [stopCalibration, Activity.state]
  · next hn =>
    intro hs
    unfold State.gapState at hs
    cases hact : s.gap.activity <;> simp [hact, Activity.state] at hs
    exact hn _ hact

theorem abortInternal_of_requested {s : State} {c : Calibration} (h : s.gap.activity = .calibrating c)
    (hk : c.kind = .requested) : abortInternal s = s := by
  unfold abortInternal
  rw [h]
  simp [hk]

/-- The end of a STOP's event, with the motor running where it becomes required (R45, R46). -/
theorem settle_actStop {s : State}
    (h : s.run.state = .running ∨ s.run.state = .held ∨ (s.run.state = .priming ∧ s.motorRunning = true)) :
    let t := settle (actStop s)
    t.run.state = .stopping ∧ t.run.primingTimer = none ∧ t.drive.setpoint = s.drive.setpoint ∧
      (s.run.state = .running → t.gap.history = []) ∧
      (s.drive.output = 0 → t.run.clearTimer = some (s.settings.clearTime * 1000)) := by
  have hact := actStop_stands h
  have hstate : (actStop s).run.state = .stopping := by rw [hact.run, changeRun_state]
  have hstands := hact.trans (settle_stands (s := actStop s) (by simp [hstate]) (by simp [hstate]))
  refine ⟨?_, ?_, hstands.setpoint.trans (by simp), fun hr => hstands.history_nil ?_, fun h0 => ?_⟩
  · rw [hstands.run, changeRun_state]
  · rw [hstands.run, changeRun_primingTimer]
    simp
  · rw [changeRun_frame]
    exact if_pos hr
  · have hzero : (changeRun .stopping s).drive.output = 0 :=
      (changeRun_eases .stopping s).output.elim (·.trans h0) id
    rw [hstands.run, changeRun_clearTimer, if_pos ⟨rfl, hzero⟩]

/-- From PRIMING a motor that is not running trips the station (R48). -/
theorem settle_actStop_stopped {s : State} (h : s.run.state = .priming) (hm : s.motorRunning = false) :
    (settle (actStop s)).run.state = .tripped ∧ .motorStopped ∈ (settle (actStop s)).faults.seen := by
  have henter : enterRun .stopping s = report .motorStopped true (changeRun .stopping s) :=
    if_pos ⟨by simp [RunState.motorRequired], by simp [h, RunState.motorRequired], by simp [hm]⟩
  have htame : Tame (enterRun .stopping s) (settle (actStop s)) := by
    rw [actStop_of_priming h]
    exact settle_tame (abortInternal_tame (.refl _))
  rw [henter] at htame
  have hstate := (report_stops .motorStopped (s := changeRun .stopping s) (by simp [RunState.trippable])).1
  exact ⟨(htame.stays (.inl hstate)).trans hstate, htame.seen _ (report_noted _ _ _)⟩

/-- With no request queued no calibration but a requested one is in progress after a STOP in PRIMING. -/
theorem settle_actStop_gapState {s : State} (h : s.run.state = .priming) (hq : s.queue = [])
    (hc : ∀ c, s.gap.activity = .calibrating c → c.kind = .internal) : (settle (actStop s)).gapState ≠ .calibrating := by
  have hgap : (actStop s).gapState ≠ .calibrating := by
    rw [actStop_of_priming h]
    refine abortInternal_gapState fun c hcal => ?_
    rcases enterRun_activity .stopping s with ha | ha
    exacts [hc c (ha.symm.trans hcal), by simp [ha] at hcal]
  have hstate : (actStop s).run.state ≠ .priming := by
    rw [actStop_of_priming h, (abortInternal_stands _).run]
    exact enterRun_state_ne_priming (by simp) s
  rw [settle_of_not_priming (State.headStartable_of_nil ((actStop_rests hq).queue.trans hq)) hstate]
  rcases moveTest_cases (actStop s) with hm | hm
  · rw [hm]
    exact hgap
  · simp [hm]

/-- A requested calibration runs on after a STOP in PRIMING, its queue and the line as they were. -/
theorem settle_actStop_requested {s : State} {c : Calibration} (h : s.run.state = .priming) (hm : s.motorRunning = true)
    (hc : s.gap.activity = .calibrating c) (hk : c.kind = .requested) :
    (settle (actStop s)).gap.activity = .calibrating c ∧ (settle (actStop s)).queue = s.queue ∧
      (settle (actStop s)).line = s.line := by
  have hact : actStop s = changeRun .stopping s := by
    have henter : enterRun .stopping s = changeRun .stopping s := if_neg fun hc => hc.2.2 hm
    rw [actStop_of_priming h, henter, abortInternal_of_requested ((changeRun_activity _ _).trans hc) hk]
  have hgap : (changeRun .stopping s).gapState = .calibrating :=
    (changeRun_gapState _ _).trans (State.gapState_of_calibrating hc)
  rw [hact, settle_of_busy (by simp [hgap]) (by simp [hgap])]
  exact ⟨(changeRun_activity _ _).trans hc, changeRun_queue _ _, changeRun_line _ _⟩

/-! ### A requested calibration at an arrival (R94, R95) -/

/-- A calibration `c` in progress is still so, and an ACTIVE CALIBRATE leaves queue and line as they were. -/
def Calibrates (c : Calibration) (s t : State) : Prop :=
  s.gap.activity = .calibrating c → t.gap.activity = .calibrating c ∧
    ∀ e rest, s.queue = e :: rest → e.active = true → e.kind = .calibrate → t.queue = s.queue ∧ t.line = s.line

theorem Calibrates.trans {c : Calibration} {s t u : State} (h : Calibrates c s t) (h' : Calibrates c t u) :
    Calibrates c s u := fun hact => by
  obtain ⟨hact', hentry⟩ := h hact
  obtain ⟨hact'', hentry'⟩ := h' hact'
  refine ⟨hact'', fun e rest hq ha hk => ?_⟩
  obtain ⟨hqueue, hline⟩ := hentry e rest hq ha hk
  obtain ⟨hqueue', hline'⟩ := hentry' e rest (hqueue.trans hq) ha hk
  exact ⟨hqueue'.trans hqueue, hline'.trans hline⟩

theorem Calibrates.plain {c : Calibration} {s t : State} (ha : t.gap.activity = s.gap.activity := by rfl)
    (hq : t.queue = s.queue := by rfl) (hl : t.line = s.line := by rfl) : Calibrates c s t :=
  fun h => ⟨ha.trans h, fun _ _ _ _ _ => ⟨hq, hl⟩⟩

theorem backingArrival_of_phase {s : State} {c : Calibration} (h : s.gap.activity = .calibrating c)
    (hp : ∀ mark left, c.phase ≠ .backing mark left) : backingArrival s = s := by
  unfold backingArrival
  split
  · next c' g hact hg =>
    have hc : c' = c := by
      rw [h] at hact
      cases hact
      rfl
    split
    · next mark left hphase => exact absurd (hc ▸ hphase) (hp mark left)
    · rfl
  · rfl

section
variable {c : Calibration} (hp : ∀ mark left, c.phase ≠ .backing mark left)
include hp

theorem targetChanged_calibrates (s : State) : Calibrates c s (targetChanged s) := fun hact => by
  have hgap := State.gapState_of_calibrating hact
  have hmoved : targetMoved s = setAfresh s := if_neg (by simp [hgap])
  have htest : targetChanged s = setAfresh s := by
    rw [targetChanged_eq, hmoved]
    unfold testW
    rw [show (setAfresh s).gapState = .calibrating from hgap]
    exact backingArrival_of_phase (s := setAfresh s) hact hp
  rw [htest]
  exact ⟨hact, fun _ _ _ _ _ => ⟨rfl, rfl⟩⟩

theorem gapTargetArrives_calibrates (n : Nat) (s : State) : Calibrates c s (gapTargetArrives n s) := by
  have hend : Calibrates c s (endActiveOf .setGap (.stopped .superseded) s) := fun hact => by
    refine ⟨?_, fun e rest hq ha hk => ?_⟩
    · rw [endActiveOf_frame]
      exact hact
    · have hkind : s.activeKind .setGap = false := by simp [State.activeKind, State.activeEntry, hq, ha, hk]
      rw [endActiveOf, hkind]
      exact ⟨rfl, rfl⟩
  have hflag : ∀ u : State, Calibrates c u (flagDropped u) := fun u hact => by
    have hkept : flagDropped u = u := by
      unfold flagDropped
      rw [hact]
    rw [hkept]
    exact ⟨hact, fun _ _ _ _ _ => ⟨rfl, rfl⟩⟩
  rw [gapTargetArrives_eq]
  exact ((hend.trans (hflag _)).trans (t := targetTaken n _) .plain).trans (targetChanged_calibrates hp _)

theorem storeDemand_calibrates (p : DemandPayload) (s : State) : Calibrates c s (storeDemand p s) := by
  have hgap : ∀ u : State, Calibrates c u (gapStored p u) := fun u => by
    unfold gapStored
    split
    · split
      exacts [gapTargetArrives_calibrates hp _ u, .plain]
    · exact .plain
  have hspan : ∀ u : State, Calibrates c u (spanStored p u) := fun u => by
    unfold spanStored spanArrives
    split
    · split
      · split
        exacts [.plain, Calibrates.trans (t := { u with gap.span := _ }) .plain (targetChanged_calibrates hp _)]
      · exact .plain
    · exact .plain
  rw [storeDemand_eq]
  exact (Calibrates.trans (t := sequenceStored p s) .plain (hgap _)).trans (hspan _)

end

/-- A command finds the calibration still in progress where its frame could not end BACKING. -/
theorem commanded_calibrates {c : Calibration} (p : DemandPayload) (k : Option Command) (s : State)
    (h : (∀ mark left, c.phase ≠ .backing mark left) ∨ (p.gap? = none ∧ p.span? = none)) :
    Calibrates c s (commanded p k s) := by
  have hstored : Calibrates c s (storeDemand p s) := by
    rcases h with h | ⟨hg, ha⟩
    · exact storeDemand_calibrates h p s
    · rw [storeDemand_of_absent s hg ha]
      exact .plain
  cases k with
  | none => exact hstored
  | some k => exact hstored.trans .plain

theorem commanded_tame (p : DemandPayload) (c : Option Command) (s : State) : Tame s (commanded p c s) := by
  have h := (storeDemand_effect p s).1
  cases c with
  | none => exact h
  | some k => exact h.plain

/-- The event of a STOP in a station whose blocks are active. -/
theorem actDemand_stop (p : DemandPayload) {s : State} (ha : s.active = true) :
    actDemand p (some .stop) s = settle (actStop (commanded p (some .stop) s)) :=
  actDemand_eq p _ (actStop_active (s := commanded p (some .stop) s) ((commanded_active p _ s).trans ha))

/-- Where STOP finds nothing to stop, Run Control keeps all but what the frame stores. -/
theorem actDemand_stop_of_standing (p : DemandPayload) {s : State}
    (h : s.run.state = .stopping ∨ s.run.state = .idle ∨ s.run.state = .tripped ∨ s.run.state = .unconfigured) :
    (actDemand p (some .stop) s).run = (commanded p (some .stop) s).run := by
  have hstate : (commanded p (some .stop) s).run.state = s.run.state := by rw [commanded_run]
  have hne : ∀ r, r = .running ∨ r = .held ∨ r = .priming → (commanded p (some .stop) s).run.state ≠ r := by
    rintro r (rfl | rfl | rfl) <;> rw [hstate] <;> rcases h with h | h | h | h <;> simp [h]
  have hstop : actCommand (some .stop) (storeDemand p s) = commanded p (some .stop) s :=
    actStop_of_state (hne _ (.inl rfl)) (hne _ (.inr (.inl rfl))) (hne _ (.inr (.inr rfl)))
  rcases actDemand_cases p (some .stop) s with hact | hact <;> rw [hact, hstop]
  exact (settle_stands (hne _ (.inr (.inr rfl))) fun hr =>
    absurd hr (not_or.2 ⟨hne _ (.inl rfl), hne _ (.inr (.inl rfl))⟩)).run

/-- Settles O20: STOP goes through `settle_actStop` and its neighbours where there is a run or a PRIMING to stop. -/
theorem stopEntersStopping : Obligations.StopEntersStopping := by
  unfold Obligations.StopEntersStopping
  intro header p s haccepts hreceiver
  have hexec : exec (.stop header p) s = .next (actDemand p (some .stop) (frameEnds s)) :=
    exec_demandRow haccepts hreceiver (.inr (.inr ⟨rfl, rfl⟩))
  obtain ⟨hsequence, -, hcommand, -⟩ := actDemand_stored p (some .stop) (frameEnds s)
  have hrun := commanded_run p (some .stop) (frameEnds s)
  obtain ⟨hmotor, hsettings, -, -⟩ := commanded_kept p (some .stop) (frameEnds s)
  obtain ⟨hsetpoint, -, -, -, hcalibrating, hqueue⟩ := commanded_fields p (some .stop) (frameEnds s)
  have hzero := (commanded_tame p (some .stop) (frameEnds s)).output
  have hstate : (commanded p (some .stop) (frameEnds s)).run.state = s.run.state := by
    rw [hrun]
    rfl
  refine ⟨_, hexec, hcommand, hsequence, fun hs => ?stops, fun hs hm => ?trips, fun hs hq hc => ?aborts,
    fun c hs hm hact hk hphase => ?requested, fun hs => ?stands⟩
  case stops =>
    have hactive : (frameEnds s).active = true := by
      change s.run.state.active = true
      rcases hs with hs | hs | ⟨hs, -⟩ <;> rw [hs] <;> rfl
    obtain ⟨h1, h2, h3, h4, h5⟩ := settle_actStop (s := commanded p (some .stop) (frameEnds s)) (by
      rw [hstate, hmotor]
      exact hs)
    rw [actDemand_stop p hactive]
    refine ⟨h1, h2, h3.trans hsetpoint, fun hr => h4 (hstate.trans hr), fun h0 => (h5 ?_).trans (by rw [hsettings]; rfl)⟩
    exact hzero.elim (·.trans h0) id
  case trips =>
    rw [actDemand_stop p (State.active_of_priming (s := frameEnds s) hs)]
    exact settle_actStop_stopped (hstate.trans hs) (hmotor.trans hm)
  case aborts =>
    rw [actDemand_stop p (State.active_of_priming (s := frameEnds s) hs)]
    exact settle_actStop_gapState (hstate.trans hs) (hqueue hq) fun c h => hc c (hcalibrating c h)
  case requested =>
    obtain ⟨hact', hentry⟩ := commanded_calibrates p (some .stop) (frameEnds s) hphase hact
    obtain ⟨h1, h2, h3⟩ := settle_actStop_requested (hstate.trans hs) (hmotor.trans hm) hact' hk
    rw [actDemand_stop p (State.active_of_priming (s := frameEnds s) hs)]
    refine ⟨h1, fun e rest hq ha hkind => ?_⟩
    obtain ⟨hqueue', hline'⟩ := hentry e rest hq ha hkind
    exact ⟨h2.trans hqueue', h3.trans hline'⟩
  case stands =>
    rw [actDemand_stop_of_standing p (s := frameEnds s) hs, hrun]
    rfl

end Sys2Proof.Machine

/-! ## PRIMING calibrates and runs (O38) -/

namespace Sys2Proof.Machine

/-! ### The events that meet the last start condition (R41, R120) -/

theorem State.sensing_of_undemanded {s t : State} (h : t.undemanded = s.undemanded) :
    t.motorRunning = s.motorRunning ∧ t.settings = s.settings ∧ t.monitor.sample = s.monitor.sample ∧
      t.monitor.position = s.monitor.position ∧ t.monitor.positionValid = s.monitor.positionValid :=
  ⟨(congrArg State.motorRunning h :), (congrArg State.settings h :), (congrArg (fun u : State => u.monitor.sample) h :),
    (congrArg (fun u : State => u.monitor.position) h :), (congrArg (fun u : State => u.monitor.positionValid) h :)⟩

theorem State.sensing_of_still {s t : State} (h : t.still = s.still) :
    t.monitor.sample = s.monitor.sample ∧ t.monitor.position = s.monitor.position ∧
      t.monitor.positionValid = s.monitor.positionValid :=
  ⟨(congrArg (fun u : State => u.monitor.sample) h :), (congrArg (fun u : State => u.monitor.position) h :),
    (congrArg (fun u : State => u.monitor.positionValid) h :)⟩

/-- The internal calibration of a station that waits for it in PRIMING, at the event that meets its start conditions. -/
structure Waits (s : State) (p : Nat) : Prop where
  state     : s.run.state = .priming
  reference : s.gap.reference.present = false
  holding   : s.gapState = .holding
  queue     : s.queue = []
  position  : s.monitor.position = some p
  valid     : s.monitor.positionValid = true
  output    : s.drive.output = 0

/-- The activity that an internal calibration starts with at position `p` (R121). -/
def openingAt (c : Settings) (p : Nat) : Activity :=
  .calibrating { kind := .internal, seekLimit := some (c.seekLimit * 1000), phase := .opening p }

theorem Waits.calibrates {s : State} {p : Nat} (h : Waits s p) (hm : s.motorRunning = true)
    (he : ∃ l, s.monitor.sample = some l ∧ l.cavity ≤ s.settings.cavityEmpty) :
    (internalCalibrationTest s).gap.activity = openingAt s.settings p ∧ (internalCalibrationTest s).run = s.run :=
  internalCalibrationTest_starts (State.standingRequest_of_nil h.queue h.state h.reference) h.holding
    (State.active_of_priming h.state)
    (State.calibrationReady_iff.2 ⟨hm, h.output, he, h.valid, by simp [h.state]⟩) h.position

theorem Waits.settle {s : State} {p : Nat} (h : Waits s p) : settle s = internalCalibrationTest s :=
  settle_of_unreferenced (State.headStartable_of_nil h.queue) h.reference

theorem openingAt_valve {s : State} {p : Nat} {c : Settings} (ha : s.gap.activity = openingAt c p)
    (hv : s.monitor.positionValid = true) : s.valve = .opening := by
  rw [State.valve, if_pos hv, ha]
  rfl

/-- A window close hands its sample to nothing else while the station is PRIMING. -/
theorem execWindowClose_of_priming {s : State} (h : s.run.state = .priming) :
    exec .windowClose s = .next (settle (reopened s)) := by
  have htakes := historyTakes_of_not_running (closingSample s) (s := reopened s) (by simp [reopened, h])
  have hclear : clearTakes (closingSample s) (reopened s) = reopened s :=
    if_neg fun hc => by simp [reopened, h] at hc
  exact congrArg Host.Outcome.next ((if_pos (State.active_of_priming h)).trans
    ((windowClose_eq s).trans (by rw [htakes, hclear])))

/-- The station that RUN has just made PRIMING waits for its calibration. -/
theorem changeRun_priming_waits {s : State} {p : Nat} (hr : s.gap.reference.present = false) (hh : s.gapState = .holding)
    (hq : s.queue = []) (hp : s.monitor.position = some p) (hv : s.monitor.positionValid = true) :
    Waits (changeRun .priming s) p := by
  obtain ⟨-, hposition, hvalid⟩ := State.sensing_of_still (changeRun_still .priming s)
  exact
    { state := changeRun_state _ _, reference := by rw [changeRun_reference]; exact hr
      holding := (changeRun_gapState _ _).trans hh, queue := (changeRun_queue _ _).trans hq
      position := hposition.trans hp, valid := hvalid.trans hv, output := changeRun_output_of_zeroed rfl }

/-! ### The end of a relief (R138) -/

theorem moveTest_of_close {s : State} {g : Nat} (hg : s.gapEstimate = some g)
    (hd : gapDistance g s.gap.setpoint ≤ s.settings.holdBand) (ha : s.gap.approach = false ∨ g = s.gap.setpoint) :
    moveTest s = s := by
  unfold moveTest
  rw [hg]
  refine if_neg fun hc => ?_
  rcases hc.2 with h | ⟨h1, h2⟩
  · exact absurd hd (Nat.not_le.2 h)
  · rcases ha with ha | ha
    exacts [by simp [ha] at h1, h2 ha]

/-- In PRIMING with a reference, and nothing to move, the end of an event at HOLDING lets the station run (R42). -/
theorem settle_of_primed_still {s : State} (h : s.headStartable = false) (hp : s.Primed) (hm : moveTest s = s) :
    settle s = enterRun .running s := by
  rw [settle_of_not_startable h, internalCalibrationTest_of_reference hp.2.1, hm]
  exact if_pos hp

theorem reliefEnds_of_reached {s : State} {g : Nat} (hg : s.gapEstimate = some g) (h : g ≤ s.gap.setpoint) :
    reliefEnds s = setActivity .holding s := by
  unfold reliefEnds
  rw [hg]
  exact if_pos h

theorem execSettleTimerExpiry_of_relieved {s : State} {left : Nat} (h : s.gap.activity = .relieved (some left))
    (ha : s.active = true) : exec .settleTimerExpiry s = .next (settle (reliefEnds s)) := by
  have hexpires : execSettleTimerExpiry s = .next (settle (reliefEnds s)) := by
    unfold execSettleTimerExpiry
    rw [h]
    exact congrArg Host.Outcome.next (if_pos ha)
  exact hexpires

/-! ### A LINER_CHANGE that takes the reference (R44, R128) -/

/-- The loss of the reference makes a feeding station PRIMING (R44). -/
theorem setReference_of_feeding {s : State} (h : s.run.state = .running ∨ s.run.state = .held) (hg : s.gapState ≠ .moving) :
    setReference .unreferenced s =
      changeRun .priming (holdW { s with gap.reference := .unreferenced, gap.jumpWindow := [] }) := by
  have hhold := holdW_arrives { s with gap.reference := .unreferenced, gap.jumpWindow := [] }
  have hgap : (holdW { s with gap.reference := .unreferenced, gap.jumpWindow := [] }).gapState ≠ .moving := by
    rcases hhold.gapState with h1 | ⟨h1, -⟩ <;> rw [h1]
    · exact hg
    · simp
  unfold setReference
  rw [if_neg (by simp [Reference.present, Reference.contact?])]
  dsimp only
  rw [if_neg hgap, if_pos (by rw [hhold.run]; exact h)]

theorem holdW_history (s : State) : (holdW s).gap.history = s.gap.history := by
  unfold holdW
  split <;> rfl

/-- What the loss of the reference leaves of a feeding station in HOLDING. -/
theorem setReference_of_feeding_fields {s : State} (h : s.run.state = .running ∨ s.run.state = .held)
    (hg : s.gapState = .holding) :
    let t := setReference .unreferenced s
    t.run.state = .priming ∧ t.run.primingTimer = some (s.settings.primingTimeout * 1000) ∧ t.drive.output = 0 ∧
      t.drive.setpoint = 0 ∧ t.gap.history = (if s.run.state = .running then [] else s.gap.history) ∧
      t.queue = s.queue ∧ t.gapState = .holding ∧ t.gap.reference = .unreferenced := by
  obtain ⟨u, hu⟩ : ∃ u, u = holdW { s with gap.reference := .unreferenced, gap.jumpWindow := [] } := ⟨_, rfl⟩
  have hstill : u.still = ({ s with gap.reference := .unreferenced, gap.jumpWindow := [] } : State).still := hu ▸ holdW_still _
  have hrun : u.run = s.run := hu ▸ (holdW_stands _).run
  have hhistory : u.gap.history = s.gap.history := hu ▸ holdW_history _
  have hactivity : u.gap.activity = s.gap.activity ∧ u.queue = s.queue := by
    rw [hu]
    unfold holdW
    split <;> exact ⟨rfl, rfl⟩
  have hset : setReference .unreferenced s = changeRun .priming u := by
    rw [hu]
    exact setReference_of_feeding h (by simp [hg])
  intro t
  have ht : t = changeRun .priming u := hset
  clear_value t
  subst ht
  refine ⟨changeRun_state _ _, ?_, changeRun_output_of_zeroed rfl, by simp, ?_, (changeRun_queue _ _).trans hactivity.2,
    (changeRun_gapState _ _).trans ((congrArg Activity.state hactivity.1).trans hg), ?_⟩
  · rw [changeRun_primingTimer, if_pos rfl, State.settings_of_still hstill]
  · rw [changeRun_frame]
    dsimp only
    rw [hrun, hhistory]
  · rw [changeRun_reference, State.reference_of_still hstill]

/-- What a LINER_CHANGE makes of a feeding station in HOLDING. -/
theorem startLinerChange_of_feeding {s : State} (h : s.run.state = .running ∨ s.run.state = .held)
    (hg : s.gapState = .holding) :
    let t := startLinerChange s
    t.run.state = .priming ∧ t.run.primingTimer = some (s.settings.primingTimeout * 1000) ∧ t.drive.output = 0 ∧
      t.drive.setpoint = 0 ∧ t.gap.history = (if s.run.state = .running then [] else s.gap.history) ∧
      t.queue = s.queue ∧ t.gapState = .holding ∧ t.gap.reference = .unreferenced := by
  obtain ⟨u, hu⟩ : ∃ u, startLinerChange s = requestRecord (setReference .unreferenced u) ∧ u.run = s.run ∧
      u.settings = s.settings ∧ u.gap.history = s.gap.history ∧ u.queue = s.queue ∧ u.gap.activity = s.gap.activity :=
    ⟨_, rfl, rfl, rfl, rfl, rfl, rfl⟩
  obtain ⟨hstart, hrun, hsettings, hhistory, hqueue, hactivity⟩ := hu
  obtain ⟨h1, h2, h3, h4, h5, h6, h7, h8⟩ := setReference_of_feeding_fields (s := u) (by rw [hrun]; exact h)
    ((congrArg Activity.state hactivity).trans hg)
  rw [hrun, hhistory] at h5
  rw [hsettings] at h2
  rw [hqueue] at h6
  intro t
  have ht : t = requestRecord (setReference .unreferenced u) := hstart
  clear_value t
  rw [ht, requestRecord_frame]
  exact ⟨h1, h2, h3, h4, h5, h6, h7, h8⟩

/-- A LINER_CHANGE that waits alone starts at HOLDING and takes the reference; no calibration, move or run follows in its event. -/
theorem settle_linerChange {s : State} {e : Entry} (h : s.run.state = .running ∨ s.run.state = .held)
    (hg : s.gapState = .holding) (hq : s.queue = [e]) (ha : e.active = false) (hk : e.kind = .linerChange) :
    settle s = startLinerChange { s with queue := [{ e with active := true }] } := by
  have hactive : s.active = true := by rcases h with h | h <;> simp [State.active, h, RunState.active]
  have hstart : s.headStartable = true := State.headStartable_iff.2 ⟨hactive, .inl hg, e, [], hq, ha⟩
  have hhead : startHead s = startLinerChange { s with queue := [{ e with active := true }] } := by
    unfold startHead
    simp only [hq, activateHead, hk]
  obtain ⟨-, -, -, -, -, hqueue, -, hreference⟩ :=
    startLinerChange_of_feeding (s := { s with queue := [{ e with active := true }] }) h hg
  have hheads : startHeads s.queue.length s = startHead s := by
    rw [hq]
    exact if_pos hstart
  unfold settle
  rw [hheads, hhead]
  generalize startLinerChange { s with queue := [{ e with active := true }] } = t at hqueue hreference
  have hpresent := Reference.not_present_iff.2 hreference
  have hrequest : t.standingRequest = false := by
    simp [State.standingRequest, State.activeKind, State.activeEntry, hqueue, hk]
  rw [show internalCalibrationTest t = t from if_neg fun hc => by simp [hrequest] at hc,
    moveTest_of_noEstimate (gapEstimate_of_unreferenced hpresent),
    primingTest_of_not fun hp => by simpa [hpresent] using hp.2.1]

/-! ### The statement (O38) -/

theorem distance_le_of_near {g w band : Nat} (h1 : g ≤ w) (h2 : w ≤ g + band) : gapDistance g w ≤ band := by
  unfold gapDistance
  omega

/-- The standing request of a RUN accepted in IDLE starts its calibration in the same event. -/
theorem actDemand_run_calibrates {s : State} {p : Nat} (d : DemandPayload) (hs : s.run.state = .idle)
    (hr : s.gap.reference = .unreferenced) (hact : s.gap.activity = .holding) (hq : s.queue = [])
    (hp : s.monitor.position = some p) (hv : s.monitor.positionValid = true) (hm : s.motorRunning = true)
    (he : ∃ l, s.monitor.sample = some l ∧ l.cavity ≤ s.settings.cavityEmpty) :
    let t := actDemand d (some .run) s
    t.run.state = .priming ∧ t.run.primingTimer = some (s.settings.primingTimeout * 1000) ∧
      t.gap.activity = openingAt s.settings p := by
  obtain ⟨w, hw⟩ : ∃ w, w = commanded d (some .run) s := ⟨_, rfl⟩
  have hsensing : w.motorRunning = s.motorRunning ∧ w.settings = s.settings ∧ w.monitor.sample = s.monitor.sample ∧
      w.monitor.position = s.monitor.position ∧ w.monitor.positionValid = s.monitor.positionValid :=
    hw ▸ State.sensing_of_undemanded (storeDemand_effect d s).2.2
  obtain ⟨hmotor, hsettings, hsample, hposition, hvalid⟩ := hsensing
  have hreference : w.gap.reference.present = false := by
    rw [hw, (commanded_kept d (some .run) s).2.2.1, hr]
    rfl
  have hgap : w.gapState = .holding := by
    rcases (commanded_fields d (some .run) s).2.2.2.1 with h | h <;> rw [hw, h]
    exact congrArg Activity.state hact
  have hqueue : w.queue = [] := by rw [hw]; exact (commanded_fields d (some .run) s).2.2.2.2.2 hq
  have hbegin : beginRun w = changeRun .priming w := if_neg (by simp [State.readyToRun, hreference])
  have hwaits : Waits (changeRun .priming w) p :=
    changeRun_priming_waits hreference hgap hqueue (hposition.trans hp) (hvalid.trans hv)
  have hstill := changeRun_still .priming w
  obtain ⟨hact', hrun⟩ := hwaits.calibrates ((changeRun_motorRunning _ _).trans (hmotor.trans hm)) (by
    rw [(State.sensing_of_still hstill).1, State.settings_of_still hstill, hsample, hsettings]
    exact he)
  intro t
  have ht : t = internalCalibrationTest (changeRun .priming w) := by
    rw [← hwaits.settle, ← hbegin, hw]
    exact actDemand_run_of_begin d (.inl hs)
  rw [ht, hrun, hact', changeRun_state, changeRun_primingTimer, State.settings_of_still hstill, hsettings]
  exact ⟨rfl, rfl, rfl⟩

/-- Settles O38: the internal calibration of a station that waits (`Waits.calibrates`), the run that a relief's end lets begin
(`settle_of_primed_still`), and the LINER_CHANGE that takes the reference (`settle_linerChange`). -/
theorem primingCalibratesAndRuns : Obligations.PrimingCalibratesAndRuns := by
  unfold Obligations.PrimingCalibratesAndRuns
  intro s hactive empty opening
  refine ⟨fun p hr hact hq hp hv ho => ⟨fun hs he => ?rise, fun hs hm => ?close, fun header d hs hm he hd hw => ?run⟩,
    fun left g hact hg hle => ⟨fun hs hq hband happroach => ?relieved, fun e hs hq ha hk => ?liner⟩⟩
  case rise =>
    have hwaits : Waits { s with motorRunning := true } p :=
      ⟨hs, Reference.not_present_iff.2 hr, congrArg Activity.state hact, hq, hp, hv, ho⟩
    obtain ⟨hact', hrun⟩ := hwaits.calibrates rfl he
    have hvalid := (State.sensing_of_still (internalCalibrationTest_still { s with motorRunning := true })).2.2
    exact ⟨_, rfl, hact', openingAt_valve hact' (hvalid.trans hv), hrun⟩
  case close =>
    have hwaits : Waits (reopened s) p :=
      ⟨hs, Reference.not_present_iff.2 hr, congrArg Activity.state hact, hq, hp, hv, ho⟩
    have hexec := execWindowClose_of_priming hs
    rw [hwaits.settle] at hexec
    refine ⟨_, closingSample s, hexec, ?_, fun he => ?_, fun hn => ?_⟩
    · exact (State.sensing_of_still (internalCalibrationTest_still (reopened s))).1
    · exact hwaits.calibrates hm ⟨_, rfl, he⟩
    · have hready : (reopened s).calibrationReady = false := by
        refine Bool.eq_false_iff.2 fun hc => ?_
        obtain ⟨-, -, ⟨l, hl, hle⟩, -⟩ := State.calibrationReady_iff.1 hc
        have hsample : l = closingSample s := (Option.some.inj hl).symm
        exact absurd (hsample ▸ hle) (Nat.not_le.2 hn)
      rw [internalCalibrationTest_of_unready hready]
      exact ⟨hact, rfl⟩
  case run =>
    exact ⟨_, exec_demandRow hd hw (.inr (.inl ⟨rfl, rfl⟩)),
      actDemand_run_calibrates d (s := frameEnds s) hs hr hact hq hp hv hm he⟩
  case relieved =>
    have hexec := execSettleTimerExpiry_of_relieved hact hactive
    rw [reliefEnds_of_reached hg hle] at hexec
    have hrests := setActivity_rests .holding (s := s) (by simp [State.gapState, hact, Activity.state])
    have hrun : (setActivity .holding s).run = s.run := setActivity_run (.inr (.inr rfl))
    have hgap : (setActivity .holding s).gapState = .holding := setActivity_gapState _ _
    have hest : (setActivity .holding s).gapEstimate = some g := (State.gapEstimate_of_still hrests.still).trans hg
    have hfaults : (setActivity .holding s).faults = s.faults := setActivity_faults _ _
    have hmotor := State.motorRunning_of_still hrests.still
    generalize setActivity .holding s = u at hexec hrests hrun hgap hest hfaults hmotor
    have hprimed : u.Primed := ⟨by rw [hrun]; exact hs, present_of_gapEstimate hest, hgap⟩
    have hmove : moveTest u = u := by
      refine moveTest_of_close hest ?_ ?_
      · rw [hrests.setpoint, State.settings_of_still hrests.still]
        exact distance_le_of_near hle hband
      · rwa [hrests.setpoint, hrests.approach]
    rw [settle_of_primed_still (State.headStartable_of_nil (hrests.queue.trans hq)) hprimed hmove] at hexec
    obtain ⟨htimer, hruns, htrips⟩ := enterRun_of_priming hprimed.1
    refine ⟨_, hexec, enterRun_gapState hgap, htimer, fun hm => ?_, fun hm => htrips (hmotor.trans hm)⟩
    obtain ⟨hstate, hfaults'⟩ := hruns (hmotor.trans hm)
    exact ⟨hstate, hfaults'.trans hfaults⟩
  case liner =>
    have hexec := execSettleTimerExpiry_of_relieved hact hactive
    rw [reliefEnds_of_reached hg hle] at hexec
    have hrests := setActivity_rests .holding (s := s) (by simp [State.gapState, hact, Activity.state])
    have hrun : (setActivity .holding s).run = s.run := setActivity_run (.inr (.inr rfl))
    have hgap : (setActivity .holding s).gapState = .holding := setActivity_gapState _ _
    have hhistory : (setActivity .holding s).gap.history = s.gap.history :=
      (setActivity_approach_history fun hc => by simp [State.gapState, hact, Activity.state] at hc).2
    generalize setActivity .holding s = u at hexec hrests hrun hgap hhistory
    have hfeeding : u.run.state = .running ∨ u.run.state = .held := by rwa [hrun]
    rw [settle_linerChange hfeeding hgap (hrests.queue.trans hq) ha hk] at hexec
    obtain ⟨h1, h2, h3, h4, h5, h6, h7, h8⟩ :=
      startLinerChange_of_feeding (s := { u with queue := [{ e with active := true }] }) hfeeding hgap
    refine ⟨_, hexec, h8, gapEstimate_of_unreferenced (Reference.not_present_iff.2 h8), h1, ?_, h3, h4, ?_, h6, h7⟩
    · exact h2.trans (by rw [← State.settings_of_still hrests.still])
    · exact h5.trans (by rw [← hhistory, ← hrun])

end Sys2Proof.Machine

/-! ## The readings of a calibration (O37) -/

namespace Sys2Proof.Machine

/-! ### What the tests of an in-range reading find (R1, R3, R5, R133) -/

/-- The reading clock at the next reading event (R133). -/
def State.clockNext (s : State) : Nat :=
  match s.gap.readingClock with
  | none => 0
  | some t => t + 10

/-- The station with its readings taken, none of which ends an activity: position `x`, the clock advanced. -/
structure Sensed (s u : State) (x : Nat) : Prop where
  run      : u.run = s.run
  drive    : u.drive = s.drive
  queue    : u.queue = s.queue
  line     : u.line = s.line
  settings : u.settings = s.settings
  motor    : u.motorRunning = s.motorRunning
  gap      : u.gap = { s.gap with readingClock := some s.clockNext }
  position : u.monitor.position = some x
  valid    : u.monitor.positionValid = true

/-- A break that does not trip writes the validity states and the Fault Record. -/
def Noted (s t : State) : Prop := ∃ v f, t = { s with monitor.validity := v, faults := f }

theorem Noted.trans {s t u : State} (h : Noted s t) (h' : Noted t u) : Noted s u := by
  obtain ⟨v, f, rfl⟩ := h
  obtain ⟨v', f', rfl⟩ := h'
  exact ⟨v', f', rfl⟩

theorem Noted.report (k : FaultKind) (v : Inputs Validity) (s : State) :
    Noted s (report k false { s with monitor.validity := v }) := by
  rw [report_of_noted k (.inl rfl)]
  exact ⟨_, _, rfl⟩

theorem breakChecks_noted {r : Readings} {s : State} (hp : loopInRange r.pressure = true)
    (hx : (positionReading r).isSome = true) : Noted s (breakChecks r s) := by
  have hpower : ∀ ok u, Noted u (breakPower ok u) := fun ok u => by
    unfold breakPower
    split
    exacts [.report _ _ u, ⟨_, _, rfl⟩]
  have hcavity : ∀ ok u, Noted u (breakCavity ok u) := fun ok u => by
    unfold breakCavity
    split
    exacts [.report _ _ u, ⟨_, _, rfl⟩]
  have hpile : ∀ ok u, Noted u (breakPile ok u) := fun ok u => by
    unfold breakPile
    split
    exacts [.report _ _ u, ⟨_, _, rfl⟩]
  have hpressure : ∀ u, breakPressure (loopInRange r.pressure) u = u := fun u => if_neg fun hc => by simp [hp] at hc
  have hposition : ∀ u, breakPosition (positionReading r).isSome u = u := fun u => if_neg fun hc => by simp [hx] at hc
  unfold breakChecks
  rw [hposition, hpressure]
  exact ((hpower _ s).trans (hcavity _ _)).trans (hpile _ _)

theorem sensed_inRange {r : Readings} {s : State} (hp : 3600 ≤ r.pressure ∧ r.pressure ≤ 21000)
    (hx : positionReading r = some r.position) : Sensed s (sensed r s) r.position := by
  obtain ⟨v, f, h⟩ := breakChecks_noted (s := noteReading r (advanceReadingClock s)) (loopInRange_iff.2 hp) (by rw [hx]; rfl)
  have hsensed : sensed r s = notePosition (some r.position)
      { noteReading r (advanceReadingClock s) with
        monitor.validity := v, faults := f } := by rw [sensed, h, hx]
  rw [hsensed]
  exact ⟨rfl, rfl, rfl, rfl, rfl, rfl, rfl, rfl, rfl⟩

/-! ### What a reading writes once its tests are made (R13, R131 to R134) -/

/-- What the station keeps where no tramp is detected and the tonnage weighed: all but the marks of detection, the jump window and the
tonnage's own counters and totals. -/
structure Weighed (s t : State) : Prop where
  run       : t.run = s.run
  drive     : t.drive = s.drive
  queue     : t.queue = s.queue
  line      : t.line = s.line
  settings  : t.settings = s.settings
  motor     : t.motorRunning = s.motorRunning
  activity  : t.gap.activity = s.gap.activity
  reference : t.gap.reference = s.gap.reference
  setpoint  : t.gap.setpoint = s.gap.setpoint
  approach  : t.gap.approach = s.gap.approach
  position  : t.monitor.position = s.monitor.position
  valid     : t.monitor.positionValid = s.monitor.positionValid

theorem Weighed.trans {s t u : State} (h : Weighed s t) (h' : Weighed t u) : Weighed s u where
  run := h'.run.trans h.run
  drive := h'.drive.trans h.drive
  queue := h'.queue.trans h.queue
  line := h'.line.trans h.line
  settings := h'.settings.trans h.settings
  motor := h'.motor.trans h.motor
  activity := h'.activity.trans h.activity
  reference := h'.reference.trans h.reference
  setpoint := h'.setpoint.trans h.setpoint
  approach := h'.approach.trans h.approach
  position := h'.position.trans h.position
  valid := h'.valid.trans h.valid

theorem estimateTonnage_weighed (output : Nat) (s : State) : Weighed s (estimateTonnage output s) := by
  unfold estimateTonnage
  split <;> exact ⟨rfl, rfl, rfl, rfl, rfl, rfl, rfl, rfl, rfl, rfl, rfl, rfl⟩

/-- The jump window's estimates that the jump test of a reading compares with (R133). -/
def State.keptJumps (s : State) : List (Nat × Nat) :=
  s.gap.jumpWindow.filter (fun e => decide (s.gap.readingClock.getD 0 ≤ e.1 + 1000))

/-- A reading at which no tramp is detected: disarmed, or neither the pressure nor the jump is one (R132, R133). -/
def Calm (pressure : Nat) (s : State) : Prop :=
  s.gap.armed = true → pressure ≤ s.settings.trampMark ∧
    jumpPassed s.settings.trampJump s.keptJumps s.jumpCandidate = false

theorem trampReading_of_calm {pressure : Nat} {s : State} (h : Calm pressure s) :
    Weighed s (trampReading (some pressure) s) := by
  have key : ∀ (b : Bool) (w : List (Nat × Nat)),
      Weighed s { s with gap.armed := b, gap.jumpWindow := w } := fun _ _ =>
    ⟨rfl, rfl, rfl, rfl, rfl, rfl, rfl, rfl, rfl, rfl, rfl, rfl⟩
  unfold trampReading
  extract_lets now kept added
  split
  · next harmed =>
    obtain ⟨hquiet, hjump⟩ := h harmed
    rw [if_neg]
    · exact key _ _
    · rintro (hp | hj)
      · simp at hp
        exact absurd hquiet (Nat.not_le.2 hp)
      · exact Bool.false_ne_true (hjump.symm.trans hj)
  · split
    exacts [key _ _, key _ _]

/-- While OPEN is driven no jump is tested (R133). -/
theorem calm_of_opening {pressure : Nat} {s : State} (hv : s.valve = .opening)
    (hq : s.gap.armed = true → pressure ≤ s.settings.trampMark) : Calm pressure s := by
  intro harmed
  have hnone : s.jumpCandidate = none := if_neg fun hc => hc.2 hv
  rw [hnone]
  exact ⟨hq harmed, rfl⟩

/-- Without OPEN a jump is tested on the G of the reading (R133). -/
theorem calm_of_small {pressure : Nat} {s : State} (hq : s.gap.armed = true → pressure ≤ s.settings.trampMark)
    (hj : s.gap.armed = true → s.settings.trampJump = 0 ∨ ∀ g, s.gapEstimate = some g →
      ∀ e ∈ s.gap.jumpWindow, s.gap.readingClock.getD 0 ≤ e.1 + 1000 → g < e.2 + s.settings.trampJump) :
    Calm pressure s := by
  intro harmed
  refine ⟨hq harmed, ?_⟩
  unfold jumpPassed
  split
  · next g hg =>
    have hest : s.gapEstimate = some g := by
      unfold State.jumpCandidate at hg
      split at hg
      exacts [hg, by cases hg]
    rcases hj harmed with h0 | hsmall
    · simp [h0]
    · refine Bool.and_eq_false_imp.2 fun _ => ?_
      rw [List.any_eq_false]
      intro e he
      obtain ⟨hmem, hkept⟩ := List.mem_filter.1 he
      have hlt := hsmall g hest e hmem (of_decide_eq_true hkept)
      simpa using hlt
  · rfl

/-! ### The reading event of a calibration (R131) -/

/-- The pressure of a reading in range (R2). -/
def pressureOf (r : Readings) (c : Settings) : Nat :=
  min ((r.pressure - 4000) * c.pressureSpan / 16000) c.pressureSpan

theorem Sensed.gapEstimate {s u : State} {x : Nat} (h : Sensed s u x) :
    u.gapEstimate = s.gap.reference.contact?.map (fun k => (k + s.gap.wearAcc / 100) - x) := by
  unfold State.gapEstimate
  rw [h.gap, h.position]
  cases s.gap.reference.contact? <;> rfl

theorem Sensed.activity {s u : State} {x : Nat} (h : Sensed s u x) : u.gap.activity = s.gap.activity := by rw [h.gap]

theorem activityReading_of_calibrating {pressure : Option Nat} {x : Nat} {s : State} {c : Calibration}
    (h : s.gap.activity = .calibrating c) :
    activityReading pressure (some x) s = calibrationReading pressure c x s := by
  unfold activityReading
  simp only [h]

theorem State.detection_of_fixed {s t : State} (h : t.fixed = s.fixed) :
    t.gap.armed = s.gap.armed ∧ t.gap.readingClock = s.gap.readingClock ∧ t.settings = s.settings ∧
      t.monitor.positionValid = s.monitor.positionValid :=
  ⟨(congrArg (fun v : State => v.gap.armed) h :), (congrArg (fun v : State => v.gap.readingClock) h :),
    (congrArg State.settings h :), (congrArg (fun v : State => v.monitor.positionValid) h :)⟩

/-- A reading event of a calibration, its readings in range: the calibration's own test, the tramp tests, the tonnage. -/
theorem exec_readingEvent_of_calibrating {r : Readings} {s : State} {c : Calibration} (ha : s.active = true)
    (hact : s.gap.activity = .calibrating c) (hp : 3600 ≤ r.pressure ∧ r.pressure ≤ 21000)
    (hx : positionReading r = some r.position) :
    exec (.readingEvent r) s = .next (settle (wearChanged (estimateTonnage s.drive.output
      (trampReading (some (pressureOf r s.settings))
        (calibrationReading (some (pressureOf r s.settings)) c r.position (sensed r s)))))) := by
  have hsensed := (sensed_inRange (s := s) hp hx).activity.trans hact
  refine congrArg Host.Outcome.next ((if_pos ha).trans ((readingEvent_eq r s).trans ?_))
  rw [gapReading, hx, activityReading_of_calibrating hsensed, loopReading_of_inRange hp]
  rfl

theorem wearChanged_of_gapState {s : State} (h : s.gapState ≠ .moving) : wearChanged s = s := if_neg h

/-- In a gap state other than HOLDING, STUCK and MOVING the reading event ends as its tests leave it. -/
theorem settle_wearChanged_of_busy {s : State} (h1 : s.gapState ≠ .holding) (h2 : s.gapState ≠ .stuck)
    (h3 : s.gapState ≠ .moving) : settle (wearChanged s) = s := by
  rw [wearChanged_of_gapState h3, settle_of_busy h1 h2]

/-- Where the tests leave a calibration in progress and detect no tramp, it is what the event leaves. -/
theorem settle_of_calibrating_calm {s : State} {c : Calibration} {pressure : Nat} (output : Nat)
    (hact : s.gap.activity = .calibrating c) (h : Calm pressure s) :
    Weighed s (settle (wearChanged (estimateTonnage output (trampReading (some pressure) s)))) := by
  have hweighed := (trampReading_of_calm h).trans (estimateTonnage_weighed output _)
  have hgap : (estimateTonnage output (trampReading (some pressure) s)).gapState = .calibrating :=
    (congrArg Activity.state hweighed.activity).trans (State.gapState_of_calibrating hact)
  rw [settle_wearChanged_of_busy (by simp [hgap]) (by simp [hgap]) (by simp [hgap])]
  exact hweighed

theorem updateActivity_of_not_opening {act : Activity} (h : act.asks ≠ .opening) (s : State) :
    updateActivity act s = { s with gap.activity := act } := if_neg h

theorem valve_of_opening {s : State} (hv : s.monitor.positionValid = true) (ha : s.gap.activity.asks = .opening) :
    s.valve = .opening := by
  rw [State.valve, if_pos hv, ha]

/-- No tramp by jump, in the terms of the state before the reading. -/
def SmallJumps (s : State) (x : Nat) : Prop :=
  s.gap.armed = true → s.settings.trampJump = 0 ∨ ∀ k, s.gap.reference.contact? = some k →
    ∀ e ∈ s.gap.jumpWindow, s.clockNext ≤ e.1 + 1000 → (k + s.gap.wearAcc / 100) - x < e.2 + s.settings.trampJump

/-- A reading without tramp stays so through tests that write only what `still` blanks, and not the jump window. -/
theorem Sensed.calm {s u a : State} {x pressure : Nat} (h : Sensed s u x) (ha : a.still = u.still)
    (hw : a.gap.jumpWindow = s.gap.jumpWindow) (hq : s.gap.armed = true → pressure ≤ s.settings.trampMark)
    (hj : SmallJumps s x) : Calm pressure a := by
  obtain ⟨harmed', hclock', hsettings', -⟩ := State.detection_of_fixed (State.fixed_of_still ha)
  have harmed : a.gap.armed = s.gap.armed := harmed'.trans (by rw [h.gap])
  have hclock : a.gap.readingClock = some s.clockNext := hclock'.trans (by rw [h.gap])
  have hsettings : a.settings = s.settings := hsettings'.trans h.settings
  refine calm_of_small (by rwa [harmed, hsettings]) ?_
  rw [harmed, hsettings, hw, hclock, State.gapEstimate_of_still ha, h.gapEstimate]
  intro hs
  refine (hj hs).imp id fun hsmall g hg => ?_
  obtain ⟨k, hk, rfl⟩ := Option.map_eq_some_iff.1 hg
  exact hsmall k hk

/-- While OPEN is driven a pressure at or below the mark is no tramp. -/
theorem Sensed.calm_of_opening {s u a : State} {x pressure : Nat} (h : Sensed s u x) (ha : a.fixed = u.fixed)
    (hasks : a.gap.activity.asks = .opening) (hq : s.gap.armed = true → pressure ≤ s.settings.trampMark) :
    Calm pressure a ∧ a.valve = .opening := by
  obtain ⟨harmed', -, hsettings', hvalid⟩ := State.detection_of_fixed ha
  have harmed : a.gap.armed = s.gap.armed := harmed'.trans (by rw [h.gap])
  have hsettings : a.settings = s.settings := hsettings'.trans h.settings
  have hvalve := valve_of_opening (hvalid.trans h.valid) hasks
  exact ⟨Machine.calm_of_opening hvalve (by rwa [harmed, hsettings]), hvalve⟩

/-! ### The calibration's own test, by phase (R121 to R125) -/

section
variable {c : Calibration} {s : State} {pressure : Option Nat} {x : Nat}

/-- The first seek pulse at the end of OPENING (R121, R122). -/
def firstPulse (c : Calibration) (t : Settings) (x : Nat) : Calibration :=
  { c with phase := .seeking { on := true, left := t.pulseOn * 10, still := 0, start := x } }

theorem calibrationReading_opening {start : Nat} (h : c.phase = .opening start) :
    calibrationReading pressure c x s =
      if x ≤ start - 50 then { s with gap.activity := .calibrating (firstPulse c s.settings x) } else s := by
  unfold calibrationReading
  rw [h]
  dsimp only
  split
  · exact updateActivity_of_not_opening (by simp [Activity.asks, seekPulse]) s
  · rfl

theorem calibrationReading_seeking {pulse : SeekPulse} {v : Nat} (h : c.phase = .seeking pulse) :
    calibrationReading (some v) c x s =
      if s.settings.contactMark < v then contact c.kind x s else if x = 4095 then calibrationFails c.kind s else s := by
  unfold calibrationReading
  rw [h]
  simp

theorem backingArrival_of_short {g : Nat} (hg : s.gapEstimate = some g) (h : g < s.gap.setpoint) : backingArrival s = s := by
  unfold backingArrival
  split
  · next c' g' hact hg' =>
    rw [hg] at hg'
    cases hg'
    split
    exacts [if_neg (Nat.not_le.2 h), rfl]
  · rfl

/-- BACKING short of W: the mark follows each gain of 5 (R102, R125). -/
theorem calibrationReading_backing {mark left g : Nat} (hact : s.gap.activity = .calibrating c)
    (h : c.phase = .backing mark left) (hg : s.gapEstimate = some g) (hs : g < s.gap.setpoint) :
    calibrationReading pressure c x s = updateActivity (.calibrating { c with
      phase := if mark + 5 ≤ g then .backing g s.moveTimeoutMs else .backing mark left }) s := by
  have htrack : (CalPhase.backing (trackProgress true s.moveTimeoutMs mark left g).1
      (trackProgress true s.moveTimeoutMs mark left g).2) =
      if mark + 5 ≤ g then .backing g s.moveTimeoutMs else .backing mark left := by
    by_cases hp : mark + 5 ≤ g <;> simp [trackProgress, progressed, hp]
  unfold calibrationReading
  rw [h]
  dsimp only
  rw [backingArrival_of_short hg hs, hact, hg]
  dsimp only
  rw [h]
  dsimp only
  rw [htrack]

/-- BACKING that has reached W (R125). -/
theorem calibrationReading_arrived {mark left g : Nat} (hact : s.gap.activity = .calibrating c)
    (h : c.phase = .backing mark left) (hg : s.gapEstimate = some g) (hs : s.gap.setpoint ≤ g) :
    calibrationReading pressure c x s = endActiveOf .calibrate .done (arrive s) := by
  have harrived : backingArrival s = endActiveOf .calibrate .done (arrive s) := by
    unfold backingArrival
    rw [hact, hg]
    dsimp only
    rw [h]
    exact if_pos hs
  have hheld : (endActiveOf .calibrate .done (arrive s)).gap.activity = .holding := by
    rw [endActiveOf_frame]
    exact setActivity_activity _ _
  unfold calibrationReading
  rw [h]
  dsimp only
  rw [harrived, hheld]

end

end Sys2Proof.Machine

/-! ## What follows a calibration's own test at a reading (O37) -/

namespace Sys2Proof.Machine

/-! ### Contact (R123) -/

/-- G at the contact is 0. -/
theorem contactTaken_gapEstimate {x : Nat} {s : State} (hx : s.monitor.position = some x) :
    (contactTaken x s).gapEstimate = some 0 := by
  have htaken : (contactTaken x s).gapEstimate = (setReference (.referenced x) (contactNoted x s)).gapEstimate := by
    rw [contactTaken, requestRecord_frame]
    rfl
  rw [htaken, State.gapEstimate_of_still (setReference_still (.referenced x) (contactNoted x s))]
  simp [State.gapEstimate, Reference.contact?, contactNoted, hx]

/-- A present reference leaves Run Control and the queue. -/
theorem setReference_of_present {q : Reference} (h : q.present = true) (s : State) :
    (setReference q s).run = s.run ∧ (setReference q s).queue = s.queue := by
  have hset : setReference q s = holdW { s with gap.reference := q, gap.jumpWindow := [] } := if_pos h
  rw [hset]
  unfold holdW
  split <;> exact ⟨rfl, rfl⟩

theorem contactTaken_keeps (x : Nat) (s : State) :
    (contactTaken x s).run = s.run ∧ (contactTaken x s).queue = s.queue ∧ (contactTaken x s).settings = s.settings := by
  obtain ⟨hrun, hqueue⟩ := setReference_of_present (q := .referenced x) rfl (contactNoted x s)
  have hsettings := State.settings_of_still (setReference_still (.referenced x) (contactNoted x s))
  rw [contactTaken, requestRecord_frame]
  exact ⟨hrun, hqueue, hsettings⟩

/-- A contact begins BACKING from a G of 0, Run Control and queue as they were (R123). -/
theorem contact_begins (k : CalKind) {x : Nat} {s : State} (hx : s.monitor.position = some x) :
    (contact k x s).gap.activity = .calibrating
      { kind := k, seekLimit := none, phase := .backing 0 (s.settings.moveTimeout * 1000) } ∧
    (contact k x s).run = s.run ∧ (contact k x s).queue = s.queue := by
  obtain ⟨hrun, hqueue, hsettings⟩ := contactTaken_keeps x s
  have hestimate := contactTaken_gapEstimate hx
  rw [contact_eq]
  generalize contactTaken x s = t at hrun hqueue hsettings hestimate ⊢
  refine ⟨?_, ?_, ?_⟩
  · rw [updateActivity_activity, hestimate, State.moveTimeoutMs, hsettings]
    rfl
  · rw [updateActivity_frame]
    exact hrun
  · rw [updateActivity_frame]
    exact hqueue

/-! ### The tramp tests on top of it (R131 to R135) -/

/-- A detection leaves RELIEVED, whether TRAMP_REPEAT trips or not (R135, R140). -/
theorem detectTramp_activity (s : State) : (detectTramp s).gap.activity = .relieved none := by
  unfold detectTramp
  extract_lets list _ s1 s2 s3
  have h3 : s3.gap.activity = .relieved none := setActivity_activity _ _
  split
  · unfold report
    split
    · rw [trip_activity, if_neg]
      · exact h3
      · have hgap : (noteFault .trampRepeat s3).gapState = .relieved := congrArg Activity.state h3
        simp [hgap]
    · exact h3
  · exact h3

theorem trampReading_activity (pressure : Option Nat) (s : State) :
    (trampReading pressure s).gap.activity = s.gap.activity ∨ (trampReading pressure s).gap.activity = .relieved none := by
  unfold trampReading
  extract_lets now kept added
  split
  · split
    exacts [.inr (detectTramp_activity s), .inl rfl]
  · split <;> exact .inl rfl

theorem trampReading_of_tramp {pressure : Nat} {s : State} (ha : s.gap.armed = true) (h : s.settings.trampMark < pressure) :
    (trampReading (some pressure) s).gap.activity = .relieved none := by
  unfold trampReading
  extract_lets now kept added
  rw [if_pos ha, if_pos (.inl (by simpa using h))]
  exact detectTramp_activity s

/-- With no request queued a detection answers nothing. -/
theorem trampReading_waiting (pressure : Option Nat) {s : State} (hq : s.queue = []) :
    (trampReading pressure s).queue = [] ∧ (trampReading pressure s).line = s.line := by
  have hdetect : (detectTramp s).queue = [] ∧ (detectTramp s).line = s.line := by
    unfold detectTramp
    extract_lets list _ t s1 s2
    have ht : t.queue = [] := hq
    have h1 : s1 = t := by
      unfold s1
      rw [endActiveOf_of_nil _ _ ht, endActiveOf_of_nil _ _ ht]
    have h2 : s2.queue = [] ∧ s2.line = s.line := by
      unfold s2
      rw [setActivity_queue, setActivity_line, h1]
      exact ⟨hq, rfl⟩
    split
    · exact ⟨(report_rests _ _ h2.1).queue.trans h2.1, (report_rests _ _ h2.1).line.trans h2.2⟩
    · exact h2
  unfold trampReading
  extract_lets now kept added
  split
  · split
    exacts [hdetect, ⟨hq, rfl⟩]
  · split <;> exact ⟨hq, rfl⟩

/-- What follows the calibration's own test in a reading event: tramp tests, tonnage, the end of the event. -/
def afterTest (output pressure : Nat) (s : State) : State :=
  settle (wearChanged (estimateTonnage output (trampReading (some pressure) s)))

section
variable (output pressure : Nat) {s : State}

theorem afterTest_tame (s : State) : Tame s (afterTest output pressure s) :=
  settle_wearChanged_tame (estimateTonnage_tame output (trampReading_tame _ (.refl s)))

/-- In CALIBRATING or, by a tramp, RELIEVED nothing follows the weighing. -/
theorem afterTest_of_calibrating {c : Calibration} (hact : s.gap.activity = .calibrating c) :
    afterTest output pressure s = estimateTonnage output (trampReading (some pressure) s) := by
  have hweighed := estimateTonnage_weighed output (trampReading (some pressure) s)
  have hgap : (estimateTonnage output (trampReading (some pressure) s)).gapState = .calibrating ∨
      (estimateTonnage output (trampReading (some pressure) s)).gapState = .relieved := by
    unfold State.gapState
    rw [hweighed.activity]
    rcases trampReading_activity (some pressure) s with h | h
    · exact .inl (by rw [h, hact]; rfl)
    · exact .inr (by rw [h]; rfl)
  unfold afterTest
  rw [settle_wearChanged_of_busy (by rcases hgap with h | h <;> simp [h]) (by rcases hgap with h | h <;> simp [h])
    (by rcases hgap with h | h <;> simp [h])]

theorem afterTest_of_calm {c : Calibration} (hact : s.gap.activity = .calibrating c) (h : Calm pressure s) :
    Weighed s (afterTest output pressure s) := settle_of_calibrating_calm output hact h

/-- The liner's wear and the calibration's records, which no weighing writes. -/
theorem estimateTonnage_records (s : State) :
    (estimateTonnage output s).gap.linerWear = s.gap.linerWear ∧ (estimateTonnage output s).gap.calCount = s.gap.calCount ∧
      (estimateTonnage output s).gap.lastShift = s.gap.lastShift := by
  unfold estimateTonnage
  split <;> exact ⟨rfl, rfl, rfl⟩

/-- With no request queued once the test is made, queue, line and reference stand to the end of the event. -/
theorem afterTest_waiting (hq : s.queue = []) :
    (afterTest output pressure s).queue = [] ∧ (s.gapState ≠ .moving → (afterTest output pressure s).line = s.line) ∧
      (afterTest output pressure s).gap.reference = s.gap.reference := by
  obtain ⟨hqueue, hline⟩ := trampReading_waiting (some pressure) hq
  have hweighed := estimateTonnage_weighed output (trampReading (some pressure) s)
  have hreference : (estimateTonnage output (trampReading (some pressure) s)).gap.reference = s.gap.reference :=
    hweighed.reference.trans (State.reference_of_wear (trampReading_wear _ s)).1
  have hgap : s.gapState ≠ .moving → (estimateTonnage output (trampReading (some pressure) s)).gapState ≠ .moving := by
    intro hs
    unfold State.gapState
    rw [hweighed.activity]
    rcases trampReading_activity (some pressure) s with h | h <;> rw [h]
    · exact hs
    · simp [Activity.state]
  unfold afterTest
  have hnil : (wearChanged (estimateTonnage output (trampReading (some pressure) s))).queue = [] :=
    (wearChanged_tame (.refl _)).queue_nil (hweighed.queue.trans hqueue)
  have hrests := settle_rests hnil
  refine ⟨hrests.queue.trans hnil, fun hs => ?_, ?_⟩
  · rw [hrests.line, wearChanged_of_gapState (hgap hs), hweighed.line, hline]
  · rw [State.reference_of_still hrests.still, State.reference_of_still (wearChanged_still _), hreference]

end

/-! ### The clauses, by phase -/

theorem calibrationFails_noted (k : CalKind) (s : State) : .calNoContact ∈ (calibrationFails k s).faults.seen := by
  cases k with
  | internal => exact report_noted _ _ _
  | requested =>
    rw [calibrationFails, endActiveOf_frame]
    exact report_noted _ _ _

theorem setActivity_jumpWindow {act : Activity} (h : act.asks ≠ .opening) (s : State) :
    (setActivity act s).gap.jumpWindow = s.gap.jumpWindow := by
  have hkept : ∀ u : State, u.gap.activity = act → (emptyJumpIfOpening u).gap.jumpWindow = u.gap.jumpWindow := by
    intro u hu
    unfold emptyJumpIfOpening
    rw [if_neg (hu ▸ h)]
  by_cases hs : s.gapState = .stuck ∧ act.state ≠ .stuck
  · rw [setActivity_of_leaving hs, hkept _ (by simp)]
    simp only [zeroIfZeroed_gap, dropCapacity_gap]
    rfl
  · rw [setActivity_of_not_leaving hs, hkept _ (by simp)]
    simp only [zeroIfZeroed_gap, dropCapacity_gap]

theorem trip_jumpWindow (s : State) : (trip s).gap.jumpWindow = s.gap.jumpWindow := by
  have hend : ∀ u : State, (endForTrip u).gap.jumpWindow = u.gap.jumpWindow := fun u => by
    unfold endForTrip
    split
    exacts [setActivity_jumpWindow (by simp [Activity.asks]) u, setActivity_jumpWindow (by simp [Activity.asks]) u, rfl]
  rw [trip, changeRun_frame]
  exact hend (flushQueue s)

theorem calibrationFails_internal_jumpWindow (s : State) :
    (calibrationFails .internal s).gap.jumpWindow = s.gap.jumpWindow := by
  have hstop : (stopCalibration s).gap.jumpWindow = s.gap.jumpWindow :=
    setActivity_jumpWindow (by simp [Activity.asks]) s
  unfold calibrationFails report
  dsimp only
  split
  · rw [trip_jumpWindow, noteFault_gap, hstop]
  · rw [noteFault_gap, hstop]

section
variable {s u : State} {x pressure : Nat} {c : Calibration} (output : Nat) (h : Sensed s u x)
include h

theorem opening_ends {start : Nat} (hphase : c.phase = .opening start) (hle : x ≤ start - 50)
    (hq : s.gap.armed = true → pressure ≤ s.settings.trampMark) (hj : SmallJumps s x) :
    (afterTest output pressure (calibrationReading (some pressure) c x u)).gap.activity =
      .calibrating (firstPulse c s.settings x) := by
  rw [calibrationReading_opening hphase, if_pos hle, ← h.settings]
  refine (afterTest_of_calm output pressure rfl ?_).activity
  exact h.calm rfl (by rw [h.gap]) hq hj

theorem opening_continues {start : Nat} (hact : s.gap.activity = .calibrating c) (hphase : c.phase = .opening start)
    (hlt : start - 50 < x)
    (hq : s.gap.armed = true → pressure ≤ s.settings.trampMark) :
    (afterTest output pressure (calibrationReading (some pressure) c x u)).gap.activity = .calibrating c := by
  have hact' := h.activity.trans hact
  rw [calibrationReading_opening hphase, if_neg (Nat.not_le.2 hlt)]
  have hasks : u.gap.activity.asks = .opening := by rw [hact', Activity.asks, hphase]
  exact (afterTest_of_calm output pressure hact' (h.calm_of_opening rfl hasks hq).1).activity.trans hact'

theorem seeking_continues {pulse : SeekPulse} (hact : s.gap.activity = .calibrating c)
    (hphase : c.phase = .seeking pulse) (hle : pressure ≤ s.settings.contactMark)
    (hx : x ≠ 4095) (hq : s.gap.armed = true → pressure ≤ s.settings.trampMark) (hj : SmallJumps s x) :
    (afterTest output pressure (calibrationReading (some pressure) c x u)).gap.activity = .calibrating c := by
  have hact' := h.activity.trans hact
  rw [calibrationReading_seeking hphase, h.settings, if_neg (Nat.not_lt.2 hle), if_neg hx]
  exact (afterTest_of_calm output pressure hact' (h.calm rfl (by rw [h.gap]) hq hj)).activity.trans hact'

/-- The contact result, which stands whatever a tramp at the same reading does (R123). -/
theorem seeking_contact {pulse : SeekPulse} (hphase : c.phase = .seeking pulse) (hlt : s.settings.contactMark < pressure) :
    let t := afterTest output pressure (calibrationReading (some pressure) c x u)
    t.gap.reference = .referenced x ∧ t.gap.calCount = min 65535 (s.gap.calCount + 1) ∧
      t.gap.lastShift = s.gap.reference.contact?.map (fun old => (x : Int) - (old : Int)) ∧
      t.gap.linerWear = (match s.gap.reference.contact? with
        | some old => min 65535 (s.gap.linerWear + (x - old))
        | none => s.gap.linerWear) := by
  have htest : calibrationReading (some pressure) c x u = contact c.kind x u := by
    rw [calibrationReading_seeking hphase, h.settings, if_pos hlt]
  have hbegins := (contact_begins c.kind h.position).1
  have hwear := contact_wear c.kind x u
  rw [htest, afterTest_of_calibrating output pressure hbegins]
  obtain ⟨hliner, hcount, hshift⟩ := estimateTonnage_records output (trampReading (some pressure) (contact c.kind x u))
  have hreference := (estimateTonnage_weighed output (trampReading (some pressure) (contact c.kind x u))).reference
  obtain ⟨hreference', hliner', hcount', hshift'⟩ := State.reference_of_wear (trampReading_wear (some pressure) (contact c.kind x u))
  have hgap : u.wear = s.wear := by
    unfold State.wear
    rw [h.gap]
  rw [h.gap] at hwear
  refine ⟨(hreference.trans hreference').trans (congrArg GapController.reference hwear :),
    (hcount.trans hcount').trans (congrArg GapController.calCount hwear :),
    (hshift.trans hshift').trans (congrArg GapController.lastShift hwear :),
    ((hliner.trans hliner').trans (congrArg GapController.linerWear hwear :)).trans ?_⟩
  cases s.gap.reference.contact? with
  | none => rfl
  | some old => simp

theorem seeking_contact_quiet {pulse : SeekPulse} (hphase : c.phase = .seeking pulse)
    (hlt : s.settings.contactMark < pressure) (hq : s.gap.armed = true → pressure ≤ s.settings.trampMark) :
    let t := afterTest output pressure (calibrationReading (some pressure) c x u)
    t.gap.activity = .calibrating
        { kind := c.kind, seekLimit := none, phase := .backing 0 (s.settings.moveTimeout * 1000) } ∧
      t.valve = .opening ∧ t.queue = s.queue ∧ t.run = s.run := by
  have htest : calibrationReading (some pressure) c x u = contact c.kind x u := by
    rw [calibrationReading_seeking hphase, h.settings, if_pos hlt]
  obtain ⟨hbegins, hrun, hqueue⟩ := contact_begins c.kind h.position
  obtain ⟨hcalm, hvalve⟩ := h.calm_of_opening (contact_fixed c.kind x u) (by rw [hbegins]; rfl) hq
  have hweighed := afterTest_of_calm output pressure hbegins hcalm
  rw [h.settings] at hbegins
  rw [htest]
  refine ⟨hweighed.activity.trans hbegins, ?_, hweighed.queue.trans (hqueue.trans h.queue),
    hweighed.run.trans (hrun.trans h.run)⟩
  rw [← hvalve, State.valve, State.valve, hweighed.activity, hweighed.valid]

theorem seeking_contact_tramp {pulse : SeekPulse} (hphase : c.phase = .seeking pulse)
    (hlt : s.settings.contactMark < pressure) (harmed : s.gap.armed = true) (hmark : s.settings.trampMark < pressure) :
    (afterTest output pressure (calibrationReading (some pressure) c x u)).gap.activity = .relieved none := by
  have htest : calibrationReading (some pressure) c x u = contact c.kind x u := by
    rw [calibrationReading_seeking hphase, h.settings, if_pos hlt]
  obtain ⟨harmed', -, hsettings', -⟩ := State.detection_of_fixed (contact_fixed c.kind x u)
  rw [htest, afterTest_of_calibrating output pressure (contact_begins c.kind h.position).1,
    (estimateTonnage_weighed _ _).activity]
  refine trampReading_of_tramp ?_ ?_
  · rw [harmed', h.gap]
    exact harmed
  · rw [hsettings', h.settings]
    exact hmark

/-- The end of travel without contact (R124). -/
theorem seeking_ends {pulse : SeekPulse} (hact : s.gap.activity = .calibrating c)
    (hphase : c.phase = .seeking pulse) (hle : pressure ≤ s.settings.contactMark)
    (hx : x = 4095) (hq : s.gap.armed = true → pressure ≤ s.settings.trampMark) (hj : SmallJumps s x) :
    let t := afterTest output pressure (calibrationReading (some pressure) c x u)
    .calNoContact ∈ t.faults.seen ∧ (s.queue = [] → t.gap.reference = s.gap.reference) ∧
      (c.kind = .internal → s.run.state = .priming → t.run.state = .tripped ∧ t.gapState = .holding) := by
  have htest : calibrationReading (some pressure) c x u = calibrationFails c.kind u := by
    rw [calibrationReading_seeking hphase, h.settings, if_neg (Nat.not_lt.2 hle), if_pos hx]
  rw [htest]
  refine ⟨(afterTest_tame output pressure _).seen _ (calibrationFails_noted _ _), fun hnil => ?_, fun hk hp => ?_⟩
  · have hqueue := (calibrationFails_tame c.kind (.refl u)).queue_nil (h.queue.trans hnil)
    rw [(afterTest_waiting output pressure hqueue).2.2, State.reference_of_still (calibrationFails_still _ u), h.gap]
  · have hcal := State.gapState_of_calibrating (h.activity.trans hact)
    obtain ⟨hstopped, -, hgap, hstill⟩ := calibrationFails_internal (s := u) (by rw [h.run]; exact hp) hcal
    have hjumps := calibrationFails_internal_jumpWindow u
    rw [hk]
    generalize calibrationFails .internal u = a at hstopped hgap hstill hjumps ⊢
    have hcalm : Calm pressure a := h.calm hstill (by rw [hjumps, h.gap]) hq hj
    have hweighed := (trampReading_of_calm hcalm).trans (estimateTonnage_weighed output _)
    have hheld : (estimateTonnage output (trampReading (some pressure) a)).gapState = .holding :=
      (congrArg Activity.state hweighed.activity).trans hgap
    have hafter : afterTest output pressure a = estimateTonnage output (trampReading (some pressure) a) := by
      unfold afterTest
      rw [wearChanged_of_gapState (by simp [hheld]), settle_of_tripped
        (State.headStartable_of_nil (hweighed.queue.trans hstopped.2.1)) (by rw [hweighed.run]; exact hstopped.1)]
    rw [hafter]
    exact ⟨by rw [hweighed.run]; exact hstopped.1, hheld⟩

theorem backing_short {mark left g : Nat} (hact : s.gap.activity = .calibrating c)
    (hphase : c.phase = .backing mark left) (hg : u.gapEstimate = some g) (hlt : g < s.gap.setpoint)
    (hq : s.gap.armed = true → pressure ≤ s.settings.trampMark) :
    (afterTest output pressure (calibrationReading (some pressure) c x u)).gap.activity = .calibrating { c with
      phase := if mark + 5 ≤ g then .backing g (s.settings.moveTimeout * 1000) else .backing mark left } := by
  have htest := calibrationReading_backing (pressure := some pressure) (x := x) (h.activity.trans hact) hphase hg
    (by rw [h.gap]; exact hlt)
  rw [State.moveTimeoutMs, h.settings] at htest
  rw [htest]
  have hactivity := updateActivity_activity (.calibrating { c with
    phase := if mark + 5 ≤ g then .backing g (s.settings.moveTimeout * 1000) else .backing mark left }) u
  have hcalm := (h.calm_of_opening (updateActivity_fixed _ u) (by rw [hactivity]; split <;> rfl) hq).1
  exact (afterTest_of_calm output pressure hactivity hcalm).activity.trans hactivity

/-- BACKING that reaches W ends an ACTIVE CALIBRATE DONE, whatever a tramp at the same reading does (R125). -/
theorem backing_answers {mark left g : Nat} {e : Entry} (hact : s.gap.activity = .calibrating c)
    (hphase : c.phase = .backing mark left) (hg : u.gapEstimate = some g) (hle : s.gap.setpoint ≤ g) (hqueue : s.queue = [e])
    (hactive : e.active = true) (hkind : e.kind = .calibrate) :
    let t := afterTest output pressure (calibrationReading (some pressure) c x u)
    t.queue = [] ∧ t.gap.reference = s.gap.reference ∧
      t.line = s.line.push (plainAnswer e.requester e.tag (some .calibrate) .done) := by
  have hact' := h.activity.trans hact
  have harrived := arrive_arrives (s := u) (by simp [State.gapState, hact', Activity.state])
  have hheld : (arrive u).gap.activity = .holding := setActivity_activity _ _
  have hrests : (arrive u).queue = u.queue ∧ (arrive u).line = u.line := ⟨setActivity_queue _ _, setActivity_line _ _⟩
  have hreference : (arrive u).gap.reference = u.gap.reference := State.reference_of_still (arrive_still u)
  rw [calibrationReading_arrived hact' hphase hg (by rw [h.gap]; exact hle),
    endActiveOf_of_active _ (hrests.1.trans (h.queue.trans hqueue)) hactive hkind]
  generalize arrive u = v at hheld hrests hreference
  obtain ⟨h1, h2, h3⟩ := afterTest_waiting output pressure (s := { v with
    queue := [], line := v.line.push (v.entryAnswer e .done) }) rfl
  refine ⟨h1, h3.trans (hreference.trans (by rw [h.gap])), (h2 ?_).trans ?_⟩
  · simp [State.gapState, hheld, Activity.state]
  · rw [hrests.2, h.line]
    simp [State.entryAnswer, hkind, QueuedKind.request]

/-- BACKING that reaches W with no request queued and no tramp: HOLDING with W and reference as they were, then the end of the event,
which lets a PRIMING station run where G is within the hold band (R42, R125). -/
theorem backing_arrives {mark left g k : Nat} (hact : s.gap.activity = .calibrating c)
    (hphase : c.phase = .backing mark left) (hk : s.gap.reference.contact? = some k)
    (hg : g = (k + s.gap.wearAcc / 100) - x) (hle : s.gap.setpoint ≤ g)
    (hq : s.gap.armed = true → pressure ≤ s.settings.trampMark) (hj : SmallJumps s x) (hnil : s.queue = []) :
    let t := afterTest output pressure (calibrationReading (some pressure) c x u)
    t.gap.reference = s.gap.reference ∧ t.gap.setpoint = s.gap.setpoint ∧ t.gap.approach = false ∧
      t.gapState ≠ .calibrating ∧
      (s.run.state = .priming → s.motorRunning = true → g ≤ s.gap.setpoint + s.settings.holdBand →
        t.gap.wearAcc = s.gap.wearAcc → t.run.state = .running ∧ t.run.primingTimer = none ∧ t.gapState = .holding) := by
  have hact' := h.activity.trans hact
  have hfree : u.gapState ≠ .stuck := by simp [State.gapState, hact', Activity.state]
  have hest : u.gapEstimate = some g := by rw [h.gapEstimate, hk, hg]; rfl
  have hqueue : (arrive u).queue = [] := (setActivity_queue _ _).trans (h.queue.trans hnil)
  have hrun : (arrive u).run = u.run := (arrive_arrives hfree).run
  have hheld : (arrive u).gapState = .holding := setActivity_gapState _ _
  have happroach : (arrive u).gap.approach = false :=
    (setActivity_approach_history (s := { u with gap.approach := false }) fun hc => hfree hc.1).1
  have hsetpoint : (arrive u).gap.setpoint = u.gap.setpoint := arrive_setpoint hfree
  have hstill := arrive_still u
  have hjumps : (arrive u).gap.jumpWindow = u.gap.jumpWindow :=
    setActivity_jumpWindow (by simp [Activity.asks]) { u with gap.approach := false }
  rw [calibrationReading_arrived hact' hphase hest (by rw [h.gap]; exact hle), endActiveOf_of_nil _ _ hqueue]
  generalize arrive u = a at hqueue hrun hheld happroach hsetpoint hstill hjumps
  have hcalm : Calm pressure a := h.calm hstill (by rw [hjumps, h.gap]) hq hj
  have hweighed := (trampReading_of_calm hcalm).trans (estimateTonnage_weighed output _)
  unfold afterTest
  generalize estimateTonnage output (trampReading (some pressure) a) = d at hweighed
  have hdheld : d.gapState = .holding := (congrArg Activity.state hweighed.activity).trans hheld
  have hdnil : d.queue = [] := hweighed.queue.trans hqueue
  have hdreference : d.gap.reference = s.gap.reference := by
    rw [hweighed.reference, State.reference_of_still hstill, h.gap]
  have hdpresent : d.gap.reference.present = true := by rw [hdreference, Reference.present, hk]; rfl
  have hdsetpoint : d.gap.setpoint = s.gap.setpoint := by rw [hweighed.setpoint, hsetpoint, h.gap]
  have hdapproach : d.gap.approach = false := hweighed.approach.trans happroach
  have hdrun : d.run = s.run := by rw [hweighed.run, hrun, h.run]
  have hheads := State.headStartable_of_nil hdnil
  rw [wearChanged_of_gapState (by simp [hdheld])]
  have hrests := settle_rests hdnil
  refine ⟨(State.reference_of_still hrests.still).trans hdreference, hrests.setpoint.trans hdsetpoint,
    hrests.approach.trans hdapproach, ?_, fun hs hm hband hwear => ?_⟩
  · by_cases hs : d.run.state = .priming
    · rcases settle_of_primed hheads ⟨hs, hdpresent, hdheld⟩ with ⟨hm, -⟩ | ⟨hm, -⟩ <;> simp [hm]
    · rw [settle_of_not_priming hheads hs]
      rcases moveTest_cases d with hm | hm <;> simp [hm, hdheld]
  · have hdwear : d.gap.wearAcc = s.gap.wearAcc :=
      (State.wearAcc_of_wear (State.wear_of_still hrests.still)).symm.trans hwear
    have hposition : d.monitor.position = some x := by
      rw [hweighed.position, (State.sensing_of_still hstill).2.1, h.position]
    have hdest : d.gapEstimate = some g := by
      unfold State.gapEstimate
      rw [hdreference, hk, hposition, hdwear, hg]
    have hdsettings : d.settings = s.settings := by
      rw [hweighed.settings, State.settings_of_still hstill, h.settings]
    have hdmotor : d.motorRunning = true := by
      rw [hweighed.motor, State.motorRunning_of_still hstill, h.motor, hm]
    have hclose : gapDistance g d.gap.setpoint ≤ d.settings.holdBand := by
      rw [hdsetpoint, hdsettings]
      unfold gapDistance
      omega
    have hprimed : d.Primed := ⟨by rw [hdrun, hs], hdpresent, hdheld⟩
    obtain ⟨htimer, hruns, -⟩ := enterRun_of_priming hprimed.1
    rw [settle_of_primed_still hheads hprimed (moveTest_of_close hdest hclose (.inl hdapproach))]
    exact ⟨(hruns hdmotor).1, htimer, enterRun_gapState hdheld⟩

end

/-- Settles O37: a reading event of a calibration is its own test with what follows it (`afterTest`); each phase has its lemma. -/
theorem readingsMoveTheCalibration : Obligations.ReadingsMoveTheCalibration := by
  unfold Obligations.ReadingsMoveTheCalibration
  intro r s c p ha hact hlow hhigh hmarked hposition hpressure now quiet calm timeout
  have hx : positionReading r = some r.position := if_pos ⟨hmarked, hposition⟩
  have hsensed := sensed_inRange (s := s) ⟨hlow, hhigh⟩ hx
  have hexec : exec (.readingEvent r) s =
      .next (afterTest s.drive.output p (calibrationReading (some p) c r.position (sensed r s))) := by
    rw [hpressure]
    exact exec_readingEvent_of_calibrating ha hact ⟨hlow, hhigh⟩ hx
  refine ⟨_, hexec, fun start hphase => ⟨fun hle hc => ?_, fun hlt hq => ?_⟩, fun pulse hphase hlt => ?_,
    fun pulse hphase hle hc => ⟨fun hne => ?_, fun he => ?_⟩,
    fun mark left contact g hphase hk hg => ⟨fun hlt hq => ?_, fun hle => ⟨fun e hqueue hactive hkind => ?_, fun hc hq => ?_⟩⟩⟩
  · exact opening_ends _ hsensed hphase hle hc.1 hc.2
  · exact opening_continues _ hsensed hact hphase hlt hq
  · obtain ⟨h1, h2, h3, h4⟩ := seeking_contact s.drive.output hsensed hphase hlt
    exact ⟨h1, h2, h3, h4, fun hq => seeking_contact_quiet _ hsensed hphase hlt hq,
      fun harmed hmark => seeking_contact_tramp _ hsensed hphase hlt harmed hmark⟩
  · exact seeking_continues _ hsensed hact hphase hle hne hc.1 hc.2
  · exact seeking_ends _ hsensed hact hphase hle he hc.1 hc.2
  · have hest : (sensed r s).gapEstimate = some g := by rw [hsensed.gapEstimate, hk, hg]; rfl
    exact backing_short _ hsensed hact hphase hest hlt hq
  · have hest : (sensed r s).gapEstimate = some g := by rw [hsensed.gapEstimate, hk, hg]; rfl
    exact backing_answers _ hsensed hact hphase hest hle hqueue hactive hkind
  · exact backing_arrives _ hsensed hact hphase hk hg hle hc.1 hc.2 hq

end Sys2Proof.Machine

/-! ## Stages 2 to 11 of a share computation (O25) -/

namespace Sys2Proof.Machine

/-! ### What the stages read: the feed and the peer table (R39, R61, R63) -/

theorem GapState.feeds_iff (g : GapState) : g.feeds = true ↔ g = .holding ∨ g = .moving ∨ g = .stuck := by
  cases g <;> simp [GapState.feeds]

theorem State.feedPermitted_iff (s : State) :
    s.feedPermitted = true ↔
      s.run.state = .running ∧ (s.gapState = .holding ∨ s.gapState = .moving ∨ s.gapState = .stuck) := by
  rw [State.feedPermitted, Bool.and_eq_true, decide_eq_true_iff, GapState.feeds_iff]

theorem EntryState.not_live_iff (e : EntryState) : ¬ e = .live ↔ e = .silent := by
  cases e <;> simp

theorem PeerEntry.live_iff (e : PeerEntry) : e.live = true ↔ e.entryState = .live := decide_eq_true_iff

/-- An entry is LIVE or SILENT (R18). -/
theorem PeerEntry.not_live_iff (e : PeerEntry) : (!e.live) = true ↔ e.entryState = .silent := by
  rw [Bool.not_eq_true', ← Bool.not_eq_true, e.live_iff, EntryState.not_live_iff]

/-- Of the LIVE belt members only the HELD and the STOPPING ones are committed flow, of the SILENT ones each (R61). -/
theorem PeerEntry.committed_iff (e : PeerEntry) :
    e.committed = true ↔ e.belt = true ∧ (e.entryState = .silent ∨
      (e.entryState = .live ∧ (e.runState = .held ∨ e.runState = .stopping))) := by
  unfold PeerEntry.committed
  simp only [Bool.and_eq_true, Bool.or_eq_true, decide_eq_true_iff, e.not_live_iff, or_assoc]
  cases e.entryState <;> simp

theorem liveMembers_eq (es : List PeerEntry) :
    liveMembers es = es.filter (fun e => e.belt = true ∧ e.entryState = .live) :=
  List.filter_congr fun e _ => by rw [Bool.eq_iff_iff, Bool.and_eq_true, e.live_iff, decide_eq_true_iff]

theorem silentMembers_eq (es : List PeerEntry) :
    silentMembers es = es.filter (fun e => e.belt = true ∧ e.entryState = .silent) :=
  List.filter_congr fun e _ => by rw [Bool.eq_iff_iff, Bool.and_eq_true, e.not_live_iff, decide_eq_true_iff]

theorem committedMembers_eq (es : List PeerEntry) :
    es.filter (·.committed) = es.filter (fun e => e.belt = true ∧ (e.entryState = .silent ∨
      (e.entryState = .live ∧ (e.runState = .held ∨ e.runState = .stopping)))) :=
  List.filter_congr fun e _ => by rw [Bool.eq_iff_iff, e.committed_iff, decide_eq_true_iff]

/-! ### The stages (R61, R62, R68, R69) -/

/-- Stage 3 (R61). -/
theorem committedFlow_eq (es : List PeerEntry) :
    committedFlow es = min 65535 ((es.filter (fun e => e.belt = true ∧ (e.entryState = .silent ∨
      (e.entryState = .live ∧ (e.runState = .held ∨ e.runState = .stopping))))).map (·.throughput)).sum := by
  rw [committedFlow, committedMembers_eq]

/-- Stage 4 at a known gap (R62): the two tests of a permitted feed are those of R39. -/
theorem ownCapacity_of_gap {s : State} {g : Nat} (h : s.gapEstimate = some g) :
    ownCapacity s = if s.run.state = .running ∧
        (s.gapState = .holding ∨ s.gapState = .moving ∨ s.gapState = .stuck) then
      min s.settings.feederCapacity (min (s.settings.capacityCoeff * g / 100) s.settings.capacityCeiling) else 0 := by
  simp only [ownCapacity, h, s.feedPermitted_iff, capacityAt, Nat.min_assoc]

/-- Stage 4 without a gap estimate (R62). -/
theorem ownCapacity_of_noGap {s : State} (h : s.gapEstimate = none) : ownCapacity s = 0 := by
  simp only [ownCapacity, h]

/-- Stage 10: the rate, which flush mode decides below the minimum (R68). -/
theorem minimumRate_rate (c : Settings) (capped raw : Nat) :
    (minimumRate c capped raw).1 = if capped = 0 then 0
      else if raw < c.rMin then (if c.flushMode = .hold then c.rMin else 0) else raw := by
  unfold minimumRate
  split_ifs with hzero hlow hhold
  · rfl
  · rw [hhold]
  · cases hmode : c.flushMode with
    | stop => rfl
    | hold => exact absurd hmode hhold
  · rfl

/-- Stage 10: SHARE_FLUSHED (R68). -/
theorem minimumRate_flushed (c : Settings) (capped raw : Nat) :
    (minimumRate c capped raw).2 = true ↔ (0 < capped ∧ raw < c.rMin) ∧ c.flushMode = .stop := by
  unfold minimumRate
  split_ifs with hzero hlow
  · simp [hzero]
  · cases hmode : c.flushMode <;> simp [hlow, Nat.pos_of_ne_zero hzero]
  · simp [hlow]

/-- Stage 11: the rate, which never rises above the output from the high mark on (R69). -/
theorem cavityGuard_rate (c : Settings) (cavity output rate : Nat) :
    (cavityGuard c cavity output rate).1 = if c.cavityFull ≤ cavity then 0
      else if c.cavityHigh ≤ cavity then min rate output else rate := by
  unfold cavityGuard
  split_ifs <;> rfl

/-- Stage 11: CAVITY_FULL (R69). -/
theorem cavityGuard_full (c : Settings) (cavity output rate : Nat) :
    (cavityGuard c cavity output rate).2 = true ↔ c.cavityFull ≤ cavity := by
  unfold cavityGuard
  split_ifs with hfull <;> simp [hfull]

/-- Settles O25: the record is `shareRecordOf`'s and each of its fields one stage's; the next state is `shareComputation`'s. -/
theorem shareStagesAreWorkedInOrder : Obligations.ShareStagesAreWorkedInOrder := by
  unfold Obligations.ShareStagesAreWorkedInOrder
  intro s hactive c es cavity
  have hcavity : guardCavity s = cavity := rfl
  refine ⟨_, shareRecordOf s, execSharePeriodExpiry_of_active hactive, rfl, rfl, rfl, rfl, committedFlow_eq es, ?available,
    fun g => ownCapacity_of_gap, ownCapacity_of_noGap, ?sum, rfl, rfl, rfl,
    congrArg List.length (liveMembers_eq es), congrArg List.length (silentMembers_eq es),
    ⟨minimumRate_flushed c _ _, cavityGuard_full c _ _ _, Option.isNone_iff_eq_none, ?rate⟩, rfl, rfl, rfl, rfl, rfl⟩
  case available =>
    have hstage : (shareRecordOf s).available = (shareRecordOf s).demand - (shareRecordOf s).committed := rfl
    split <;> omega
  case sum =>
    rw [← liveMembers_eq]
    rfl
  case rate =>
    rw [← minimumRate_rate, ← hcavity]
    exact cavityGuard_rate c _ _ _

end Sys2Proof.Machine

/-! ## Power Trim (O27) -/

namespace Sys2Proof.Machine

/-! ### The power sum (R74) -/

/-- The power sum asks an entry for its power membership alone, whatever its state. -/
theorem powerSum_eq (own : Nat) (es : List PeerEntry) :
    powerSum own es = min 65535 (own + ((es.filter (fun e => e.powerMember = true)).map (·.power)).sum) := by
  simp only [powerSum, Bool.decide_eq_true]

/-! ### The trim factor by its cases (R76, R77) -/

theorem recoveryMark_le_budget (c : Settings) : recoveryMark c ≤ c.powerBudget :=
  calc recoveryMark c ≤ c.powerBudget * 1000 / 1000 :=
        Nat.div_le_div_right (Nat.mul_le_mul_left _ (Nat.sub_le _ _))
    _ = c.powerBudget := Nat.mul_div_cancel _ (by decide)

theorem trimUpdate_of_noBudget {c : Settings} (h : c.powerBudget = 0) (q sum : Nat) : trimUpdate c q sum = 1000 :=
  if_pos h

theorem trimUpdate_of_over {c : Settings} {sum : Nat} (h : c.powerBudget ≠ 0) (hover : c.powerBudget < sum) (q : Nat) :
    trimUpdate c q sum = max c.trimFloor (q * c.powerBudget / sum) := by
  rw [trimUpdate, if_neg h, if_pos hover]

/-- A sum below the recovery mark is within the budget, and the budget is not 0. -/
theorem trimUpdate_of_recovered {c : Settings} {sum : Nat} (h : sum < recoveryMark c) (q : Nat) :
    trimUpdate c q sum = min 1000 (q + c.trimStep) := by
  have hwithin : sum < c.powerBudget := Nat.lt_of_lt_of_le h (recoveryMark_le_budget c)
  rw [trimUpdate, if_neg (Nat.ne_zero_of_lt hwithin), if_neg (Nat.lt_asymm hwithin), if_pos h]

theorem trimUpdate_of_inBand {c : Settings} {sum : Nat} (h : c.powerBudget ≠ 0) (hwithin : sum ≤ c.powerBudget)
    (hmark : recoveryMark c ≤ sum) (q : Nat) : trimUpdate c q sum = q := by
  rw [trimUpdate, if_neg h, if_neg (Nat.not_lt.2 hwithin), if_neg (Nat.not_lt.2 hmark)]

/-! ### Stage 0 of the computation -/

theorem shareComputation_trim (s : State) :
    (shareComputation s).share.trim = trimUpdate s.settings s.share.trim (powerSum (ownPower s) s.peers.entries) := rfl

/-- Settles O27: the trim factor is `trimUpdate`'s at the power sum, one clause to each of its cases. -/
theorem powerTrimUpdate : Obligations.PowerTrimUpdate := by
  unfold Obligations.PowerTrimUpdate
  intro s hactive c own sum q
  have htrim : (shareComputation s).share.trim = trimUpdate c q sum := by
    rw [shareComputation_trim, powerSum_eq]
    rfl
  refine ⟨_, execSharePeriodExpiry_of_active hactive, ?_⟩
  rw [htrim]
  exact ⟨fun hnone => trimUpdate_of_noBudget hnone q sum, fun hbudget hover => trimUpdate_of_over hbudget hover q,
    fun hrecovered => trimUpdate_of_recovered hrecovered q,
    fun hbudget hwithin hmark => trimUpdate_of_inBand hbudget hwithin hmark q⟩

end Sys2Proof.Machine

/-! ## Gap estimate, drive mode and feeder terminals (O6), and one ramp interval (O28) -/

namespace Sys2Proof.Machine

/-! ### Gap estimate and drive mode (R84, R92) -/

/-- G is absent while UNREFERENCED and while no valid position has been read (R92). -/
theorem gapEstimate_of_absent {s : State} (h : s.gap.reference = .unreferenced ∨ s.monitor.position = none) :
    s.gapEstimate = none := by
  rcases h with h | h
  · exact gapEstimate_of_unreferenced (Reference.not_present_iff.2 h)
  · unfold State.gapEstimate
    rw [h]
    cases s.gap.reference.contact? <;> rfl

/-- With a contact position and a position read, G is their difference and the wear, held at 0 (R92). -/
theorem gapEstimate_of_contact {s : State} {c p : Nat} (hc : s.gap.reference.contact? = some c)
    (hp : s.monitor.position = some p) : s.gapEstimate = some ((c + s.gap.wearAcc / 100) - p) := by
  unfold State.gapEstimate
  rw [hc, hp]

/-- The drive mode is ZEROED in a gap state that forbids feeding, and otherwise goes with the run state (R84). -/
theorem driveModeOf_iff (r : RunState) (g : GapState) :
    (driveModeOf r g = .feeding ↔ r = .running ∧ g.feeds = true) ∧
    (driveModeOf r g = .frozen ↔ r = .held ∧ g.feeds = true) ∧
    (driveModeOf r g = .rundown ↔ r = .stopping ∧ g.feeds = true) := by
  cases hg : g.feeds
  · cases r <;> simp [driveModeOf, hg]
  · cases r <;> simp [driveModeOf, hg]

/-- Settles O6: G by `gapEstimate_of_absent` and `gapEstimate_of_contact`, the drive mode by `driveModeOf_iff`; the terminals are their
definitions. -/
theorem estimateModeAndTerminals : Obligations.EstimateModeAndTerminals := by
  unfold Obligations.EstimateModeAndTerminals
  intro s
  refine ⟨gapEstimate_of_absent, fun c p hr hp => ?estimate, ?mode, rfl, decide_eq_true_iff⟩
  case estimate =>
    have hc : s.gap.reference.contact? = some c := by
      rcases hr with hr | hr <;> rw [hr] <;> rfl
    refine ⟨_, gapEstimate_of_contact hc hp, ?_⟩
    omega
  case mode =>
    simp only [← GapState.feeds_iff]
    exact driveModeOf_iff s.run.state s.gapState

/-! ### RAMP_INTERVAL (R85, R86, R90) -/

/-- A new output is written with what follows from its reaching 0: the NOFEED latch (R9), and in STOPPING the clear timer (R46). -/
theorem setOutput_eq (a : Nat) (s : State) :
    setOutput a s = { s with
      drive.output := a
      monitor.nofeed := s.monitor.nofeed || (decide (a = 0) && decide (0 < s.drive.output))
      run.clearTimer := if a = 0 ∧ 0 < s.drive.output ∧ s.run.state = .stopping then some (s.settings.clearTime * 1000)
        else s.run.clearTimer } := by
  simp only [setOutput, Bool.and_eq_true, decide_eq_true_eq, and_assoc]

/-- Only in FEEDING and RUNDOWN does a ramp interval move the output (R85). -/
theorem rampOutput_of_still {s : State} (h : s.driveMode = .frozen ∨ s.driveMode = .zeroed) :
    rampOutput s = s.drive.output := by
  rcases h with h | h <;> simp only [rampOutput, h]

/-- A station whose output moves is RUNNING or STOPPING, so no internal calibration waits for the output to reach 0 (R41, R90). -/
theorem state_of_rampOutput_ne {s : State} (h : rampOutput s ≠ s.drive.output) : s.run.state ≠ .priming := by
  intro hp
  refine h (rampOutput_of_still (.inr ?_))
  simp [State.driveMode, hp, driveModeOf]

/-- A ramp interval sets the output, restarts its timer and does nothing else. -/
theorem rampInterval_eq (s : State) :
    rampInterval s = setOutput (rampOutput s) { s with drive.timer := some rampPeriod } := by
  unfold rampInterval
  dsimp only
  split
  · next h =>
    refine internalCalibrationTest_of_state (state_of_rampOutput_ne (s := s) fun hsame => ?_)
    exact h.2 (hsame.symm.trans h.1)
  · rfl

theorem execRampInterval_of_active {s : State} (h : s.active = true) :
    exec .rampInterval s = .next (setOutput (rampOutput s) { s with drive.timer := some rampPeriod }) :=
  congrArg Host.Outcome.next ((if_pos h).trans (rampInterval_eq s))

/-- Settles O28: the interval sets the output (`execRampInterval_of_active`), which by drive mode is `rampToward` the setpoint, `rampToward`
0 or as it was. -/
theorem rampIntervalMovesTheOutput : Obligations.RampIntervalMovesTheOutput := by
  unfold Obligations.RampIntervalMovesTheOutput
  intro s hactive c a up down lowered a'
  have hout : rampOutput s = a' := by
    unfold a' rampOutput
    cases s.driveMode with
    | feeding => rfl
    | rundown => exact if_neg (Nat.not_lt_zero _)
    | frozen => rfl
    | zeroed => rfl
  have hexec := execRampInterval_of_active hactive
  rw [hout, setOutput_eq] at hexec
  exact hexec

end Sys2Proof.Machine

/-! ## Feeding stays safe (O29) -/

namespace Sys2Proof.Machine

/-! ### The output and the capacity at the shared operations (R56, R87) -/

/-- Output and capacity, with the run state and the gap state that drive mode and permission to feed are functions of (R39, R84). -/
def State.feed (s : State) : RunState × GapState × Nat × Nat :=
  (s.run.state, s.gapState, s.drive.output, s.share.capacity)

/-- The output is 0 wherever the drive mode is ZEROED (R87). -/
def OutputFollows (s : State) : Prop := s.driveMode = .zeroed → s.drive.output = 0

/-- What every operation keeps of the feeder: an output that follows the drive mode (R87), and a capacity that follows the permission
to feed (R56). -/
structure KeepsFeed (s t : State) : Prop where
  output   : OutputFollows s → OutputFollows t
  capacity : CapacitySafe s → CapacitySafe t

@[refl] theorem KeepsFeed.refl (s : State) : KeepsFeed s s := ⟨id, id⟩

theorem KeepsFeed.trans {s t u : State} (h : KeepsFeed s t) (h' : KeepsFeed t u) : KeepsFeed s u :=
  ⟨h'.output ∘ h.output, h'.capacity ∘ h.capacity⟩

/-- A write to other fields. -/
theorem KeepsFeed.plain {s t u : State} (h : KeepsFeed s t) (he : u.feed = t.feed) : KeepsFeed s u := by
  simp only [State.feed, Prod.mk.injEq] at he
  obtain ⟨hs, hg, ho, hc⟩ := he
  refine h.trans ⟨fun ht => ?_, fun ht => ?_⟩
  · rwa [OutputFollows, State.driveMode, hs, hg, ho]
  · rwa [CapacitySafe, State.feedPermitted, hs, hg, hc]

theorem KeepsFeed.of_same {s t : State} (he : t.feed = s.feed) : KeepsFeed s t := (KeepsFeed.refl s).plain he

theorem zeroIfZeroed_follows (s : State) : OutputFollows (zeroIfZeroed s) := fun h =>
  zeroIfZeroed_output s (zeroIfZeroed_driveMode s ▸ h)

theorem dropCapacity_safe (s : State) : CapacitySafe (dropCapacity s) := by
  intro h
  rw [dropCapacity_frame] at h ⊢
  exact if_neg fun hs => Bool.false_ne_true (h.symm.trans hs)

/-- The two closing parts of a change of gap state or run state put the feeder right, whatever it was before. -/
theorem zeroed_dropped_feed (s u : State) : KeepsFeed s (zeroIfZeroed (dropCapacity u)) := by
  refine ⟨fun _ => zeroIfZeroed_follows _, fun _ h => ?_⟩
  rw [zeroIfZeroed_share]
  refine dropCapacity_safe u ?_
  rwa [State.feedPermitted, State.gapState, zeroIfZeroed_state, zeroIfZeroed_gap] at h

theorem emptyJumpIfOpening_feed {s t : State} (h : KeepsFeed s t) : KeepsFeed s (emptyJumpIfOpening t) := by
  rw [emptyJumpIfOpening_frame]
  exact h.plain rfl

theorem setActivity_feed (act : Activity) (s t : State) : KeepsFeed s (setActivity act t) :=
  emptyJumpIfOpening_feed (zeroed_dropped_feed s _)

theorem changeRun_feed (r : RunState) (s t : State) : KeepsFeed s (changeRun r t) := zeroed_dropped_feed s _

/-- Fields of the activity in progress, which keeps its gap state. -/
theorem updateActivity_feed {s t : State} {act : Activity} (h : KeepsFeed s t) (ha : act.state = t.gapState) :
    KeepsFeed s (updateActivity act t) :=
  emptyJumpIfOpening_feed (h.plain (by simp only [State.feed, State.gapState, ha]))

theorem holdW_feed {s t : State} (h : KeepsFeed s t) : KeepsFeed s (holdW t) := by
  unfold holdW
  split
  exacts [h, h.plain rfl]

theorem restW_feed {s t : State} (h : KeepsFeed s t) : KeepsFeed s (restW t) := by
  unfold restW
  split <;> exact h.plain rfl

theorem endActive_feed {s t : State} (o : AnswerOutcome) (h : KeepsFeed s t) : KeepsFeed s (endActive o t) := by
  rw [endActive_frame]
  exact h.plain rfl

theorem endActiveOf_feed {s t : State} (k : QueuedKind) (o : AnswerOutcome) (h : KeepsFeed s t) :
    KeepsFeed s (endActiveOf k o t) := by
  rw [endActiveOf_frame]
  exact h.plain rfl

theorem report_feed {s t : State} (k : FaultKind) (trips : Bool) (h : KeepsFeed s t) : KeepsFeed s (report k trips t) := by
  unfold report
  split
  exacts [changeRun_feed _ _ _, h.plain rfl]

theorem enterRun_feed (r : RunState) (s t : State) : KeepsFeed s (enterRun r t) := by
  unfold enterRun
  split
  exacts [report_feed _ _ (changeRun_feed r s t), changeRun_feed r s t]

/-! ### Moves, arrivals, calibrations and records -/

theorem endSetGapReached_feed {s t : State} (h : KeepsFeed s t) : KeepsFeed s (endSetGapReached t) := by
  rw [endSetGapReached_frame]
  exact h.plain rfl

theorem arrive_feed (s t : State) : KeepsFeed s (arrive t) := setActivity_feed _ _ _

theorem moveCrossing_feed {s t : State} (h : KeepsFeed s t) : KeepsFeed s (moveCrossing t) := by
  unfold moveCrossing
  split
  · split
    exacts [endSetGapReached_feed (arrive_feed s t), h]
  · exact h

theorem backingArrival_feed {s t : State} (h : KeepsFeed s t) : KeepsFeed s (backingArrival t) := by
  unfold backingArrival
  split
  · split
    · split
      exacts [endActiveOf_feed _ _ (arrive_feed s t), h]
    · exact h
  · exact h

theorem reclosingArrival_feed {s t : State} (h : KeepsFeed s t) : KeepsFeed s (reclosingArrival t) := by
  unfold reclosingArrival
  split
  · split
    exacts [arrive_feed s t, h]
  · exact h

theorem testW_feed {s t : State} (h : KeepsFeed s t) : KeepsFeed s (testW t) := by
  unfold testW
  split
  exacts [moveCrossing_feed h, backingArrival_feed h, reclosingArrival_feed h, h]

theorem targetChanged_feed {s t : State} (h : KeepsFeed s t) : KeepsFeed s (targetChanged t) := by
  refine testW_feed ?_
  split
  exacts [holdW_feed h, h.plain rfl]

theorem reversalTest_feed {s t : State} (h : KeepsFeed s t) : KeepsFeed s (reversalTest t) := by
  unfold reversalTest
  split
  · next ha _ =>
    split
    exacts [updateActivity_feed h (Activity.moving_state_eq ha), h]
  · exact h

theorem wearChanged_feed {s t : State} (h : KeepsFeed s t) : KeepsFeed s (wearChanged t) := by
  unfold wearChanged
  split
  exacts [reversalTest_feed (moveCrossing_feed h), h]

theorem moveTest_feed {s t : State} (h : KeepsFeed s t) : KeepsFeed s (moveTest t) := by
  unfold moveTest
  split
  · split
    exacts [setActivity_feed _ _ _, h]
  · exact h

theorem internalCalibrationTest_feed {s t : State} (h : KeepsFeed s t) : KeepsFeed s (internalCalibrationTest t) := by
  unfold internalCalibrationTest
  split
  exacts [setActivity_feed _ _ _, h]

theorem startRequestedCalibration_feed {s t : State} (h : KeepsFeed s t) :
    KeepsFeed s (startRequestedCalibration t) := by
  unfold startRequestedCalibration
  split
  exacts [setActivity_feed _ _ _, endActive_feed _ h]

theorem primingTest_feed {s t : State} (h : KeepsFeed s t) : KeepsFeed s (primingTest t) := by
  unfold primingTest
  split
  exacts [enterRun_feed _ _ _, h]

theorem requestRecord_feed {s t : State} (h : KeepsFeed s t) : KeepsFeed s (requestRecord t) := by
  rw [requestRecord_frame]
  exact h.plain rfl

theorem startPending_feed {s t : State} (h : KeepsFeed s t) : KeepsFeed s (startPending t) := by
  rw [startPending_frame]
  exact h.plain rfl

theorem finishStopping_feed (s t : State) : KeepsFeed s (finishStopping t) := requestRecord_feed (changeRun_feed _ _ _)

theorem setReference_feed {s t : State} (r : Reference) (h : KeepsFeed s t) : KeepsFeed s (setReference r t) := by
  unfold setReference
  extract_lets _ u v
  have hu : KeepsFeed s u := holdW_feed (h.plain rfl)
  have hv : KeepsFeed s v := by
    unfold v
    split
    exacts [setActivity_feed _ _ _, hu]
  split
  · exact hu
  · split
    exacts [changeRun_feed _ _ _, hv]

/-- Contact is taken in CALIBRATING, which goes on. -/
theorem contact_feed {s t : State} (k : CalKind) (p : Nat) (h : KeepsFeed s t) (hc : t.gapState = .calibrating) :
    KeepsFeed s (contact k p t) := by
  have htaken : KeepsFeed s (contactTaken p t) := requestRecord_feed (setReference_feed _ (h.plain rfl))
  have hstate : (contactTaken p t).gapState = .calibrating := (contactTaken_gapState (by simp [hc])).trans hc
  rw [contact_eq]
  exact updateActivity_feed (htaken.plain rfl) hstate.symm

/-! ### The arrivals of a demand, the start of the queue's head and the end of an event -/

theorem flagDropped_feed {s t : State} (h : KeepsFeed s t) : KeepsFeed s (flagDropped t) := by
  unfold flagDropped
  split
  · next ha => exact updateActivity_feed h (Activity.moving_state_eq ha)
  · exact h

theorem gapTargetArrives_feed {s t : State} (n : Nat) (h : KeepsFeed s t) : KeepsFeed s (gapTargetArrives n t) := by
  rw [gapTargetArrives_eq]
  exact targetChanged_feed (KeepsFeed.plain (flagDropped_feed (endActiveOf_feed _ _ h)) rfl)

theorem spanArrives_feed {s t : State} (n : Nat) (h : KeepsFeed s t) : KeepsFeed s (spanArrives n t) := by
  unfold spanArrives
  split
  exacts [h, targetChanged_feed (h.plain rfl)]

theorem startSetGap_feed {s t : State} (e : Entry) (h : KeepsFeed s t) : KeepsFeed s (startSetGap e t) := by
  unfold startSetGap
  split
  · exact endActive_feed _ h
  · split
    · exact holdW_feed (KeepsFeed.plain (endActive_feed _ h) rfl)
    · dsimp only
      split
      exacts [endActive_feed _ (h.plain rfl), h.plain rfl]

theorem startLinerChange_feed {s t : State} (h : KeepsFeed s t) : KeepsFeed s (startLinerChange t) :=
  requestRecord_feed (setReference_feed _ (h.plain rfl))

theorem startHead_feed {s t : State} (h : KeepsFeed s t) : KeepsFeed s (startHead t) := by
  unfold startHead
  split
  · exact h
  · have h' : KeepsFeed s { t with queue := activateHead t.queue } := h.plain rfl
    dsimp only
    split
    exacts [startSetGap_feed _ h', startRequestedCalibration_feed h', startLinerChange_feed h']

theorem startHeads_feed (n : Nat) {s t : State} (h : KeepsFeed s t) : KeepsFeed s (startHeads n t) := by
  induction n generalizing t with
  | zero => exact h
  | succ n ih =>
    unfold startHeads
    split
    exacts [ih (startHead_feed h), h]

theorem settle_feed {s t : State} (h : KeepsFeed s t) : KeepsFeed s (settle t) :=
  primingTest_feed (moveTest_feed (internalCalibrationTest_feed (startHeads_feed _ h)))

end Sys2Proof.Machine

namespace Sys2Proof.Machine

/-! ### Readings and window close -/

theorem breakPower_feed {s t : State} (ok : Bool) (h : KeepsFeed s t) : KeepsFeed s (breakPower ok t) := by
  unfold breakPower
  split
  exacts [report_feed _ _ (h.plain rfl), h]

theorem breakPressure_feed {s t : State} (ok : Bool) (h : KeepsFeed s t) : KeepsFeed s (breakPressure ok t) := by
  unfold breakPressure
  split
  exacts [report_feed _ _ (h.plain rfl), h]

theorem breakCavity_feed {s t : State} (ok : Bool) (h : KeepsFeed s t) : KeepsFeed s (breakCavity ok t) := by
  unfold breakCavity
  split
  exacts [report_feed _ _ (h.plain rfl), h]

theorem breakPile_feed {s t : State} (ok : Bool) (h : KeepsFeed s t) : KeepsFeed s (breakPile ok t) := by
  unfold breakPile
  split
  exacts [report_feed _ _ (h.plain rfl), h]

theorem breakPosition_feed {s t : State} (ok : Bool) (h : KeepsFeed s t) : KeepsFeed s (breakPosition ok t) := by
  unfold breakPosition
  split
  exacts [report_feed _ _ (h.plain rfl), h]

theorem notePosition_feed {s t : State} (p : Option Nat) (h : KeepsFeed s t) : KeepsFeed s (notePosition p t) := h.plain rfl

theorem sensed_feed (r : Readings) (s : State) : KeepsFeed s (sensed r s) := by
  have hread : KeepsFeed s (noteReading r (advanceReadingClock s)) := .of_same rfl
  have hchecks : KeepsFeed s (breakChecks r (noteReading r (advanceReadingClock s))) :=
    breakPosition_feed _ (breakPile_feed _ (breakCavity_feed _ (breakPressure_feed _ (breakPower_feed _ hread))))
  exact notePosition_feed _ hchecks

theorem moveReading_feed {s t : State} (pressure : Option Nat) (h : KeepsFeed s t) :
    KeepsFeed s (moveReading pressure t) := by
  have hcross := moveCrossing_feed h
  unfold moveReading
  dsimp only
  split
  · next ha _ => exact updateActivity_feed hcross (Activity.moving_state_eq ha)
  · exact hcross

theorem reclosingReading_feed {s t : State} (pressure : Option Nat) (h : KeepsFeed s t) :
    KeepsFeed s (reclosingReading pressure t) := by
  have harrive := reclosingArrival_feed h
  unfold reclosingReading
  dsimp only
  split
  · next ha _ => exact updateActivity_feed harrive (Activity.recovering_state_eq ha)
  · exact harrive

theorem calibrationFails_feed (k : CalKind) (s t : State) : KeepsFeed s (calibrationFails k t) := by
  have hstop : KeepsFeed s (stopCalibration t) := setActivity_feed _ _ _
  cases k with
  | internal => exact report_feed _ _ hstop
  | requested => exact endActiveOf_feed _ _ (report_feed _ _ hstop)

theorem calibrationReading_feed {s t : State} (pressure : Option Nat) {c : Calibration} (p : Nat) (h : KeepsFeed s t)
    (hc : t.gap.activity = .calibrating c) : KeepsFeed s (calibrationReading pressure c p t) := by
  unfold calibrationReading
  split
  · split
    exacts [updateActivity_feed h (Activity.calibrating_state_eq hc), h]
  · split
    · exact contact_feed _ _ h (State.gapState_of_calibrating hc)
    · split
      exacts [calibrationFails_feed _ s t, h]
  · have harrive := backingArrival_feed h
    dsimp only
    split
    · next ha _ =>
      split
      exacts [updateActivity_feed harrive (Activity.calibrating_state_eq ha), harrive]
    · exact harrive

theorem activityReading_feed {s t : State} (pressure position : Option Nat) (h : KeepsFeed s t) :
    KeepsFeed s (activityReading pressure position t) := by
  unfold activityReading
  split
  · next ha =>
    unfold settleReading
    split <;> exact updateActivity_feed h (Activity.relieved_state_eq ha)
  · exact moveReading_feed _ h
  · exact reclosingReading_feed _ h
  · next ha => exact calibrationReading_feed _ _ h ha
  · exact h

theorem detectTramp_feed (s t : State) : KeepsFeed s (detectTramp t) := by
  unfold detectTramp
  dsimp only
  split
  exacts [report_feed _ _ (setActivity_feed _ _ _), setActivity_feed _ _ _]

theorem trampReading_feed {s t : State} (pressure : Option Nat) (h : KeepsFeed s t) :
    KeepsFeed s (trampReading pressure t) := by
  unfold trampReading
  dsimp only
  split
  · split
    exacts [detectTramp_feed s t, h.plain rfl]
  · split <;> exact h.plain rfl

theorem estimateTonnage_feed {s t : State} (output : Nat) (h : KeepsFeed s t) :
    KeepsFeed s (estimateTonnage output t) := by
  unfold estimateTonnage
  split
  exacts [h.plain rfl, h]

theorem readingEvent_feed (r : Readings) (s : State) : KeepsFeed s (readingEvent r s) := by
  rw [readingEvent_eq]
  exact settle_feed (wearChanged_feed (estimateTonnage_feed _ (trampReading_feed _ (activityReading_feed _ _
    (sensed_feed r s)))))

theorem stepDecision_feed {s t : State} (h : KeepsFeed s t) : KeepsFeed s (stepDecision t) := by
  unfold stepDecision
  split
  · split
    · exact h.plain rfl
    · split
      exacts [h.plain rfl, h]
  · exact h

theorem windowClose_feed (s : State) : KeepsFeed s (windowClose s) := by
  have hopen : KeepsFeed s (reopened s) := .of_same rfl
  have hhistory : ∀ l, KeepsFeed s (historyTakes l (reopened s)) := fun l => by
    unfold historyTakes
    split
    exacts [stepDecision_feed (hopen.plain rfl), hopen]
  rw [windowClose_eq]
  refine settle_feed ?_
  unfold clearTakes
  split
  exacts [finishStopping_feed _ _, hhistory _]

/-! ### Demands and requests -/

theorem storeDemand_feed (p : DemandPayload) (s : State) : KeepsFeed s (storeDemand p s) := by
  have hseq : KeepsFeed s (sequenceStored p s) := .of_same rfl
  have hgap : KeepsFeed s (gapStored p (sequenceStored p s)) := by
    unfold gapStored
    split
    · split
      exacts [gapTargetArrives_feed _ hseq, hseq]
    · exact hseq
  rw [storeDemand_eq]
  unfold spanStored
  split
  · split
    exacts [spanArrives_feed _ hgap, hgap]
  · exact hgap

theorem actRun_feed {s t : State} (h : KeepsFeed s t) : KeepsFeed s (actRun t) := by
  have hbegin : KeepsFeed s (beginRun t) := by
    unfold beginRun
    split
    exacts [enterRun_feed _ _ _, changeRun_feed _ _ _]
  unfold actRun
  split
  exacts [hbegin, hbegin, h]

theorem actStop_feed {s t : State} (h : KeepsFeed s t) : KeepsFeed s (actStop t) := by
  have hbegin : KeepsFeed s (beginStop t) := enterRun_feed _ _ _
  unfold actStop
  split
  · exact hbegin
  · exact hbegin
  · unfold abortInternal
    split
    · split
      exacts [setActivity_feed _ _ _, hbegin]
    · exact hbegin
  · exact h

theorem actDemand_feed (p : DemandPayload) (c : Option Command) (s : State) : KeepsFeed s (actDemand p c s) := by
  have hstore := storeDemand_feed p s
  have hact : KeepsFeed s (actCommand c (storeDemand p s)) := by
    unfold actCommand
    split
    exacts [hstore, actRun_feed (hstore.plain rfl), actStop_feed (hstore.plain rfl)]
  unfold actDemand
  dsimp only
  split
  exacts [settle_feed hact, hact]

theorem takeDemand_feed (header : Address) (p : DemandPayload) (c : Option Command) (s : State) :
    KeepsFeed s (takeDemand header p c s) := by
  have hends : KeepsFeed s (frameEnds s) := .of_same rfl
  exact takeDemand_of (.refl s) hends (hends.trans (actDemand_feed p c _))

theorem onRequest_feed {header : Address} {act : State → State} {s : State}
    (h : KeepsFeed (frameEnds s) (act (frameEnds s))) : KeepsFeed s (onRequest header act s) := by
  have hends : KeepsFeed s (frameEnds s) := .of_same rfl
  exact onRequest_of (.refl s) hends (hends.trans h)

theorem enqueue_feed (e : Entry) (s : State) : KeepsFeed s (enqueue e s) := by
  rcases enqueue_cases e s with ⟨a, h⟩ | ⟨-, a, h⟩ <;> rw [h]
  exacts [.of_same rfl, settle_feed (.of_same rfl)]

theorem cancelActive_feed (k : QueuedKind) {s t : State} (h : KeepsFeed s t) : KeepsFeed s (cancelActive k t) := by
  have hend := endActive_feed (.stopped .cancelled) h
  cases k with
  | setGap =>
    simp only [cancelActive]
    split
    exacts [restW_feed (setActivity_feed _ _ _), restW_feed hend]
  | calibrate =>
    simp only [cancelActive]
    split
    exacts [setActivity_feed _ _ _, hend]
  | linerChange => exact hend

theorem cancelEntry_feed (header : Address) (tag : BitVec 3) (argument : Word) (s : State) :
    KeepsFeed s (cancelEntry header tag argument s) := by
  unfold cancelEntry
  split
  · exact .of_same rfl
  · refine settle_feed (KeepsFeed.plain (t := ite _ _ _) ?_ rfl)
    split
    exacts [cancelActive_feed _ (.refl s), .of_same rfl]

theorem holdFeed_feed (header : Address) (tag : BitVec 3) (s : State) : KeepsFeed s (holdFeed header tag s) := by
  unfold holdFeed
  split
  exacts [KeepsFeed.plain (enterRun_feed _ _ _) rfl, .of_same rfl]

theorem releaseFeed_feed (header : Address) (tag : BitVec 3) (s : State) : KeepsFeed s (releaseFeed header tag s) := by
  unfold releaseFeed
  split
  exacts [KeepsFeed.plain (enterRun_feed _ _ _) rfl, .of_same rfl]

theorem clearAccepted_feed (s : State) : KeepsFeed s (clearAccepted s) := by
  have hclear : KeepsFeed s (untripped s) := by
    unfold untripped
    split
    exacts [changeRun_feed _ _ _, .of_same rfl]
  rw [clearAccepted_eq]
  split
  exacts [setActivity_feed _ _ _, hclear]

theorem clearFault_feed (header : Address) (tag : BitVec 3) (s : State) : KeepsFeed s (clearFault header tag s) := by
  unfold clearFault
  split
  exacts [.of_same rfl, settle_feed ((clearAccepted_feed s).plain rfl)]

theorem takeStatus_feed (source : Nat) (p : StatusPayload) (s : State) : KeepsFeed s (takeStatus source p s) := by
  unfold takeStatus
  split
  · exact .refl s
  · split
    · exact report_feed _ _ (.of_same rfl)
    · split
      exacts [.of_same rfl, .refl s]

/-! ### Timers of the Gap Controller and campaigns -/

theorem moveStalls_feed {m : Move} (g : Nat) {s : State} (hm : s.gap.activity = .moving m) :
    KeepsFeed s (moveStalls m g s) := by
  unfold moveStalls
  split
  · split
    · exact setActivity_feed _ _ _
    · exact reversalTest_feed (updateActivity_feed (.refl s) (Activity.moving_state_eq hm))
  · exact setActivity_feed _ _ _

theorem stall_feed (s : State) : KeepsFeed s (stall s) := by
  unfold stall
  split
  · next ha _ =>
    split
    exacts [.refl s, settle_feed (moveStalls_feed _ ha)]
  · split
    exacts [settle_feed (setActivity_feed _ _ _), .refl s]
  · split
    exacts [.refl s, settle_feed (setActivity_feed _ _ _)]
  · exact .refl s

theorem seekLimitExpires_feed (s : State) : KeepsFeed s (seekLimitExpires s) := by
  unfold seekLimitExpires
  split
  · split
    exacts [settle_feed (calibrationFails_feed _ s s), .refl s]
  · exact .refl s

theorem pulseOnEnds_feed (s : State) : KeepsFeed s (pulseOnEnds s) := by
  unfold pulseOnEnds
  split
  · next ha =>
    split
    · split
      exacts [updateActivity_feed (.refl s) (Activity.calibrating_state_eq ha), .refl s]
    · exact .refl s
  · exact .refl s

theorem pulseOffEnds_feed (s : State) : KeepsFeed s (pulseOffEnds s) := by
  unfold pulseOffEnds
  split
  · next ha =>
    split
    · dsimp only
      split
      · exact .refl s
      · split
        exacts [settle_feed (contact_feed _ _ (.refl s) (State.gapState_of_calibrating ha)),
          updateActivity_feed (.refl s) (Activity.calibrating_state_eq ha)]
    · exact .refl s
  · exact .refl s

theorem reliefEnds_feed (s : State) : KeepsFeed s (reliefEnds s) := by
  unfold reliefEnds
  split
  · split <;> exact setActivity_feed _ _ _
  · exact setActivity_feed _ _ _

theorem campaignEnds_feed (e : CampaignEnd) (c : Campaign) (s : State) : KeepsFeed s (campaignEnds e c s) := by
  unfold campaignEnds
  extract_lets u v w
  have hu : KeepsFeed s u := .of_same rfl
  have hv : KeepsFeed s v := by
    unfold v
    split
    exacts [report_feed _ _ hu, hu]
  have hw : KeepsFeed s w := by
    unfold w linerChangeTakes
    split
    · split
      exacts [endActiveOf_feed _ _ hv, hv]
    · exact hv
  exact settle_feed (startPending_feed (hw.plain rfl))

theorem wordReady_feed (c : Campaign) (s : State) : KeepsFeed s (wordReady c s) := by
  unfold wordReady
  split
  · exact campaignEnds_feed _ _ _
  · split
    · have hcut : KeepsFeed s (cutShort c s) := by
        rw [cutShort_frame]
        exact .of_same rfl
      exact hcut.trans (campaignEnds_feed _ _ _)
    · exact .of_same rfl

/-! ### The start sequence, the ramp and the share computation -/

/-- STARTING, IDLE and UNCONFIGURED alike forbid feeding, so the end of the start sequence finds the feeder at rest and leaves it
(R38, R39). -/
theorem KeepsFeed.of_unfed {s t : State} (hs : ∀ g, driveModeOf s.run.state g = .zeroed) (hr : s.run.state ≠ .running)
    (ho : t.drive.output = s.drive.output) (hc : t.share.capacity = s.share.capacity) : KeepsFeed s t :=
  ⟨fun h _ => ho.trans (h (hs _)), fun h _ => hc.trans (h (by simp [State.feedPermitted, hr]))⟩

theorem startSequenceEnd_feed (straps : Nat) (memory : StartMemory) {s : State} (hs : s.run.state = .starting) :
    KeepsFeed s (startSequenceEnd straps memory s) := by
  have hunfed : ∀ t : State, t.drive.output = s.drive.output → t.share.capacity = s.share.capacity → KeepsFeed s t :=
    fun t => .of_unfed (fun g => by simp [hs, driveModeOf]) (by simp [hs])
  have hjudged : ∀ m, KeepsFeed s (judged straps m s) := fun m => by
    unfold judged
    split
    · unfold startConfigured startTarget
      rw [referenceFromRecord_frame]
      exact hunfed _ rfl rfl
    · rw [startUnconfigured_eq]
      exact hunfed _ rfl rfl
  have hstatus : ∀ m, KeepsFeed s (reportStatus (judged straps m s)) := fun m => (hjudged m).plain rfl
  rw [startSequenceEnd_eq]
  unfold reportLowSupply
  split
  exacts [report_feed _ _ (hstatus _), hstatus _]

/-- In ZEROED a ramp interval leaves the output (R85). -/
theorem rampInterval_feed (s : State) : KeepsFeed s (rampInterval s) := by
  rw [rampInterval_eq]
  exact ⟨fun h hz => (rampOutput_of_still (s := s) (.inr hz)).trans (h hz), id⟩

/-- A computation offers no capacity while feeding is not permitted (R62). -/
theorem ownCapacity_of_forbidden {s : State} (h : s.feedPermitted = false) : ownCapacity s = 0 := by
  unfold ownCapacity
  split
  · rw [h]
    rfl
  · rfl

theorem shareComputation_feed (s : State) : KeepsFeed s (shareComputation s) :=
  ⟨id, fun _ h => ownCapacity_of_forbidden (s := s) h⟩

/-! ### Every command -/

/-- Every command but RESET keeps the output and the capacity at 0 where feeding is forbidden. -/
theorem exec_feed {c : Instr} {s t : State} (h : exec c s = .next t) (hr : c ≠ .reset) : KeepsFeed s t := by
  have hends : KeepsFeed s (frameEnds s) := .of_same rfl
  cases c with
  | reset => exact absurd rfl hr
  | startSequenceEnd straps memory =>
    cases h
    split
    · next hs => exact startSequenceEnd_feed _ _ hs
    · exact .refl s
  | readingEvent r =>
    cases h
    split
    exacts [readingEvent_feed r s, .refl s]
  | beltScalePulse =>
    cases h
    split
    exacts [settle_feed (wearChanged_feed (.of_same rfl)), .refl s]
  | windowClose =>
    cases h
    split
    exacts [windowClose_feed s, .refl s]
  | sharePeriodExpiry =>
    cases h
    split
    exacts [shareComputation_feed s, .refl s]
  | statusArrival header own p =>
    cases h
    refine onFrame_of (.refl s) ?_
    split
    exacts [hends.trans (takeStatus_feed _ _ _), hends]
  | demand header p | run header p | stop header p =>
    cases h
    exact takeDemand_feed _ _ _ s
  | setGap | calibrate | linerChange =>
    cases h
    exact onRequest_feed (enqueue_feed _ _)
  | cancel header tag argument =>
    cases h
    exact onRequest_feed (cancelEntry_feed _ _ _ _)
  | holdFeed header tag =>
    cases h
    exact onRequest_feed (holdFeed_feed _ _ _)
  | releaseFeed header tag =>
    cases h
    exact onRequest_feed (releaseFeed_feed _ _ _)
  | clearFault header tag =>
    cases h
    exact onRequest_feed (clearFault_feed _ _ _)
  | queryFault | queryWear | queryShare | queryQueue | badKind =>
    cases h
    exact onRequest_feed (.of_same rfl)
  | answerFrameReceived | frameDiscarded =>
    cases h
    exact onFrame_of (.refl s) hends
  | rampInterval =>
    cases h
    split
    exacts [rampInterval_feed s, .refl s]
  | motorRunningFall =>
    cases h
    dsimp only
    split
    exacts [report_feed _ _ (.of_same rfl), .of_same rfl]
  | motorRunningRise =>
    cases h
    exact internalCalibrationTest_feed (.of_same rfl)
  | primingTimerExpiry =>
    cases h
    split
    exacts [report_feed _ _ (.of_same rfl), .refl s]
  | clearTimerExpiry =>
    cases h
    split
    exacts [finishStopping_feed s s, .refl s]
  | stallTimerExpiry =>
    cases h
    split
    exacts [stall_feed s, .refl s]
  | seekLimitExpiry =>
    cases h
    split
    exacts [seekLimitExpires_feed s, .refl s]
  | seekPulseOnEnd =>
    cases h
    split
    exacts [pulseOnEnds_feed s, .refl s]
  | seekPulseOffEnd =>
    cases h
    split
    exacts [pulseOffEnds_feed s, .refl s]
  | settleTimerExpiry =>
    cases h
    split
    · split
      exacts [settle_feed (reliefEnds_feed s), .refl s]
    · exact .refl s
  | readyTimerExpiry =>
    cases h
    split
    · next c _ =>
      have hgive : KeepsFeed s (giveUpWord c s) := .of_same rfl
      exact hgive.trans (campaignEnds_feed _ _ _)
    · exact .refl s
  | wordReady =>
    cases h
    have hfinish : KeepsFeed s { s with memory := s.memory.finish } := .of_same rfl
    dsimp only
    split
    exacts [hfinish.trans (wordReady_feed _ _), hfinish]
  | supplyLowRise =>
    cases h
    dsimp only
    split
    exacts [.of_same rfl, report_feed _ _ (.of_same rfl)]
  | supplyLowFall =>
    cases h
    exact startPending_feed (.of_same rfl)
  | reportTimerExpiry =>
    cases h
    split
    exacts [.refl s, .of_same rfl]
  | ageingEvent | transmitAttempt =>
    cases h
    split
    exacts [.of_same rfl, .refl s]
  | frameSent | collision =>
    cases h
    split
    · split
      exacts [.of_same rfl, .refl s]
    · exact .refl s
  | lineIdle =>
    cases h
    exact .of_same rfl

end Sys2Proof.Machine

/-! ## A station that is not active becomes so at the end of the start sequence only (R38) -/

namespace Sys2Proof.Machine

theorem RunState.inactive_iff {r : RunState} : r.active = false ↔ r = .starting ∨ r = .unconfigured := by
  cases r <;> simp [RunState.active]

theorem State.state_ne_of_inactive {s : State} (h : s.active = false) {r : RunState} (hr : r.active = true) :
    s.run.state ≠ r := fun hs => by
  rw [State.active, hs, hr] at h
  cases h

/-- In a station that is not active no report trips (R49). -/
theorem report_state_of_inactive (k : FaultKind) (trips : Bool) {s : State} (h : s.active = false) :
    (report k trips s).run.state = s.run.state := by
  rw [report_state]
  rcases RunState.inactive_iff.1 h with hs | hs <;> simp [hs, RunState.trippable]

theorem settle_state_of_inactive {s : State} (h : s.active = false) : (settle s).run.state = s.run.state := by
  have hne : ∀ {r : RunState}, r.active = true → s.run.state ≠ r := State.state_ne_of_inactive h
  exact settle_state (hne rfl) fun hr => (hr.elim (hne rfl) (hne rfl)).elim

theorem campaignEnds_state_of_inactive (e : CampaignEnd) (c : Campaign) {s : State} (h : s.active = false) :
    (campaignEnds e c s).run.state = s.run.state := by
  obtain ⟨u, hu, -, -, -, -, hs⟩ := campaignEnds_cases e c s
  rw [hu, settle_state_of_inactive ((State.active_of_run hs).trans h), hs]

theorem wordReady_state_of_inactive (c : Campaign) {s : State} (h : s.active = false) :
    (wordReady c s).run.state = s.run.state := by
  unfold wordReady
  split
  · exact campaignEnds_state_of_inactive _ _ h
  · split
    · have hcut : (cutShort c s).run.state = s.run.state := by rw [cutShort_frame]
      exact (campaignEnds_state_of_inactive _ _ ((State.active_of_run hcut).trans h)).trans hcut
    · rfl

/-- Only RESET and the end of the start sequence take a station out of STARTING or UNCONFIGURED. -/
theorem exec_state_of_inactive {c : Instr} {s t : State} (h : exec c s = .next t) (hs : s.active = false) (hr : c ≠ .reset)
    (hc : ∀ straps memory, c ≠ .startSequenceEnd straps memory) : t.run.state = s.run.state := by
  have hne : ∀ {r : RunState}, r.active = true → s.run.state ≠ r := State.state_ne_of_inactive hs
  have hoff : ¬ s.active = true := by simp [hs]
  cases c with
  | reset => exact absurd rfl hr
  | startSequenceEnd straps memory => exact absurd rfl (hc straps memory)
  | readingEvent | windowClose =>
    cases h
    rw [if_neg hoff]
  | beltScalePulse | stallTimerExpiry | seekLimitExpiry | seekPulseOffEnd =>
    cases h
    rw [if_neg fun hon => hoff hon.1]
  | statusArrival header own p =>
    cases h
    refine onFrame_of (P := fun t => t.run.state = s.run.state) rfl ?_
    rw [if_neg fun ⟨_, _, _, hon⟩ => hoff hon]
    rfl
  | demand header p | run header p | stop header p =>
    cases h
    exact takeDemand_of (P := fun t => t.run.state = s.run.state) rfl rfl
      (actDemand_state_of_inactive p _ (s := frameEnds s) hs)
  | setGap | calibrate | linerChange | cancel | holdFeed | releaseFeed | clearFault =>
    cases h
    rw [onRequest_discarded _ (.inr hs)]
    rfl
  | motorRunningFall =>
    cases h
    dsimp only
    split
    exacts [report_state_of_inactive _ _ (s := { s with motorRunning := false }) hs, rfl]
  | primingTimerExpiry | clearTimerExpiry =>
    cases h
    rw [if_neg fun hon => hne rfl hon.1]
  | settleTimerExpiry =>
    cases h
    split
    · rw [if_neg hoff]
    · rfl
  | readyTimerExpiry =>
    cases h
    split
    exacts [campaignEnds_state_of_inactive _ _ (s := giveUpWord _ s) hs, rfl]
  | wordReady =>
    cases h
    dsimp only
    split
    exacts [wordReady_state_of_inactive _ (s := { s with memory := s.memory.finish }) hs, rfl]
  | supplyLowRise =>
    cases h
    dsimp only
    split
    · rfl
    · exact report_state_of_inactive _ _ (s := { s with
        supplyLow := true, interface.campaign := s.interface.campaign.map (fun c => { c with cutOff := true }) }) hs
  | _ => exact exec_state h rfl

/-! ### The configuration of an active station (R162) -/

theorem execStartSequenceEnd_of_started {straps : BitVec 5} {memory : StartMemory} {s t : State}
    (hs : s.run.state ≠ .starting) (h : exec (.startSequenceEnd straps memory) s = .next t) : t = s := by
  have hsame : exec (.startSequenceEnd straps memory) s = .next s := congrArg Host.Outcome.next (if_neg hs)
  exact (Host.Outcome.next.inj (hsame.symm.trans h)).symm

/-- A station that the start sequence leaves active has found every setting in its range (R162). -/
theorem startSequenceEnd_settingsInRange {straps : Nat} {source : StartMemory} {s : State}
    (h : (startSequenceEnd straps source s).active = true) :
    settingsInRange (startSequenceEnd straps source s).settings = true := by
  obtain ⟨-, -, hrun, -, -, -, hsettings⟩ := judged_fields straps (startMemory s.memory source) s
  rw [startSequenceEnd_eq] at h ⊢
  generalize judged straps (startMemory s.memory source) s = u at *
  have hvalid : configurationValid straps (startMemory s.memory source).read = true := by
    by_contra hn
    have hstate : (reportStatus u).run.state = .unconfigured := (congrArg RunControl.state hrun).trans (if_neg hn)
    rw [(reportLowSupply_of_unconfigured hstate).1, State.active, hstate] at h
    cases h
  rw [State.settings_of_still (reportLowSupply_still _), show (reportStatus u).settings = u.settings from rfl, hsettings]
  simp only [configurationValid, Bool.and_eq_true] at hvalid
  exact hvalid.2

/-- An active station has a valid configuration, and every command keeps that. -/
theorem exec_settingsInRange {c : Instr} {s t : State} (h : exec c s = .next t)
    (hs : s.active = true → settingsInRange s.settings = true) (ht : t.active = true) :
    settingsInRange t.settings = true := by
  have hsame : c ≠ .reset → (∀ straps memory, c ≠ .startSequenceEnd straps memory) → settingsInRange t.settings = true := by
    intro hr hc
    rw [(exec_settings h hr hc).1]
    refine hs ?_
    by_contra hoff
    have hstate := exec_state_of_inactive h (by simpa using hoff) hr hc
    exact hoff ((State.active_of_run hstate).symm.trans ht)
  cases c with
  | reset =>
    cases h
    cases ht
  | startSequenceEnd straps memory =>
    by_cases hstart : s.run.state = .starting
    · cases h
      rw [if_pos hstart] at ht ⊢
      exact startSequenceEnd_settingsInRange ht
    · cases execStartSequenceEnd_of_started hstart h
      exact hs ht
  | _ => exact hsame nofun nofun

/-! ### Legal rates (R82) -/

/-- An interval below its target moves the output to a legal rate (R85). -/
theorem raiseOutput_legal {c : Settings} {target a : Nat} (ht : LegalRate c.rMin target) (ha : LegalRate c.rMin a)
    (hlt : a < target) : LegalRate c.rMin (raiseOutput c target a) := by
  unfold raiseOutput
  split
  · exact .inr ⟨le_refl _, by omega⟩
  · unfold LegalRate
    omega

/-- An interval above its target moves the output to a legal rate (R86). -/
theorem lowerOutput_legal {c : Settings} {target a : Nat} (ht : LegalRate c.rMin target) (ha : LegalRate c.rMin a)
    (hlt : target < a) : LegalRate c.rMin (lowerOutput c target a) := by
  unfold lowerOutput
  split
  · split
    exacts [.inr ⟨Nat.le_max_left _ _, by omega⟩, .inl rfl]
  · exact .inr ⟨by omega, by omega⟩

theorem rampToward_legal {c : Settings} {target a : Nat} (ht : LegalRate c.rMin target) (ha : LegalRate c.rMin a) :
    LegalRate c.rMin (rampToward c target a) := by
  unfold rampToward
  split
  · exact raiseOutput_legal ht ha ‹_›
  · split
    exacts [lowerOutput_legal ht ha ‹_›, ha]

theorem rampOutput_legal {s : State} (hr : LegalRate s.settings.rMin s.drive.setpoint)
    (ha : LegalRate s.settings.rMin s.drive.output) : LegalRate s.settings.rMin (rampOutput s) := by
  unfold rampOutput
  split
  exacts [rampToward_legal hr ha, rampToward_legal (.inl rfl) ha, ha, ha]

theorem rMin_le_of_settingsInRange {c : Settings} (h : settingsInRange c = true) : c.rMin ≤ 1000 := by
  simp only [settingsInRange, Bool.and_eq_true, within_iff] at h
  omega

theorem trimFloor_le_of_settingsInRange {c : Settings} (h : settingsInRange c = true) : c.trimFloor ≤ 1000 := by
  simp only [settingsInRange, Bool.and_eq_true, within_iff] at h
  omega

/-- The rate after the minimum is legal (R67, R68). -/
theorem minimumRate_legal {c : Settings} {raw : Nat} (capped : Nat) (hmin : c.rMin ≤ 1000) (hraw : raw ≤ 1000) :
    LegalRate c.rMin (minimumRate c capped raw).1 := by
  unfold minimumRate
  split
  · exact .inl rfl
  · split
    · split
      exacts [.inl rfl, .inr ⟨le_refl _, hmin⟩]
    · exact .inr ⟨Nat.le_of_not_lt ‹_›, hraw⟩

/-- The cavity guard chooses among 0, the rate and the output (R69). -/
theorem cavityGuard_legal {c : Settings} {rate output : Nat} (cavity : Nat) (hrate : LegalRate c.rMin rate)
    (hout : LegalRate c.rMin output) : LegalRate c.rMin (cavityGuard c cavity output rate).1 := by
  unfold cavityGuard
  split
  · exact .inl rfl
  · split
    · unfold LegalRate
      omega
    · exact hrate

/-- The rate of a computation is legal where the output is (R67 to R69, R82). -/
theorem shareRecordOf_rate_legal {s : State} (hrange : settingsInRange s.settings = true)
    (ha : LegalRate s.settings.rMin s.drive.output) : LegalRate s.settings.rMin (shareRecordOf s).rate :=
  cavityGuard_legal _ (minimumRate_legal _ (rMin_le_of_settingsInRange hrange) (Nat.min_le_left _ _)) ha

/-! ### The feeder's invariant (R82, R85, R87) -/

/-- A setpoint or an output that stays or becomes 0 stays legal. -/
theorem LegalRate.of_eases {rMin a b : Nat} (h : LegalRate rMin a) (hb : b = a ∨ b = 0) : LegalRate rMin b := by
  rcases hb with rfl | rfl
  exacts [h, .inl rfl]

/-- Of the rates of a safe feeder a ramp interval moves the output and a computation the setpoint, each to a legal rate, and every
other command leaves them or sets them to 0. -/
theorem exec_legal {c : Instr} {s t : State} (h : exec c s = .next t) (hs : FeederSafe s) (hr : c ≠ .reset) :
    LegalRate s.settings.rMin t.drive.output ∧ LegalRate s.settings.rMin t.drive.setpoint := by
  obtain ⟨hrange, -, hout, hset, -⟩ := hs
  have hsetpoint := fun hc => hset.of_eases (exec_setpoint h hr hc)
  have houtput := fun hc => hout.of_eases (exec_output h hr hc)
  cases c with
  | rampInterval =>
    refine ⟨?_, hsetpoint nofun⟩
    cases h
    split
    · rw [rampInterval_eq]
      exact rampOutput_legal hset hout
    · exact hout
  | sharePeriodExpiry =>
    refine ⟨houtput nofun, ?_⟩
    cases h
    split
    · next hactive =>
      unfold shareComputation
      dsimp only
      split
      exacts [shareRecordOf_rate_legal (hrange hactive) hout, hset]
    · exact hset
  | _ => exact ⟨houtput nofun, hsetpoint nofun⟩

/-- Only RESET leaves an active station inactive. -/
theorem inactive_of_exec_inactive {c : Instr} {s t : State} (h : exec c s = .next t) (hr : c ≠ .reset)
    (ht : t.active = false) : s.active = false := by
  by_contra hon
  exact Bool.false_ne_true (ht.symm.trans (exec_active h hr (by simpa using hon)))

/-- A command that finds the station inactive finds output and setpoint at 0, and leaves them there. -/
theorem exec_rest {c : Instr} {s t : State} (h : exec c s = .next t) (hs : FeederSafe s) (hr : c ≠ .reset)
    (hoff : s.active = false) : t.drive.output = 0 ∧ t.drive.setpoint = 0 := by
  obtain ⟨-, hrest, -⟩ := hs
  obtain ⟨hout, hset⟩ := hrest hoff
  have hon : ¬ s.active = true := by simp [hoff]
  cases c with
  | rampInterval | sharePeriodExpiry =>
    cases h
    rw [if_neg hon]
    exact ⟨hout, hset⟩
  | _ =>
    have houtput := exec_output h hr nofun
    have hsetpoint := exec_setpoint h hr nofun
    rw [hout, or_self] at houtput
    rw [hset, or_self] at hsetpoint
    exact ⟨houtput, hsetpoint⟩

theorem reset_feederSafe {s t : State} (h : exec .reset s = .next t) : FeederSafe t := by
  cases h
  exact ⟨nofun, fun _ => ⟨rfl, rfl⟩, .inl rfl, .inl rfl, fun _ => rfl⟩

theorem exec_feederSafe {c : Instr} {s t : State} (h : exec c s = .next t) (hs : FeederSafe s) : FeederSafe t := by
  by_cases hr : c = .reset
  · exact reset_feederSafe (hr ▸ h)
  have hlegal : LegalRate t.settings.rMin t.drive.output ∧ LegalRate t.settings.rMin t.drive.setpoint := by
    cases c with
    | startSequenceEnd straps memory =>
      by_cases hstart : s.run.state = .starting
      · have hrest := exec_rest h hs hr (RunState.inactive_iff.2 (.inl hstart))
        exact ⟨.inl hrest.1, .inl hrest.2⟩
      · cases execStartSequenceEnd_of_started hstart h
        exact exec_legal h hs hr
    | _ =>
      rw [(exec_settings h hr nofun).1]
      exact exec_legal h hs hr
  have hrest : t.active = false → t.drive.output = 0 ∧ t.drive.setpoint = 0 := fun hoff =>
    exec_rest h hs hr (inactive_of_exec_inactive h hr hoff)
  obtain ⟨hrange, -, -, -, hzero⟩ := hs
  exact ⟨exec_settingsInRange h hrange, hrest, hlegal.1, hlegal.2, (exec_feed h hr).output hzero⟩

/-! ### Capacity and trim factor (R56, R73) -/

theorem exec_capacitySafe {c : Instr} {s t : State} (h : exec c s = .next t) (hs : CapacitySafe s) : CapacitySafe t := by
  by_cases hr : c = .reset
  · subst hr
    cases h
    exact fun _ => rfl
  · exact (exec_feed h hr).capacity hs

/-- Stage 0 keeps the trim factor between the trim floor and 1000, and at 1000 without a budget (R76, R77). -/
theorem trimUpdate_bounds {c : Settings} {q : Nat} (sum : Nat) (hfloor : c.trimFloor ≤ 1000) (hlow : c.trimFloor ≤ q)
    (hhigh : q ≤ 1000) : c.trimFloor ≤ trimUpdate c q sum ∧ trimUpdate c q sum ≤ 1000 := by
  unfold trimUpdate
  split
  · exact ⟨hfloor, le_refl _⟩
  · split
    · next hover =>
      have hquotient : q * c.powerBudget / sum ≤ q := Nat.div_le_of_le_mul (by
        rw [Nat.mul_comm]
        exact Nat.mul_le_mul_right q hover.le)
      exact ⟨Nat.le_max_left _ _, Nat.max_le.2 ⟨hfloor, hquotient.trans hhigh⟩⟩
    · split
      · exact ⟨Nat.le_min.2 ⟨hfloor, Nat.le_add_right_of_le hlow⟩, Nat.min_le_left _ _⟩
      · exact ⟨hlow, hhigh⟩

/-- `TrimSafe` asks of the settings and the trim factor alone while the station is active. -/
theorem TrimSafe.of_same {s t : State} (h : TrimSafe s) (hset : t.settings = s.settings) (htrim : t.share.trim = s.share.trim)
    (hactive : t.active = s.active) : TrimSafe t := by
  rwa [TrimSafe, hset, htrim, hactive]

/-- A trim factor of 1000 is within its bounds in every valid configuration. -/
theorem TrimSafe.of_full {s : State} (hrange : s.active = true → settingsInRange s.settings = true)
    (htrim : s.share.trim = 1000) : TrimSafe s :=
  ⟨hrange, fun _ => htrim, fun h => ⟨htrim ▸ trimFloor_le_of_settingsInRange (hrange h), htrim.le⟩, fun _ _ => htrim⟩

theorem shareComputation_trimSafe {s : State} (h : TrimSafe s) (hactive : s.active = true) :
    TrimSafe (shareComputation s) := by
  obtain ⟨hrange, -, hbounds, -⟩ := h
  obtain ⟨hlow, hhigh⟩ := hbounds hactive
  refine ⟨hrange, fun hoff => absurd hactive (ne_of_eq_of_ne hoff Bool.false_ne_true), fun _ => ?_, fun _ hbudget => ?_⟩
  · exact trimUpdate_bounds _ (trimFloor_le_of_settingsInRange (hrange hactive)) hlow hhigh
  · exact trimUpdate_of_noBudget hbudget _ _

theorem exec_trimSafe {c : Instr} {s t : State} (h : exec c s = .next t) (hs : TrimSafe s) : TrimSafe t := by
  have ⟨hvalid, hfull, _⟩ := hs
  have hrange := exec_settingsInRange h hvalid
  by_cases hr : c = .reset
  · subst hr
    refine .of_full hrange ?_
    cases h
    rfl
  by_cases hoff : s.active = false
  · have htrim : t.share.trim = s.share.trim := by
      by_cases hc : c = .sharePeriodExpiry
      · subst hc
        cases h
        rw [if_neg (by simp [hoff])]
      · exact (exec_share h hr hc).2.1
    exact .of_full hrange (htrim.trans (hfull hoff))
  have hon : s.active = true := by simpa using hoff
  have hactive : t.active = s.active := (exec_active h hr hon).trans hon.symm
  cases c with
  | sharePeriodExpiry =>
    cases (execSharePeriodExpiry_of_active hon).symm.trans h
    exact shareComputation_trimSafe hs hon
  | startSequenceEnd straps memory =>
    cases execStartSequenceEnd_of_started (fun hstart => hoff (RunState.inactive_iff.2 (.inl hstart))) h
    exact hs
  | _ => exact hs.of_same (exec_settings h hr nofun).1 (exec_share h hr nofun).2.1 hactive

/-! ### A millisecond (log entry 2), and the statement -/

@[simp] theorem tick_gapState (s : State) : (tick s).gapState = s.gapState := by
  show (s.gap.activity.tick s.monitor.positionValid).state = s.gap.activity.state
  cases s.gap.activity with
  | moving | calibrating | recovering =>
    simp only [Activity.tick]
    split <;> rfl
  | holding | stuck | relieved => rfl

theorem tick_feed (s : State) : KeepsFeed s (tick s) :=
  .of_same (congrArg (fun g => (s.run.state, g, s.drive.output, s.share.capacity)) (tick_gapState s))

theorem tick_feederSafe {s : State} (h : FeederSafe s) : FeederSafe (tick s) := by
  obtain ⟨hrange, hrest, hout, hset, hzero⟩ := h
  exact ⟨hrange, hrest, hout, hset, (tick_feed s).output hzero⟩

/-- Settles O29: a millisecond keeps the three invariants, and so does every command (`exec_feederSafe`, `exec_capacitySafe`,
`exec_trimSafe`). -/
theorem feedingStaysSafe : Obligations.FeedingStaysSafe := by
  unfold Obligations.FeedingStaysSafe
  intro s t h
  unfold step at h
  split at h
  · cases h
    exact ⟨tick_feederSafe, (tick_feed s).capacity, id⟩
  · next c rest _ =>
    exact ⟨exec_feederSafe (s := { s with pending := rest }) h, exec_capacitySafe (s := { s with pending := rest }) h,
      exec_trimSafe (s := { s with pending := rest }) h⟩

end Sys2Proof.Machine

/-! ## The working setpoint, the load history and the jump window stay consistent (O30) -/

namespace Sys2Proof.Machine

/-! ### What the three invariants read -/

/-- The fields that working window, load history and jump window are judged by. -/
def State.setting (s : State) : Settings × Reference × Nat × Nat × Nat × List LoadClass × List (Nat × Nat) × Activity ×
    RunState × Bool :=
  (s.settings, s.gap.reference, s.gap.target, s.gap.span, s.gap.setpoint, s.gap.history, s.gap.jumpWindow, s.gap.activity,
    s.run.state, s.monitor.position.isSome)

/-- G_t lies within the gap limits (R94). -/
def TargetOrder (s : State) : Prop := s.settings.gapMin ≤ s.gap.target ∧ s.gap.target ≤ s.settings.gapMax

/-- W lies within the working window (R96, R97). -/
def WindowOrder (s : State) : Prop :=
  TargetOrder s ∧ windowLower s.settings s.gap.reference s.gap.target s.gap.span ≤ s.gap.setpoint ∧
    s.gap.setpoint ≤ windowUpper s.settings s.gap.reference s.gap.target s.gap.span

/-- At most 16 classes are held, none out of RUNNING (R107, R108). -/
def HistoryOrder (s : State) : Prop := s.gap.history.length ≤ 16 ∧ (s.run.state ≠ .running → s.gap.history = [])

/-- The jump window holds no gap before the station is active, while G is absent and while OPEN is asked for (R133). -/
def JumpOrder (s : State) : Prop :=
  (s.active = false → s.gap.jumpWindow = []) ∧ (s.gapEstimate = none → s.gap.jumpWindow = []) ∧
    (s.gap.activity.asks = .opening → s.gap.jumpWindow = [])

theorem historySafe_iff (s : State) : HistorySafe s ↔ HistoryOrder s ∧ JumpOrder s := and_assoc.symm

/-- What the operations keep of load history and jump window, and of G_t. -/
structure KeepsTarget (s t : State) : Prop where
  target  : WindowOrder s → TargetOrder t
  history : HistoryOrder s → HistoryOrder t
  jumps   : JumpOrder s → JumpOrder t

/-- They keep W within its window as well. -/
structure KeepsWindow (s t : State) : Prop extends KeepsTarget s t where
  window : WindowOrder s → WindowOrder t

@[refl] theorem KeepsWindow.refl (s : State) : KeepsWindow s s := ⟨⟨And.left, id, id⟩, id⟩

theorem KeepsWindow.trans {s t u : State} (h : KeepsWindow s t) (h' : KeepsWindow t u) : KeepsWindow s u :=
  ⟨⟨h'.target ∘ h.window, h'.history ∘ h.history, h'.jumps ∘ h.jumps⟩, h'.window ∘ h.window⟩

theorem gapEstimate_eq_none (s : State) :
    s.gapEstimate = none ↔ s.gap.reference.contact? = none ∨ s.monitor.position.isSome = false := by
  unfold State.gapEstimate
  cases s.gap.reference.contact? <;> cases s.monitor.position <;> simp

/-- The four predicates of a state with the same fields. -/
theorem orders_of_setting {s t : State} (he : t.setting = s.setting) :
    (TargetOrder t ↔ TargetOrder s) ∧ (WindowOrder t ↔ WindowOrder s) ∧ (HistoryOrder t ↔ HistoryOrder s) ∧
      (JumpOrder t ↔ JumpOrder s) := by
  simp only [State.setting, Prod.mk.injEq] at he
  obtain ⟨hset, href, htarget, hspan, hw, hhist, hjump, hact, hrun, hpos⟩ := he
  refine ⟨?_, ?_, ?_, ?_⟩
  · rw [TargetOrder, TargetOrder, hset, htarget]
  · rw [WindowOrder, WindowOrder, TargetOrder, TargetOrder, hset, href, htarget, hspan, hw]
  · rw [HistoryOrder, HistoryOrder, hhist, hrun]
  · rw [JumpOrder, JumpOrder, gapEstimate_eq_none, gapEstimate_eq_none, State.active, State.active, hjump, hact, hrun, href,
      hpos]

/-- A write to other fields. -/
theorem KeepsTarget.plain {s t u : State} (h : KeepsTarget s t) (he : u.setting = t.setting) : KeepsTarget s u := by
  obtain ⟨htarget, -, hhistory, hjumps⟩ := orders_of_setting he
  exact ⟨htarget.2 ∘ h.target, hhistory.2 ∘ h.history, hjumps.2 ∘ h.jumps⟩

theorem KeepsWindow.plain {s t u : State} (h : KeepsWindow s t) (he : u.setting = t.setting) : KeepsWindow s u :=
  ⟨h.toKeepsTarget.plain he, (orders_of_setting he).2.1.2 ∘ h.window⟩

theorem KeepsWindow.of_same {s t : State} (he : t.setting = s.setting) : KeepsWindow s t := (KeepsWindow.refl s).plain he

/-! ### W (R97) -/

/-- With G_t within the gap limits every value is held within the window. -/
theorem TargetOrder.held {s : State} (h : TargetOrder s) (w : Nat) :
    WindowOrder { s with gap.setpoint := s.heldInWindow w } :=
  ⟨h, heldInWindow_mem w (windowLower_le_upper (h.1.trans h.2) h.1 h.2)⟩

theorem setAfresh_window {s t : State} (h : KeepsTarget s t) : KeepsWindow s (setAfresh t) :=
  ⟨⟨h.target, fun _ => ⟨Nat.zero_le _, fun _ => rfl⟩, h.jumps⟩, fun hs => (h.target hs).held t.gap.target⟩

theorem holdW_window {s t : State} (h : KeepsTarget s t) : KeepsWindow s (holdW t) := by
  unfold holdW
  split
  · next he =>
    refine ⟨h, fun hs => ?_⟩
    have hheld := (h.target hs).held t.gap.setpoint
    rwa [he] at hheld
  · exact ⟨⟨h.target, h.history, h.jumps⟩, fun hs => (h.target hs).held t.gap.setpoint⟩

theorem restW_window {s t : State} (h : KeepsWindow s t) : KeepsWindow s (restW t) := by
  unfold restW
  split
  · next g _ => exact ⟨⟨h.target, h.history, h.jumps⟩, fun hs => (h.target hs).held g⟩
  · exact h.plain rfl

/-! ### Activity and run state (R98, R108, R133) -/

/-- A new activity that asks for OPEN empties the jump window. -/
theorem emptyJumpIfOpening_window {s t u : State} {act : Activity} (h : KeepsWindow s t)
    (he : u.setting = ({ t with gap.activity := act } : State).setting) : KeepsWindow s (emptyJumpIfOpening u) := by
  obtain ⟨htarget, hwindow, hhistory, hjumps⟩ := orders_of_setting he
  unfold emptyJumpIfOpening
  split
  · exact ⟨⟨fun hs => htarget.2 (h.target hs), fun hs => hhistory.2 (h.history hs), fun _ => ⟨fun _ => rfl, fun _ => rfl,
      fun _ => rfl⟩⟩, fun hs => hwindow.2 (h.window hs)⟩
  · next hasks =>
    refine ⟨⟨fun hs => htarget.2 (h.target hs), fun hs => hhistory.2 (h.history hs), fun hs => ?_⟩,
      fun hs => hwindow.2 (h.window hs)⟩
    obtain ⟨hidle, habsent, -⟩ := h.jumps hs
    have hact : u.gap.activity = act := (congrArg (fun x => x.2.2.2.2.2.2.2.1) he :)
    exact hjumps.2 ⟨hidle, habsent, fun hopen => absurd (hact ▸ hopen) hasks⟩

theorem updateActivity_window {s t : State} (act : Activity) (h : KeepsWindow s t) : KeepsWindow s (updateActivity act t) :=
  emptyJumpIfOpening_window h rfl

theorem zeroed_dropped_setting (s : State) : (zeroIfZeroed (dropCapacity s)).setting = s.setting := by
  rw [zeroIfZeroed_frame, dropCapacity_frame]
  rfl

theorem setActivity_window {s t : State} (act : Activity) (h : KeepsWindow s t) : KeepsWindow s (setActivity act t) := by
  unfold setActivity
  extract_lets u
  have hu : KeepsWindow s u := by
    unfold u
    split
    exacts [setAfresh_window h.toKeepsTarget, h]
  exact emptyJumpIfOpening_window hu (zeroed_dropped_setting _)

/-- A change of the run state keeps the history out of RUNNING empty (R108); a station stays active. -/
theorem changeRun_window {s t : State} {r : RunState} (hr : r.active = true) (h : KeepsWindow s t) :
    KeepsWindow s (changeRun r t) := by
  have hactive : (changeRun r t).active = true := changeRun_active hr t
  rw [changeRun_frame] at hactive ⊢
  refine ⟨⟨h.target, fun hs => ?_, fun hs => ?_⟩, h.window⟩
  · obtain ⟨hlength, hout⟩ := h.history hs
    by_cases hrunning : t.run.state = .running
    · exact ⟨by simp [hrunning], fun _ => if_pos hrunning⟩
    · exact ⟨by simpa [hrunning] using hlength, fun _ => by simp [hrunning, hout hrunning]⟩
  · obtain ⟨-, habsent, hopen⟩ := h.jumps hs
    exact ⟨fun hoff => Bool.noConfusion (hactive.symm.trans hoff), habsent, hopen⟩

/-! ### Queue, trips and faults -/

theorem endActive_window {s t : State} (o : AnswerOutcome) (h : KeepsWindow s t) : KeepsWindow s (endActive o t) := by
  rw [endActive_frame]
  exact h.plain rfl

theorem endActiveOf_window {s t : State} (k : QueuedKind) (o : AnswerOutcome) (h : KeepsWindow s t) :
    KeepsWindow s (endActiveOf k o t) := by
  rw [endActiveOf_frame]
  exact h.plain rfl

theorem trip_window {s t : State} (h : KeepsWindow s t) : KeepsWindow s (trip t) := by
  have hflush : KeepsWindow s (flushQueue t) := h.plain rfl
  refine changeRun_window rfl ?_
  unfold endForTrip
  split
  exacts [setActivity_window _ hflush, setActivity_window _ hflush, hflush]

theorem report_window {s t : State} (k : FaultKind) (trips : Bool) (h : KeepsWindow s t) :
    KeepsWindow s (report k trips t) := by
  unfold report
  split
  exacts [trip_window (h.plain rfl), h.plain rfl]

theorem enterRun_window {s t : State} {r : RunState} (hr : r.active = true) (h : KeepsWindow s t) :
    KeepsWindow s (enterRun r t) := by
  unfold enterRun
  split
  exacts [report_window _ _ (changeRun_window hr h), changeRun_window hr h]

/-! ### Moves, arrivals, calibrations and records -/

theorem endSetGapReached_window {s t : State} (h : KeepsWindow s t) : KeepsWindow s (endSetGapReached t) := by
  rw [endSetGapReached_frame]
  exact h.plain rfl

theorem arrive_window {s t : State} (h : KeepsWindow s t) : KeepsWindow s (arrive t) := setActivity_window _ (h.plain rfl)

theorem moveCrossing_window {s t : State} (h : KeepsWindow s t) : KeepsWindow s (moveCrossing t) := by
  unfold moveCrossing
  split
  · split
    exacts [endSetGapReached_window (arrive_window h), h]
  · exact h

theorem backingArrival_window {s t : State} (h : KeepsWindow s t) : KeepsWindow s (backingArrival t) := by
  unfold backingArrival
  split
  · split
    · split
      exacts [endActiveOf_window _ _ (arrive_window h), h]
    · exact h
  · exact h

theorem reclosingArrival_window {s t : State} (h : KeepsWindow s t) : KeepsWindow s (reclosingArrival t) := by
  unfold reclosingArrival
  split
  · split
    exacts [arrive_window h, h]
  · exact h

theorem testW_window {s t : State} (h : KeepsWindow s t) : KeepsWindow s (testW t) := by
  unfold testW
  split
  exacts [moveCrossing_window h, backingArrival_window h, reclosingArrival_window h, h]

theorem targetChanged_window {s t : State} (h : KeepsTarget s t) : KeepsWindow s (targetChanged t) := by
  refine testW_window ?_
  split
  exacts [holdW_window h, setAfresh_window h]

theorem reversalTest_window {s t : State} (h : KeepsWindow s t) : KeepsWindow s (reversalTest t) := by
  unfold reversalTest
  split
  · split
    exacts [updateActivity_window _ h, h]
  · exact h

theorem wearChanged_window {s t : State} (h : KeepsWindow s t) : KeepsWindow s (wearChanged t) := by
  unfold wearChanged
  split
  exacts [reversalTest_window (moveCrossing_window h), h]

theorem moveTest_window {s t : State} (h : KeepsWindow s t) : KeepsWindow s (moveTest t) := by
  unfold moveTest
  split
  · split
    exacts [setActivity_window _ h, h]
  · exact h

theorem internalCalibrationTest_window {s t : State} (h : KeepsWindow s t) : KeepsWindow s (internalCalibrationTest t) := by
  unfold internalCalibrationTest
  split
  exacts [setActivity_window _ h, h]

theorem startRequestedCalibration_window {s t : State} (h : KeepsWindow s t) :
    KeepsWindow s (startRequestedCalibration t) := by
  unfold startRequestedCalibration
  split
  exacts [setActivity_window _ h, endActive_window _ h]

theorem primingTest_window {s t : State} (h : KeepsWindow s t) : KeepsWindow s (primingTest t) := by
  unfold primingTest
  split
  exacts [enterRun_window rfl h, h]

theorem requestRecord_window {s t : State} (h : KeepsWindow s t) : KeepsWindow s (requestRecord t) := by
  rw [requestRecord_frame]
  exact h.plain rfl

theorem startPending_window {s t : State} (h : KeepsWindow s t) : KeepsWindow s (startPending t) := by
  rw [startPending_frame]
  exact h.plain rfl

theorem finishStopping_window {s t : State} (h : KeepsWindow s t) : KeepsWindow s (finishStopping t) :=
  requestRecord_window (changeRun_window rfl h)

/-- A new reference empties the jump window and holds W within the new window (R97, R133). -/
theorem setReference_window {s t : State} (r : Reference) (h : KeepsWindow s t) : KeepsWindow s (setReference r t) := by
  unfold setReference
  extract_lets _ u v
  have hset : KeepsTarget s { t with gap.reference := r, gap.jumpWindow := [] } :=
    ⟨h.target, h.history, fun _ => ⟨fun _ => rfl, fun _ => rfl, fun _ => rfl⟩⟩
  have hu : KeepsWindow s u := holdW_window hset
  have hv : KeepsWindow s v := by
    unfold v
    split
    exacts [setActivity_window _ hu, hu]
  split
  · exact hu
  · split
    exacts [changeRun_window rfl hv, hv]

theorem contact_window {s t : State} (k : CalKind) (p : Nat) (h : KeepsWindow s t) : KeepsWindow s (contact k p t) := by
  have htaken : KeepsWindow s (contactTaken p t) := requestRecord_window (setReference_window _ (h.plain rfl))
  rw [contact_eq]
  exact updateActivity_window _ (htaken.plain rfl)

/-! ### The arrivals of a demand, the start of the queue's head and the end of an event -/

theorem flagDropped_window {s t : State} (h : KeepsWindow s t) : KeepsWindow s (flagDropped t) := by
  unfold flagDropped
  split
  exacts [updateActivity_window _ h, h]

/-- A gap target is clamped into the gap limits (R94). -/
theorem clamped_window {s t : State} (n : Nat) (h : KeepsWindow s t) :
    KeepsTarget s { t with gap.target := clampGap t.settings n } :=
  ⟨fun hs => clampGap_mem n ((h.target hs).1.trans (h.target hs).2), h.history, h.jumps⟩

theorem gapTargetArrives_window {s t : State} (n : Nat) (h : KeepsWindow s t) : KeepsWindow s (gapTargetArrives n t) := by
  rw [gapTargetArrives_eq]
  exact targetChanged_window (clamped_window n (flagDropped_window (endActiveOf_window _ _ h)))

theorem spanArrives_window {s t : State} (n : Nat) (h : KeepsWindow s t) : KeepsWindow s (spanArrives n t) := by
  unfold spanArrives
  split
  exacts [h, targetChanged_window ⟨h.target, h.history, h.jumps⟩]

theorem startSetGap_window {s t : State} (e : Entry) (h : KeepsWindow s t) : KeepsWindow s (startSetGap e t) := by
  unfold startSetGap
  split
  · exact endActive_window _ h
  · split
    · have hend := endActive_window (.stopped .stall) h
      rw [endActive_frame] at hend ⊢
      exact holdW_window (clamped_window _ hend)
    · have hset : KeepsWindow s (setAfresh { t with gap.target := clampGap t.settings (e.argument.getD 0) }) :=
        setAfresh_window (clamped_window _ h)
      dsimp only
      split
      exacts [endActive_window _ hset, hset.plain rfl]

theorem startLinerChange_window {s t : State} (h : KeepsWindow s t) : KeepsWindow s (startLinerChange t) :=
  requestRecord_window (setReference_window _ (h.plain rfl))

theorem startHead_window {s t : State} (h : KeepsWindow s t) : KeepsWindow s (startHead t) := by
  unfold startHead
  split
  · exact h
  · have h' : KeepsWindow s { t with queue := activateHead t.queue } := h.plain rfl
    dsimp only
    split
    exacts [startSetGap_window _ h', startRequestedCalibration_window h', startLinerChange_window h']

theorem startHeads_window (n : Nat) {s t : State} (h : KeepsWindow s t) : KeepsWindow s (startHeads n t) := by
  induction n generalizing t with
  | zero => exact h
  | succ n ih =>
    unfold startHeads
    split
    exacts [ih (startHead_window h), h]

theorem settle_window {s t : State} (h : KeepsWindow s t) : KeepsWindow s (settle t) :=
  primingTest_window (moveTest_window (internalCalibrationTest_window (startHeads_window _ h)))

end Sys2Proof.Machine

namespace Sys2Proof.Machine

/-! ### Readings and window close -/

/-- A break writes its input's validity state and reports. -/
theorem breakInput_window {s t u : State} {c : Prop} [Decidable c] (k : FaultKind) (trips : Bool) (h : KeepsWindow s t)
    (he : u.setting = t.setting) : KeepsWindow s (if c then report k trips u else t) := by
  split
  exacts [report_window _ _ (h.plain he), h]

theorem breakChecks_window {s t : State} (r : Readings) (h : KeepsWindow s t) : KeepsWindow s (breakChecks r t) := by
  have hpower : ∀ ok u, KeepsWindow s u → KeepsWindow s (breakPower ok u) := fun _ _ h => breakInput_window _ _ h rfl
  have hpressure : ∀ ok u, KeepsWindow s u → KeepsWindow s (breakPressure ok u) := fun _ _ h => breakInput_window _ _ h rfl
  have hcavity : ∀ ok u, KeepsWindow s u → KeepsWindow s (breakCavity ok u) := fun _ _ h => breakInput_window _ _ h rfl
  have hpile : ∀ ok u, KeepsWindow s u → KeepsWindow s (breakPile ok u) := fun _ _ h => breakInput_window _ _ h rfl
  have hposition : ∀ ok u, KeepsWindow s u → KeepsWindow s (breakPosition ok u) := fun _ _ h => breakInput_window _ _ h rfl
  exact hposition _ _ (hpile _ _ (hcavity _ _ (hpressure _ _ (hpower _ _ h))))

/-- A position read before stays read (R3). -/
theorem notePosition_window {s t : State} (p : Option Nat) (h : KeepsWindow s t) : KeepsWindow s (notePosition p t) := by
  refine ⟨⟨h.target, h.history, fun hs => ?_⟩, h.window⟩
  obtain ⟨hidle, habsent, hopen⟩ := h.jumps hs
  refine ⟨hidle, fun hnone => habsent ?_, hopen⟩
  rw [gapEstimate_eq_none] at hnone ⊢
  refine hnone.imp id fun hp => ?_
  cases p with
  | none => exact hp
  | some x => cases hp

theorem sensed_window (r : Readings) (s : State) : KeepsWindow s (sensed r s) := by
  have hread : KeepsWindow s (noteReading r (advanceReadingClock s)) := .of_same rfl
  exact notePosition_window _ (breakChecks_window r hread)

theorem moveReading_window {s t : State} (pressure : Option Nat) (h : KeepsWindow s t) :
    KeepsWindow s (moveReading pressure t) := by
  have hcross := moveCrossing_window h
  unfold moveReading
  dsimp only
  split
  exacts [updateActivity_window _ hcross, hcross]

theorem reclosingReading_window {s t : State} (pressure : Option Nat) (h : KeepsWindow s t) :
    KeepsWindow s (reclosingReading pressure t) := by
  have harrive := reclosingArrival_window h
  unfold reclosingReading
  dsimp only
  split
  exacts [updateActivity_window _ harrive, harrive]

theorem calibrationFails_window {s t : State} (k : CalKind) (h : KeepsWindow s t) : KeepsWindow s (calibrationFails k t) := by
  have hstop : KeepsWindow s (stopCalibration t) := setActivity_window _ h
  cases k with
  | internal => exact report_window _ _ hstop
  | requested => exact endActiveOf_window _ _ (report_window _ _ hstop)

theorem calibrationReading_window {s t : State} (pressure : Option Nat) (c : Calibration) (p : Nat) (h : KeepsWindow s t) :
    KeepsWindow s (calibrationReading pressure c p t) := by
  unfold calibrationReading
  split
  · split
    exacts [updateActivity_window _ h, h]
  · split
    · exact contact_window _ _ h
    · split
      exacts [calibrationFails_window _ h, h]
  · have harrive := backingArrival_window h
    dsimp only
    split
    · split
      exacts [updateActivity_window _ harrive, harrive]
    · exact harrive

theorem activityReading_window {s t : State} (pressure position : Option Nat) (h : KeepsWindow s t) :
    KeepsWindow s (activityReading pressure position t) := by
  unfold activityReading
  split
  · unfold settleReading
    split <;> exact updateActivity_window _ h
  · exact moveReading_window _ h
  · exact reclosingReading_window _ h
  · exact calibrationReading_window _ _ _ h
  · exact h

theorem detectTramp_window {s t : State} (h : KeepsWindow s t) : KeepsWindow s (detectTramp t) := by
  unfold detectTramp
  extract_lets list _ u v w
  have hu : KeepsWindow s u :=
    ⟨⟨h.target, fun _ => ⟨Nat.zero_le _, fun _ => rfl⟩, fun _ => ⟨fun _ => rfl, fun _ => rfl, fun _ => rfl⟩⟩, h.window⟩
  have hw : KeepsWindow s w := setActivity_window _ (endActiveOf_window _ _ (endActiveOf_window _ _ hu))
  split
  exacts [report_window _ _ hw, hw]

/-- What a reading leaves in the jump window: the estimates of the last second, and its own where OPEN is off and G present. -/
theorem jumpAdded_order {s : State} (p : Nat × Nat → Bool) (hactive : s.active = true) (h : JumpOrder s) :
    JumpOrder { s with gap.jumpWindow := match s.jumpCandidate with
      | some g => s.gap.jumpWindow.filter p ++ [(s.gap.readingClock.getD 0, g)]
      | none => s.gap.jumpWindow.filter p } := by
  obtain ⟨-, habsent, hopen⟩ := h
  refine ⟨fun hoff => absurd hactive (Bool.eq_false_iff.1 hoff), fun hnone => ?_, fun hasks => ?_⟩
  · have hnil := habsent hnone
    have hestimate : s.gapEstimate = none := hnone
    simp [State.jumpCandidate, hestimate, hnil]
  · have hnil := hopen hasks
    have hnone : s.jumpCandidate = none := if_neg fun hc => hc.2 (valve_of_opening hc.1 hasks)
    simp [hnone, hnil]

theorem trampReading_window {s t : State} (pressure : Option Nat) (hactive : t.active = true) (h : KeepsWindow s t) :
    KeepsWindow s (trampReading pressure t) := by
  unfold trampReading
  extract_lets now kept added
  have hadded : KeepsWindow s { t with gap.jumpWindow := added } :=
    ⟨⟨h.target, h.history, fun hs => jumpAdded_order _ hactive (h.jumps hs)⟩, h.window⟩
  split
  · split
    exacts [detectTramp_window h, hadded]
  · split
    · exact ⟨⟨h.target, h.history, fun _ => ⟨fun _ => rfl, fun _ => rfl, fun _ => rfl⟩⟩, h.window⟩
    · exact hadded

theorem estimateTonnage_window {s t : State} (output : Nat) (h : KeepsWindow s t) :
    KeepsWindow s (estimateTonnage output t) := by
  unfold estimateTonnage
  split
  exacts [h.plain rfl, h]

theorem sensed_active (r : Readings) {s : State} (h : s.active = true) : (sensed r s).active = true := by
  rw [State.active, sensed, notePosition_run]
  exact breakChecks_active r (s := noteReading r (advanceReadingClock s)) h

theorem readingEvent_window (r : Readings) {s : State} (ha : s.active = true) : KeepsWindow s (readingEvent r s) := by
  rw [readingEvent_eq]
  exact settle_window (wearChanged_window (estimateTonnage_window _ (trampReading_window _
    (activityReading_active _ _ (sensed_active r ha)) (activityReading_window _ _ (sensed_window r s)))))

/-- A step decision keeps W between the bounds that it takes it toward (R109, R110). -/
theorem stepDecision_window {s t : State} (h : KeepsWindow s t) : KeepsWindow s (stepDecision t) := by
  have hstep : ∀ w, (WindowOrder t → windowLower t.settings t.gap.reference t.gap.target t.gap.span ≤ w ∧
      w ≤ windowUpper t.settings t.gap.reference t.gap.target t.gap.span) →
      KeepsWindow s { setW w t with gap.history := [] } := fun w hw =>
    ⟨⟨h.target, fun _ => ⟨Nat.zero_le _, fun _ => rfl⟩, h.jumps⟩, fun hs => ⟨h.target hs, hw (h.window hs)⟩⟩
  unfold stepDecision
  split
  · split
    · exact hstep _ fun ⟨_, hlow, hhigh⟩ => by omega
    · split
      · exact hstep _ fun ⟨_, hlow, hhigh⟩ => by omega
      · exact h
  · exact h

theorem historyTakes_window {s t : State} (l : LoadSample) (h : KeepsWindow s t) : KeepsWindow s (historyTakes l t) := by
  unfold historyTakes
  split
  · next hrun =>
    refine stepDecision_window ⟨⟨h.target, fun _ => ⟨?_, fun hne => absurd hrun.1 hne⟩, h.jumps⟩, h.window⟩
    simp only [pushClass, List.length_take]
    exact Nat.min_le_left _ _
  · exact h

theorem windowClose_window (s : State) : KeepsWindow s (windowClose s) := by
  have hopen : KeepsWindow s (reopened s) := .of_same rfl
  have hhistory := historyTakes_window (closingSample s) hopen
  rw [windowClose_eq]
  refine settle_window ?_
  unfold clearTakes
  split
  exacts [finishStopping_window hhistory, hhistory]

end Sys2Proof.Machine

namespace Sys2Proof.Machine

/-! ### Demands and requests -/

theorem storeDemand_window (p : DemandPayload) (s : State) : KeepsWindow s (storeDemand p s) := by
  have hseq : KeepsWindow s (sequenceStored p s) := .of_same rfl
  have hgap : KeepsWindow s (gapStored p (sequenceStored p s)) := by
    unfold gapStored
    split
    · split
      exacts [gapTargetArrives_window _ hseq, hseq]
    · exact hseq
  rw [storeDemand_eq]
  unfold spanStored
  split
  · split
    exacts [spanArrives_window _ hgap, hgap]
  · exact hgap

theorem actRun_window {s t : State} (h : KeepsWindow s t) : KeepsWindow s (actRun t) := by
  have hbegin : KeepsWindow s (beginRun t) := by
    unfold beginRun
    split
    exacts [enterRun_window rfl h, changeRun_window rfl h]
  unfold actRun
  split
  exacts [hbegin, hbegin, h]

theorem actStop_window {s t : State} (h : KeepsWindow s t) : KeepsWindow s (actStop t) := by
  have hbegin : KeepsWindow s (beginStop t) := enterRun_window rfl h
  unfold actStop
  split
  · exact hbegin
  · exact hbegin
  · unfold abortInternal
    split
    · split
      exacts [setActivity_window _ hbegin, hbegin]
    · exact hbegin
  · exact h

theorem actDemand_window (p : DemandPayload) (c : Option Command) (s : State) : KeepsWindow s (actDemand p c s) := by
  have hstore := storeDemand_window p s
  have hact : KeepsWindow s (actCommand c (storeDemand p s)) := by
    unfold actCommand
    split
    exacts [hstore, actRun_window (hstore.plain rfl), actStop_window (hstore.plain rfl)]
  rcases actDemand_cases p c s with h | h <;> rw [h]
  exacts [settle_window hact, hact]

theorem frameEnds_window (s : State) : KeepsWindow s (frameEnds s) := .of_same rfl

theorem takeDemand_window (header : Address) (p : DemandPayload) (c : Option Command) (s : State) :
    KeepsWindow s (takeDemand header p c s) :=
  takeDemand_of (.refl s) (frameEnds_window s) ((frameEnds_window s).trans (actDemand_window p c _))

theorem onRequest_window {header : Address} {act : State → State} {s : State}
    (h : KeepsWindow (frameEnds s) (act (frameEnds s))) : KeepsWindow s (onRequest header act s) :=
  onRequest_of (.refl s) (frameEnds_window s) ((frameEnds_window s).trans h)

theorem enqueue_window (e : Entry) (s : State) : KeepsWindow s (enqueue e s) := by
  rcases enqueue_cases e s with ⟨a, h⟩ | ⟨-, a, h⟩ <;> rw [h]
  exacts [.of_same rfl, settle_window (.of_same rfl)]

theorem cancelActive_window (k : QueuedKind) {s t : State} (h : KeepsWindow s t) : KeepsWindow s (cancelActive k t) := by
  have hend := endActive_window (.stopped .cancelled) h
  cases k with
  | setGap =>
    simp only [cancelActive]
    split
    exacts [restW_window (setActivity_window _ hend), restW_window hend]
  | calibrate =>
    simp only [cancelActive]
    split
    exacts [setActivity_window _ hend, hend]
  | linerChange => exact hend

theorem cancelEntry_window (header : Address) (tag : BitVec 3) (argument : Word) (s : State) :
    KeepsWindow s (cancelEntry header tag argument s) := by
  unfold cancelEntry
  split
  · exact .of_same rfl
  · refine settle_window (KeepsWindow.plain (t := ite _ _ _) ?_ rfl)
    split
    exacts [cancelActive_window _ (.refl s), .of_same rfl]

theorem holdFeed_window (header : Address) (tag : BitVec 3) (s : State) : KeepsWindow s (holdFeed header tag s) := by
  unfold holdFeed
  split
  exacts [KeepsWindow.plain (enterRun_window rfl (.refl s)) rfl, .of_same rfl]

theorem releaseFeed_window (header : Address) (tag : BitVec 3) (s : State) : KeepsWindow s (releaseFeed header tag s) := by
  unfold releaseFeed
  split
  exacts [KeepsWindow.plain (enterRun_window rfl (.refl s)) rfl, .of_same rfl]

theorem clearAccepted_window (s : State) : KeepsWindow s (clearAccepted s) := by
  have hcleared : KeepsWindow s (faultsCleared s) := .of_same rfl
  have hclear : KeepsWindow s (untripped s) := by
    unfold untripped
    split
    exacts [changeRun_window rfl hcleared, hcleared]
  rw [clearAccepted_eq]
  split
  exacts [setActivity_window _ hclear, hclear]

theorem clearFault_window (header : Address) (tag : BitVec 3) (s : State) : KeepsWindow s (clearFault header tag s) := by
  unfold clearFault
  split
  exacts [.of_same rfl, settle_window ((clearAccepted_window s).plain rfl)]

theorem takeStatus_window (source : Nat) (p : StatusPayload) (s : State) : KeepsWindow s (takeStatus source p s) := by
  unfold takeStatus
  split
  · exact .refl s
  · split
    · exact report_window _ _ (.of_same rfl)
    · split
      exacts [.of_same rfl, .refl s]

/-! ### Timers of the Gap Controller and campaigns -/

theorem stickAt_window {s t : State} (h : KeepsWindow s t) : KeepsWindow s (stickAt t) :=
  setActivity_window _ (restW_window (report_window _ _ h))

theorem moveStalls_window (m : Move) (g : Nat) (s : State) : KeepsWindow s (moveStalls m g s) := by
  unfold moveStalls
  split
  · split
    · exact setActivity_window _ (restW_window (endActiveOf_window _ _ (.refl s)))
    · exact reversalTest_window (updateActivity_window _ (.refl s))
  · exact stickAt_window (endActiveOf_window _ _ (.refl s))

theorem stall_window (s : State) : KeepsWindow s (stall s) := by
  unfold stall
  split
  · split
    exacts [.refl s, settle_window (moveStalls_window _ _ s)]
  · split
    exacts [settle_window (stickAt_window (endActiveOf_window _ _ (.refl s))), .refl s]
  · split
    exacts [.refl s, settle_window (stickAt_window (.refl s))]
  · exact .refl s

theorem seekLimitExpires_window (s : State) : KeepsWindow s (seekLimitExpires s) := by
  unfold seekLimitExpires
  split
  · split
    exacts [settle_window (calibrationFails_window _ (.refl s)), .refl s]
  · exact .refl s

theorem pulseOnEnds_window (s : State) : KeepsWindow s (pulseOnEnds s) := by
  unfold pulseOnEnds
  split
  · split
    · split
      exacts [updateActivity_window _ (.refl s), .refl s]
    · exact .refl s
  · exact .refl s

theorem pulseOffEnds_window (s : State) : KeepsWindow s (pulseOffEnds s) := by
  unfold pulseOffEnds
  split
  · split
    · dsimp only
      split
      · exact .refl s
      · split
        exacts [settle_window (contact_window _ _ (.refl s)), updateActivity_window _ (.refl s)]
    · exact .refl s
  · exact .refl s

theorem reliefEnds_window (s : State) : KeepsWindow s (reliefEnds s) := by
  unfold reliefEnds
  split
  · split <;> exact setActivity_window _ (.refl s)
  · exact setActivity_window _ (.refl s)

theorem campaignEnds_window (e : CampaignEnd) (c : Campaign) (s : State) : KeepsWindow s (campaignEnds e c s) := by
  unfold campaignEnds
  extract_lets u v w
  have hu : KeepsWindow s u := .of_same rfl
  have hv : KeepsWindow s v := by
    unfold v
    split
    exacts [report_window _ _ hu, hu]
  have hw : KeepsWindow s w := by
    unfold w linerChangeTakes
    split
    · split
      exacts [endActiveOf_window _ _ hv, hv]
    · exact hv
  exact settle_window (startPending_window (hw.plain rfl))

theorem wordReady_window (c : Campaign) (s : State) : KeepsWindow s (wordReady c s) := by
  unfold wordReady
  split
  · exact campaignEnds_window _ _ _
  · split
    · have hcut : KeepsWindow s (cutShort c s) := by
        rw [cutShort_frame]
        exact .of_same rfl
      exact hcut.trans (campaignEnds_window _ _ _)
    · exact .of_same rfl

/-! ### Every command -/

/-- Every command but RESET and the end of a start sequence keeps the three invariants. -/
theorem exec_window {c : Instr} {s t : State} (h : exec c s = .next t) (hr : c ≠ .reset)
    (hstart : ∀ straps memory, c ≠ .startSequenceEnd straps memory) : KeepsWindow s t := by
  have hends := frameEnds_window s
  cases c with
  | reset => exact absurd rfl hr
  | startSequenceEnd straps memory => exact absurd rfl (hstart straps memory)
  | readingEvent r =>
    cases h
    split
    · next ha => exact readingEvent_window r ha
    · exact .refl s
  | beltScalePulse =>
    cases h
    split
    exacts [settle_window (wearChanged_window (.of_same rfl)), .refl s]
  | windowClose =>
    cases h
    split
    exacts [windowClose_window s, .refl s]
  | statusArrival header own p =>
    cases h
    refine onFrame_of (.refl s) ?_
    split
    exacts [hends.trans (takeStatus_window _ _ _), hends]
  | demand header p | run header p | stop header p =>
    cases h
    exact takeDemand_window _ _ _ s
  | setGap | calibrate | linerChange =>
    cases h
    exact onRequest_window (enqueue_window _ _)
  | cancel header tag argument =>
    cases h
    exact onRequest_window (cancelEntry_window _ _ _ _)
  | holdFeed header tag =>
    cases h
    exact onRequest_window (holdFeed_window _ _ _)
  | releaseFeed header tag =>
    cases h
    exact onRequest_window (releaseFeed_window _ _ _)
  | clearFault header tag =>
    cases h
    exact onRequest_window (clearFault_window _ _ _)
  | queryFault | queryWear | queryShare | queryQueue | badKind =>
    cases h
    exact onRequest_window (.of_same rfl)
  | answerFrameReceived | frameDiscarded =>
    cases h
    exact onFrame_of (.refl s) hends
  | rampInterval =>
    cases h
    split
    · rw [rampInterval_eq]
      exact .of_same rfl
    · exact .refl s
  | motorRunningFall =>
    cases h
    dsimp only
    split
    exacts [report_window _ _ (.of_same rfl), .of_same rfl]
  | motorRunningRise =>
    cases h
    exact internalCalibrationTest_window (.of_same rfl)
  | primingTimerExpiry =>
    cases h
    split
    exacts [report_window _ _ (.of_same rfl), .refl s]
  | clearTimerExpiry =>
    cases h
    split
    exacts [finishStopping_window (.refl s), .refl s]
  | stallTimerExpiry =>
    cases h
    split
    exacts [stall_window s, .refl s]
  | seekLimitExpiry =>
    cases h
    split
    exacts [seekLimitExpires_window s, .refl s]
  | seekPulseOnEnd =>
    cases h
    split
    exacts [pulseOnEnds_window s, .refl s]
  | seekPulseOffEnd =>
    cases h
    split
    exacts [pulseOffEnds_window s, .refl s]
  | settleTimerExpiry =>
    cases h
    split
    · split
      exacts [settle_window (reliefEnds_window s), .refl s]
    · exact .refl s
  | readyTimerExpiry =>
    cases h
    split
    · next c _ =>
      have hgive : KeepsWindow s (giveUpWord c s) := .of_same rfl
      exact hgive.trans (campaignEnds_window _ _ _)
    · exact .refl s
  | wordReady =>
    cases h
    have hfinish : KeepsWindow s { s with memory := s.memory.finish } := .of_same rfl
    dsimp only
    split
    exacts [hfinish.trans (wordReady_window _ _), hfinish]
  | supplyLowRise =>
    cases h
    dsimp only
    split
    exacts [.of_same rfl, report_window _ _ (.of_same rfl)]
  | supplyLowFall =>
    cases h
    exact startPending_window (.of_same rfl)
  | reportTimerExpiry =>
    cases h
    split
    exacts [.refl s, .of_same rfl]
  | ageingEvent | sharePeriodExpiry | transmitAttempt =>
    cases h
    split
    exacts [.of_same rfl, .refl s]
  | frameSent | collision =>
    cases h
    split
    · split
      exacts [.of_same rfl, .refl s]
    · exact .refl s
  | lineIdle =>
    cases h
    exact .of_same rfl

/-! ### The end of the start sequence (R94, R114) -/

theorem gapMin_le_gapMax_of_settingsInRange {c : Settings} (h : settingsInRange c = true) : c.gapMin ≤ c.gapMax := by
  simp only [settingsInRange, Bool.and_eq_true, decide_eq_true_eq] at h
  omega

theorem startTarget_windowOrder {s : State} (h : s.settings.gapMin ≤ s.settings.gapMax) : WindowOrder (startTarget s) :=
  TargetOrder.held (s := { s with gap.target := clampGap s.settings s.settings.startGap }) (clampGap_mem _ h) _

/-- Load history and jump window stand through the start, which sets G_t and W. -/
theorem startConfigured_setting (valid : Bool) (r : WearRecord) (s : State) :
    (startConfigured valid r s).gap.history = s.gap.history ∧
      (startConfigured valid r s).gap.jumpWindow = s.gap.jumpWindow ∧
      (s.settings.gapMin ≤ s.settings.gapMax → WindowOrder (startConfigured valid r s)) := by
  have hfrom : (referenceFromRecord valid r s).gap.history = s.gap.history ∧
      (referenceFromRecord valid r s).gap.jumpWindow = s.gap.jumpWindow := by
    unfold referenceFromRecord
    split <;> exact ⟨rfl, rfl⟩
  have hsettings : (referenceFromRecord valid r s).settings = s.settings := by rw [referenceFromRecord_frame]
  unfold startConfigured
  generalize referenceFromRecord valid r s = u at hfrom hsettings
  rw [← hsettings]
  exact ⟨hfrom.1, hfrom.2, fun h => startTarget_windowOrder h⟩

/-- The verdict leaves load history and jump window as they were, and puts G_t and W in order where the station becomes active. -/
theorem judged_setting (straps : Nat) (m : Memory) (s : State) :
    (judged straps m s).gap.history = s.gap.history ∧ (judged straps m s).gap.jumpWindow = s.gap.jumpWindow ∧
      ((judged straps m s).active = true → WindowOrder (judged straps m s)) := by
  by_cases hvalid : configurationValid straps m.read = true
  · have hrange : settingsInRange (decodeSettings m.read) = true := by
      simp only [configurationValid, Bool.and_eq_true] at hvalid
      exact hvalid.2
    rw [judged_of_valid s hvalid]
    obtain ⟨hhistory, hjumps, hwindow⟩ :=
      startConfigured_setting (wearRecordValid straps m.read) (decodeWearRecord m.read) (readIn straps m s)
    exact ⟨hhistory, hjumps, fun _ => hwindow (gapMin_le_gapMax_of_settingsInRange hrange)⟩
  · rw [judged_of_invalid s (by simpa using hvalid), startUnconfigured_eq]
    exact ⟨rfl, rfl, nofun⟩

/-- The end of a start sequence leaves load history and jump window empty, as STARTING had them, and W in its window. -/
theorem startSequenceEnd_window (straps : Nat) (source : StartMemory) {s : State} (hs : s.run.state = .starting) :
    (HistorySafe s → HistorySafe (startSequenceEnd straps source s)) ∧
      ((startSequenceEnd straps source s).active = true → WindowOrder (startSequenceEnd straps source s)) := by
  obtain ⟨hhistory, hjumps, hwindow⟩ := judged_setting straps (startMemory s.memory source) s
  rw [startSequenceEnd_eq]
  generalize judged straps (startMemory s.memory source) s = u at hhistory hjumps hwindow ⊢
  have hstatus : KeepsWindow u (reportStatus u) := .of_same rfl
  have hkeeps : KeepsWindow u (reportLowSupply (reportStatus u)) := by
    unfold reportLowSupply
    split
    exacts [report_window _ _ hstatus, hstatus]
  have hinactive : u.active = false → (reportLowSupply (reportStatus u)).active = false := fun hoff => by
    have hoff' : (reportStatus u).active = false := hoff
    unfold reportLowSupply
    split
    exacts [(State.active_of_run (report_state_of_inactive _ _ hoff')).trans hoff', hoff']
  refine ⟨fun hsafe => ?_, fun hactive => hkeeps.window (hwindow ?_)⟩
  · obtain ⟨-, hout, hidle, -⟩ := hsafe
    have hh := hhistory.trans (hout (by simp [hs]))
    have hj := hjumps.trans (hidle (by simp [State.active, hs, RunState.active]))
    exact (historySafe_iff _).2 ⟨hkeeps.history ⟨by simp [hh], fun _ => hh⟩, hkeeps.jumps ⟨fun _ => hj, fun _ => hj, fun _ => hj⟩⟩
  · by_contra hoff
    exact Bool.noConfusion ((hinactive (by simpa using hoff)).symm.trans hactive)

/-! ### The invariants (R94 to R97, R107, R108, R133) -/

theorem reset_historySafe {s t : State} (h : exec .reset s = .next t) : HistorySafe t := by
  cases h
  exact ⟨Nat.zero_le _, fun _ => rfl, fun _ => rfl, fun _ => rfl, fun _ => rfl⟩

theorem exec_historySafe {c : Instr} {s t : State} (h : exec c s = .next t) (hs : HistorySafe s) : HistorySafe t := by
  have hkeeps : KeepsWindow s t → HistorySafe t := fun hk => by
    obtain ⟨hhistory, hjumps⟩ := (historySafe_iff s).1 hs
    exact (historySafe_iff t).2 ⟨hk.history hhistory, hk.jumps hjumps⟩
  cases c with
  | reset => exact reset_historySafe h
  | startSequenceEnd straps source =>
    by_cases hstart : s.run.state = .starting
    · cases h
      rw [if_pos hstart]
      exact (startSequenceEnd_window straps.toNat source hstart).1 hs
    · cases execStartSequenceEnd_of_started hstart h
      exact hs
  | _ => exact hkeeps (exec_window h nofun nofun)

/-- The span of an accepted DEMAND is at most 200 (R36, R95). -/
theorem takeDemand_span (header : Address) (p : DemandPayload) (c : Option Command) {s : State} (h : s.gap.span ≤ 200) :
    (takeDemand header p c s).gap.span ≤ 200 := by
  refine takeDemand_of (P := fun t => t.gap.span ≤ 200) h h ?_
  rw [(actDemand_stored p c _).2.2.2, storeDemand_span]
  split
  exacts [Nat.min_le_right _ _, h]

theorem exec_span {c : Instr} {s t : State} (h : exec c s = .next t) (hs : s.gap.span ≤ 200) : t.gap.span ≤ 200 := by
  cases c with
  | reset =>
    cases h
    exact Nat.zero_le _
  | demand header p | run header p | stop header p =>
    cases h
    exact takeDemand_span header p _ hs
  | _ => exact (exec_demand h nofun nofun nofun nofun).2.2.2.le.trans hs

/-- G_t and W in order after every command that leaves the station active. -/
theorem exec_windowOrder {c : Instr} {s t : State} (h : exec c s = .next t) (hs : s.active = true → WindowOrder s)
    (ht : t.active = true) : WindowOrder t := by
  have hkeeps : c ≠ .reset → (∀ straps memory, c ≠ .startSequenceEnd straps memory) → WindowOrder t := fun hr hstart => by
    refine (exec_window h hr hstart).window (hs ?_)
    by_contra hoff
    exact hoff ((State.active_of_run (exec_state_of_inactive h (by simpa using hoff) hr hstart)).symm.trans ht)
  cases c with
  | reset =>
    cases h
    cases ht
  | startSequenceEnd straps source =>
    by_cases hstart : s.run.state = .starting
    · cases h
      rw [if_pos hstart] at ht ⊢
      exact (startSequenceEnd_window straps.toNat source hstart).2 ht
    · cases execStartSequenceEnd_of_started hstart h
      exact hs ht
  | _ => exact hkeeps nofun nofun

theorem exec_setpointSafe {c : Instr} {s t : State} (h : exec c s = .next t) (hs : SetpointSafe s) : SetpointSafe t := by
  obtain ⟨hspan, hrange, htarget, hwindow⟩ := hs
  have horder := exec_windowOrder h fun ha => ⟨htarget ha, hwindow ha⟩
  exact ⟨exec_span h hspan, exec_settingsInRange h hrange, fun ht => (horder ht).1, fun ht => (horder ht).2⟩

/-! ### A millisecond (log entry 2), and the statement -/

theorem tick_asks (valid : Bool) (a : Activity) : (a.tick valid).asks = a.asks := by
  cases a with
  | calibrating c =>
    simp only [Activity.tick]
    split
    · cases hc : c.phase <;> simp only [Activity.asks, hc]
    · rfl
  | moving | recovering =>
    simp only [Activity.tick]
    split <;> rfl
  | holding | stuck | relieved => rfl

theorem tick_historySafe {s : State} (h : HistorySafe s) : HistorySafe (tick s) := by
  obtain ⟨hlength, hout, hidle, habsent, hopen⟩ := h
  exact ⟨hlength, hout, hidle, habsent, fun hasks => hopen ((tick_asks _ s.gap.activity).symm.trans hasks)⟩

/-- Settles O30: a millisecond keeps both invariants, and so does every command (`exec_setpointSafe`, `exec_historySafe`). -/
theorem workingSetpointStaysInItsWindow : Obligations.WorkingSetpointStaysInItsWindow := by
  unfold Obligations.WorkingSetpointStaysInItsWindow
  intro s t h
  unfold step at h
  split at h
  · cases h
    exact ⟨id, tick_historySafe⟩
  · next c rest _ =>
    exact ⟨exec_setpointSafe (s := { s with pending := rest }) h, exec_historySafe (s := { s with pending := rest }) h⟩

end Sys2Proof.Machine

/-! ## One millisecond (O2) -/

namespace Sys2Proof.Machine

theorem step_of_nil {s : State} (h : s.pending = []) : step s = .next (tick s) := by
  unfold step
  rw [h]

/-- The time count gains one millisecond (log entry 2). -/
theorem tick_clock {s : State} (h : s.millis < 1000) :
    (tick s).millis < 1000 ∧ (tick s).seconds * 1000 + (tick s).millis = s.seconds * 1000 + s.millis + 1 := by
  simp only [tick]
  split
  · next hlt => exact ⟨hlt, by omega⟩
  · omega

theorem tick_activity {s : State} {a : Activity} (h : s.gap.activity = a) :
    (tick s).gap.activity = a.tick s.monitor.positionValid := h ▸ rfl

/-- A stall timer runs while its drive is neither paused nor held by an invalid position (R93, R101). -/
theorem moving_tick (m : Move) (valid : Bool) :
    (Activity.moving m).tick valid =
      .moving (if valid = true ∧ m.paused = false then { m with stall := m.stall - 1 } else m) := by
  simp only [Activity.tick]
  split <;> rfl

theorem recovering_tick (r : Reclosing) (valid : Bool) :
    (Activity.recovering r).tick valid =
      .recovering (if valid = true ∧ r.paused = false then { r with stall := r.stall - 1 } else r) := by
  simp only [Activity.tick]
  split <;> rfl

/-- The condition under which a drive's stall timer is held. -/
theorem held_iff {valid paused : Bool} (h : valid = false ∨ paused = true) : ¬ (valid = true ∧ paused = false) := by
  rintro ⟨rfl, rfl⟩
  rcases h with h | h <;> cases h

/-- Settles O2: field by field the tick is as stated; of the activities each has its clauses. -/
theorem idleStepPassesOneMillisecond : Obligations.IdleStepPassesOneMillisecond := by
  unfold Obligations.IdleStepPassesOneMillisecond
  intro s hpending hmillis
  obtain ⟨hlt, hclock⟩ := tick_clock hmillis
  refine ⟨tick s, step_of_nil hpending, hlt, hclock, rfl, rfl, rfl, rfl, rfl, rfl, fun m hact hvalid hrun => ?_,
    fun m hact hheld => ?_, fun c hact hvalid => ?_, fun c hact hheld => ?_, fun left hact => tick_activity hact,
    fun r hact hvalid hrun => ?_, fun r hact hheld => ?_, tick_gapState s, rfl, rfl, rfl, rfl, rfl, rfl, rfl⟩
  · rw [tick_activity hact, moving_tick, if_pos ⟨hvalid, hrun⟩]
  · rw [tick_activity hact, moving_tick, if_neg (held_iff hheld)]
  · rw [tick_activity hact, hvalid]
    cases hphase : c.phase <;> simp only [Activity.tick, hphase, if_true] <;> rfl
  · rw [tick_activity hact, hheld]
    rfl
  · rw [tick_activity hact, recovering_tick, if_pos ⟨hvalid, hrun⟩]
  · rw [tick_activity hact, recovering_tick, if_neg (held_iff hheld)]

end Sys2Proof.Machine

/-! ## Load history and step decisions (O31) -/

namespace Sys2Proof.Machine

/-! ### The two tests on a history (R109, R110) -/

theorem openTest_iff {n : Nat} {l : List LoadClass} :
    openTest n l = true ↔ n ≤ l.length ∧ ∀ k ∈ l.take n, k = .over := by
  simp [openTest]

theorem closeTest_iff {n : Nat} {l : List LoadClass} :
    closeTest n l = true ↔ l.length = 16 ∧ n ≤ l.count .under ∧ .over ∉ l := by
  have hcount : l.countP (fun k => decide (k = .under)) = l.count .under := by
    rw [List.count_eq_countP]
    exact List.countP_congr fun k _ => by simp
  simp only [closeTest, Bool.and_eq_true, decide_eq_true_eq, hcount, Bool.not_eq_true', List.contains_eq_mem, decide_eq_false_iff_not,
    and_assoc]

/-! ### The step decision -/

/-- The decision is made in HOLDING with a span above 0. -/
abbrev State.decides (s : State) : Prop := 0 < s.gap.span ∧ s.gapState = .holding

section
variable {s : State}

theorem stepDecision_opens (h : s.decides) (ht : openTest s.settings.openCount s.gap.history = true) :
    (stepDecision s).gap.history = [] ∧ (stepDecision s).gap.setpoint = min (s.gap.setpoint + s.settings.stepSize)
      (windowUpper s.settings s.gap.reference s.gap.target s.gap.span) := by
  unfold stepDecision
  rw [if_pos h, if_pos ht]
  exact ⟨rfl, rfl⟩

theorem stepDecision_closes (h : s.decides) (hopen : ¬ openTest s.settings.openCount s.gap.history = true)
    (ht : closeTest s.settings.closeCount s.gap.history = true) :
    (stepDecision s).gap.history = [] ∧ (stepDecision s).gap.setpoint = max (s.gap.setpoint - s.settings.stepSize)
      (windowLower s.settings s.gap.reference s.gap.target s.gap.span) := by
  unfold stepDecision
  rw [if_pos h, if_neg hopen, if_pos ht]
  exact ⟨rfl, rfl⟩

theorem stepDecision_stays (hopen : ¬ (s.decides ∧ openTest s.settings.openCount s.gap.history = true))
    (hclose : ¬ (s.decides ∧ closeTest s.settings.closeCount s.gap.history = true)) : stepDecision s = s := by
  unfold stepDecision
  split
  · next h => rw [if_neg fun ht => hopen ⟨h, ht⟩, if_neg fun ht => hclose ⟨h, ht⟩]
  · rfl

end

/-! ### What follows the sample in the same event -/

theorem moveTest_history (s : State) : (moveTest s).gap.history = s.gap.history := by
  unfold moveTest
  split
  · split
    · next h =>
      obtain ⟨-, hholding, -⟩ := State.movesAllowed_iff.1 h.1
      exact (setActivity_approach_history fun hc => by simp [hholding] at hc).2
    · rfl
  · rfl

/-- The end of STOPPING writes neither W nor the history. -/
theorem clearTakes_setting (l : LoadSample) (s : State) :
    (clearTakes l s).gap.history = s.gap.history ∧ (clearTakes l s).gap.setpoint = s.gap.setpoint ∧
      (clearTakes l s).queue = s.queue ∧ (clearTakes l s).gapState = s.gapState ∧
      ((clearTakes l s).run.state = s.run.state ∨ (clearTakes l s).run.state = .idle) := by
  unfold clearTakes
  split
  · next h =>
    have hrun : ¬ s.run.state = .running := by simp [h.1]
    unfold finishStopping
    rw [requestRecord_frame, changeRun_frame]
    exact ⟨if_neg hrun, rfl, rfl, rfl, .inr rfl⟩
  · exact ⟨rfl, rfl, rfl, rfl, .inl rfl⟩

theorem historyTakes_activity (l : LoadSample) (s : State) : (historyTakes l s).gap.activity = s.gap.activity := by
  unfold historyTakes stepDecision
  split
  · split
    · split
      · rfl
      · split <;> rfl
    · rfl
  · rfl

/-- With no head to start and out of PRIMING, a window close leaves history and W as the step decision does. -/
theorem windowClose_setting {s : State} (ha : s.active = true) (hh : s.headStartable = false) (hp : s.run.state ≠ .priming) :
    (windowClose s).gap.history = (historyTakes (closingSample s) (reopened s)).gap.history ∧
      (windowClose s).gap.setpoint = (historyTakes (closingSample s) (reopened s)).gap.setpoint := by
  have hframe := historyTakes_frame (closingSample s) (reopened s)
  have hactivity := historyTakes_activity (closingSample s) (reopened s)
  rw [windowClose_eq]
  generalize historyTakes (closingSample s) (reopened s) = t at hframe hactivity ⊢
  have hqueue : t.queue = s.queue := by rw [hframe]; rfl
  have hstate : t.run.state = s.run.state := by rw [hframe]; rfl
  obtain ⟨hhistory, hsetpoint, hqueue', hgap, hrun⟩ := clearTakes_setting (closingSample s) t
  generalize clearTakes (closingSample s) t = u at hhistory hsetpoint hqueue' hgap hrun ⊢
  have hheads : u.headStartable = false :=
    State.headStartable_of_same hh ha (hqueue'.trans hqueue) (hgap.trans (congrArg Activity.state hactivity))
  have hpriming : u.run.state ≠ .priming := by
    rcases hrun with h | h <;> rw [h]
    · rwa [hstate]
    · simp
  rw [settle_of_not_priming hheads hpriming]
  exact ⟨(moveTest_history u).trans hhistory, (moveTest_rests u).setpoint.trans hsetpoint⟩

/-! ### The statement (O31) -/

/-- The station as the step decision finds it: the class of the sample pushed (R107). -/
def classPushed (s : State) : State :=
  { reopened s with gap.history := pushClass (closingSample s).loadClass s.gap.history }

theorem historyTakes_of_running {s : State} (h : s.run.state = .running ∧ s.monitor.nofeed = false) :
    historyTakes (closingSample s) (reopened s) = stepDecision (classPushed s) := if_pos h

theorem historyTakes_of_unpushed {s : State} (h : ¬ (s.run.state = .running ∧ s.monitor.nofeed = false)) :
    historyTakes (closingSample s) (reopened s) = reopened s := if_neg h

/-- Settles O31: a window close leaves history and W as the step decision does (`windowClose_setting`), which opens, closes or
stays. -/
theorem loadHistoryAndStepDecisions : Obligations.LoadHistoryAndStepDecisions := by
  unfold Obligations.LoadHistoryAndStepDecisions
  intro s ha hh hp
  have hexec : exec .windowClose s = .next (windowClose s) := congrArg Host.Outcome.next (if_pos ha)
  have hsample : (windowClose s).monitor.sample = some (closingSample s) :=
    State.sample_of_fixed (windowClose_fixed s)
  obtain ⟨hhistory, hsetpoint⟩ := windowClose_setting ha hh hp
  refine ⟨_, closingSample s, hexec, hsample, ?_⟩
  dsimp only
  rw [hhistory, hsetpoint]
  split
  · next hrun =>
    rw [historyTakes_of_running hrun]
    split
    · next h =>
      exact stepDecision_opens (s := classPushed s) ⟨h.1, h.2.1⟩ (openTest_iff.2 h.2.2)
    · next hno =>
      have hopen : ¬ ((classPushed s).decides ∧ openTest (classPushed s).settings.openCount (classPushed s).gap.history = true) :=
        fun hc => hno ⟨hc.1.1, hc.1.2, openTest_iff.1 hc.2⟩
      split
      · next h =>
        have hdecides : (classPushed s).decides := ⟨h.1, h.2.1⟩
        exact stepDecision_closes hdecides (fun ht => hopen ⟨hdecides, ht⟩) (closeTest_iff.2 h.2.2)
      · next hnc =>
        have hclose : ¬ ((classPushed s).decides ∧
            closeTest (classPushed s).settings.closeCount (classPushed s).gap.history = true) :=
          fun hc => hnc ⟨hc.1.1, hc.1.2, closeTest_iff.1 hc.2⟩
        rw [stepDecision_stays hopen hclose]
        exact ⟨rfl, rfl⟩
  · next hrun =>
    rw [historyTakes_of_unpushed hrun]
    exact ⟨rfl, rfl⟩

end Sys2Proof.Machine

/-! ## Seek pulses (O35) -/

namespace Sys2Proof.Machine

/-! ### The timers of the seek pulses (R122) -/

section
variable {s : State} {c : Calibration} {p : SeekPulse} (hact : s.gap.activity = .calibrating c) (hphase : c.phase = .seeking p)
include hact hphase

theorem pulseOnEnds_of_on (hon : p.on = true) :
    pulseOnEnds s = { s with gap.activity := .calibrating { c with
      phase := .seeking { p with on := false, left := s.settings.pulseOff * 10 } } } := by
  unfold pulseOnEnds
  simp only [hact, hphase, hon, if_true]
  exact updateActivity_of_not_opening (by simp [Activity.asks]) s

theorem pulseOffEnds_of_off {here : Nat} (hon : p.on = false) (hhere : s.monitor.position = some here) :
    pulseOffEnds s = if stillAfter p here = 3 then settle (contact c.kind here s)
      else { s with gap.activity := .calibrating { c with
        phase := .seeking (seekPulse s.settings (stillAfter p here) here) } } := by
  unfold pulseOffEnds
  simp only [hact, hphase, hon, hhere, Option.getD_some, Bool.false_eq_true, if_false]
  refine if_congr Iff.rfl rfl (updateActivity_of_not_opening ?_ s)
  simp [Activity.asks, seekPulse]

end

theorem stillAfter_eq (p : SeekPulse) (here : Nat) : stillAfter p here = if p.start < here then 0 else p.still + 1 := by
  unfold stillAfter
  split <;> split <;> omega

/-! ### The contact result (R97, R123) -/

/-- The reference taken at a contact, before W is held within the new window. -/
def contactReferenced (p : Nat) (s : State) : State :=
  { contactNoted p s with gap.reference := .referenced p, gap.jumpWindow := [] }

theorem setReference_eq_holdW {q : Reference} (h : q.present = true) (s : State) :
    setReference q s = holdW { s with gap.reference := q, gap.jumpWindow := [] } := if_pos h

theorem contactTaken_eq (p : Nat) (s : State) : contactTaken p s = requestRecord (holdW (contactReferenced p s)) :=
  by
  rw [contactTaken, setReference_eq_holdW rfl]
  rfl

/-- W held within its window writes W and its approach mark only (R97). -/
theorem holdW_frame (s : State) :
    holdW s = { s with gap.setpoint := (holdW s).gap.setpoint, gap.approach := (holdW s).gap.approach } := by
  unfold holdW
  split <;> rfl

/-- What holding W within its window does to the approach mark (R97, log entry 13). -/
theorem holdW_approach {s : State} {g : Nat} (hg : s.gapEstimate = some g) :
    (holdW s).gap.approach = if s.heldInWindow s.gap.setpoint = s.gap.setpoint then s.gap.approach
      else decide (s.heldInWindow s.gap.setpoint ≠ g) := by
  unfold holdW
  split
  · rfl
  · next hne =>
    simp only [setW, hg, Option.some.injEq, hne, if_false]
    split
    · next h => simp [h]
    · next h => simpa using Ne.symm h

theorem updateActivity_of_opening {act : Activity} (h : act.asks = .opening) (s : State) :
    updateActivity act s = { s with gap.activity := act, gap.jumpWindow := [] } := if_pos h

/-- A contact as a whole: beyond the reference and the totals it writes the record's request, W with its mark, and the activity. -/
theorem contact_frame (k : CalKind) {p : Nat} {s : State} (hp : s.monitor.position = some p) :
    contact k p s = { contactReferenced p s with
      interface := (requestRecord (holdW (contactReferenced p s))).interface
      memory := (requestRecord (holdW (contactReferenced p s))).memory
      gap.setpoint := (holdW (contactReferenced p s)).gap.setpoint
      gap.approach := (holdW (contactReferenced p s)).gap.approach || decide (0 ≠ (holdW (contactReferenced p s)).gap.setpoint)
      gap.activity := .calibrating { kind := k, seekLimit := none, phase := .backing 0 (s.settings.moveTimeout * 1000) } } := by
  have hestimate := contactTaken_gapEstimate hp
  have hsettings := (contactTaken_keeps p s).2.2
  have hwindow : (contactReferenced p s).gap.jumpWindow = [] := rfl
  rw [contact_eq, hestimate, State.moveTimeoutMs, hsettings, contactTaken_eq,
    updateActivity_of_opening (by rfl), requestRecord_frame]
  generalize contactReferenced p s = r at hwindow ⊢
  generalize (requestRecord (holdW r)).interface = i
  generalize (requestRecord (holdW r)).memory = m
  have hframe := holdW_frame r
  generalize (holdW r).gap.setpoint = w at hframe ⊢
  generalize (holdW r).gap.approach = b at hframe ⊢
  rw [hframe, ← hwindow]
  rfl

theorem contactReferenced_gapEstimate {p : Nat} {s : State} (hp : s.monitor.position = some p) :
    (contactReferenced p s).gapEstimate = some 0 := by
  simp [contactReferenced, contactNoted, State.gapEstimate, Reference.contact?, hp]

/-- W and its mark after a contact: W held within the new window, the mark set where W differs from the G of 0, and where it does
not as holding W left it. -/
theorem contact_setpoint (k : CalKind) {p : Nat} {s : State} (hp : s.monitor.position = some p) :
    let t := contact k p s
    t.gap.setpoint = t.heldInWindow s.gap.setpoint ∧ (t.gap.setpoint ≠ 0 → t.gap.approach = true) ∧
      (t.gap.setpoint = 0 → t.gap.approach = (s.gap.approach && decide (s.gap.setpoint = 0))) := by
  have hset : (holdW (contactReferenced p s)).gap.setpoint = (contactReferenced p s).heldInWindow s.gap.setpoint :=
    holdW_setpoint _
  have happ : (holdW (contactReferenced p s)).gap.approach =
      if (contactReferenced p s).heldInWindow s.gap.setpoint = s.gap.setpoint then s.gap.approach
      else decide ((contactReferenced p s).heldInWindow s.gap.setpoint ≠ 0) := holdW_approach (contactReferenced_gapEstimate hp)
  intro t
  have ht : t = _ := contact_frame k hp
  have hheld : t.heldInWindow s.gap.setpoint = (contactReferenced p s).heldInWindow s.gap.setpoint := by
    rw [ht]
    rfl
  have hsetpoint : t.gap.setpoint = (holdW (contactReferenced p s)).gap.setpoint := by rw [ht]
  have happroach : t.gap.approach = ((holdW (contactReferenced p s)).gap.approach ||
      decide (0 ≠ (holdW (contactReferenced p s)).gap.setpoint)) := by rw [ht]
  rw [hsetpoint, happroach, hheld, happ, hset]
  generalize (contactReferenced p s).heldInWindow s.gap.setpoint = w
  refine ⟨rfl, fun hw => ?_, fun hw => ?_⟩
  · simp [Ne.symm hw]
  · subst hw
    by_cases hzero : s.gap.setpoint = 0
    · simp [hzero]
    · simp [hzero, Ne.symm hzero]

/-- A record requested while the memory is busy, or the supply low, becomes the pending one (R164). -/
theorem requestRecord_of_busy {s : State} (h : s.interface.campaign ≠ none ∨ s.supplyLow = true) :
    requestRecord s = { s with interface.pending := some s.wearRecord } := by
  refine if_neg fun hidle => ?_
  rcases h with hcampaign | hlow
  · exact hcampaign hidle.1
  · rw [hidle.2] at hlow
    cases hlow

theorem contact_pending (k : CalKind) {p : Nat} {s : State} (hp : s.monitor.position = some p)
    (h : s.interface.campaign ≠ none ∨ s.supplyLow = true) :
    (contact k p s).interface = { s.interface with pending := some (contact k p s).wearRecord } := by
  have hbusy : (holdW (contactReferenced p s)).interface.campaign ≠ none ∨ (holdW (contactReferenced p s)).supplyLow = true := by
    rw [holdW_frame]
    exact h
  rw [contact_frame k hp, requestRecord_of_busy hbusy, holdW_frame]
  rfl

/-- The liner's wear after a contact, by the direction in which the contact has shifted (R123). -/
theorem worn_eq (old here worn : Nat) :
    min 65535 (worn + ((here : Int) - (old : Int)).toNat) =
      if old < here then min 65535 (worn + (here - old)) else min 65535 worn := by
  split <;> congr 1 <;> omega

/-- Settles O35: the two ends of a pulse write the phase only, until the third still pulse takes the contact's result. -/
theorem seekPulsesFindTheContact : Obligations.SeekPulsesFindTheContact := by
  intro s c p here hactive hvalid hact hphase hhere
  have hends : exec .seekPulseOnEnd s = .next (pulseOnEnds s) ∧ exec .seekPulseOffEnd s = .next (pulseOffEnds s) := by
    constructor <;> exact congrArg Host.Outcome.next (if_pos ⟨hactive, hvalid⟩)
  rw [hends.1, hends.2]
  refine ⟨fun hon => ?_, fun hoff hmoved => ?_, fun hoff hstill hle => ?_⟩
  · rw [pulseOnEnds_of_on hact hphase hon]
  · have hcount : stillAfter p here ≠ 3 := by
      rw [stillAfter_eq]
      split <;> omega
    rw [pulseOffEnds_of_off hact hphase hoff hhere, if_neg hcount, stillAfter_eq]
    rfl
  · have hcount : stillAfter p here = 3 := by
      rw [stillAfter_eq]
      split <;> omega
    obtain ⟨hactivity, hrun, hqueue⟩ := contact_begins c.kind hhere
    obtain ⟨hsetpoint, hmark, hkept⟩ := contact_setpoint c.kind hhere
    have hstate : (contact c.kind here s).gapState = .calibrating := State.gapState_of_calibrating hactivity
    have hbusy : settle (contact c.kind here s) = contact c.kind here s := settle_of_busy (by simp [hstate]) (by simp [hstate])
    have hworn : (contact c.kind here s).gap.linerWear = (contactNoted here s).gap.linerWear := by
      rw [contact_frame c.kind hhere]
      rfl
    refine ⟨_, congrArg Host.Outcome.next (by rw [pulseOffEnds_of_off hact hphase hoff hhere, if_pos hcount, hbusy]), ?_, ?_, ?_, ?_,
      ?_, ?_, ?_, ?_, hsetpoint, hmark, hkept, hactivity, ?_, hqueue, ?_, hrun, contact_pending c.kind hhere⟩
    case refine_6 =>
      rw [hworn]
      cases hold : s.gap.reference.contact? with
      | none => simp [contactNoted, hold]
      | some old => simpa [contactNoted, hold] using worn_eq old here s.gap.linerWear
    case refine_7 =>
      rw [contact_frame c.kind hhere]
      exact contactReferenced_gapEstimate hhere
    all_goals
      rw [contact_frame c.kind hhere]
      rfl

end Sys2Proof.Machine

/-! ## A request that starts at its arrival, and CALIBRATE (O45) -/

namespace Sys2Proof.Machine

/-! ### A queued kind that arrives at an empty queue (R142 to R144) -/

/-- The station with the one entry `e` in its queue, its frame ended and answered QUEUED. -/
def arrived (e : Entry) (s : State) : State :=
  { s with queue := [e]
           line := LinePort.push { s.line with receiver := .waitingIdle }
             (plainAnswer e.requester e.tag (some e.kind.request) .queued) }

theorem enqueue_of_nil {e : Entry} {s : State} (h : stateRefusal e.kind s = none) (hq : s.queue = []) :
    enqueue e (frameEnds s) = settle (arrived e s) := by
  have hrefusal : queuedRefusal e.kind e.requester e.tag (frameEnds s) = none := by
    have hstate : stateRefusal e.kind (frameEnds s) = none := h
    simp [queuedRefusal, hstate, hq, holdsTag]
  have hqueue : (frameEnds s).queue ++ [e] = [e] := by
    change s.queue ++ [e] = [e]
    rw [hq]
    rfl
  unfold enqueue
  rw [hrefusal, hqueue]
  rfl

/-! ### A head that starts alone (R144) -/

/-- The state in which the one waiting entry starts: it is ACTIVE. -/
def activated (e : Entry) (s : State) : State := { s with queue := [{ e with active := true }] }

theorem startHead_of_single {s : State} {e : Entry} (hq : s.queue = [e]) :
    startHead s = match e.kind with
      | .setGap => startSetGap e (activated e s)
      | .calibrate => startRequestedCalibration (activated e s)
      | .linerChange => startLinerChange (activated e s) := by
  unfold startHead
  simp only [hq, activateHead]
  rfl

theorem settle_of_single {s : State} {e : Entry} (ha : s.active = true) (hg : s.gapState = .holding ∨ s.gapState = .stuck)
    (hq : s.queue = [e]) (he : e.active = false) :
    settle s = primingTest (moveTest (internalCalibrationTest (startHead s))) := by
  have hstart : s.headStartable = true := State.headStartable_iff.2 ⟨ha, hg, e, [], hq, he⟩
  have hheads : startHeads s.queue.length s = startHead s := by
    rw [hq]
    exact if_pos hstart
  rw [settle, hheads]

/-- The end of an event makes no test of its own in a gap state but HOLDING. -/
theorem tests_of_gapState {s : State} (h : s.gapState ≠ .holding) :
    primingTest (moveTest (internalCalibrationTest s)) = s := by
  rw [internalCalibrationTest_of_gapState h, moveTest_of_gapState h, primingTest_of_not fun hp => h hp.2.2]

/-- With no request queued the three tests at the end of an event leave W and the line. -/
theorem tests_rest {s : State} (h : s.queue = []) : Rests s (primingTest (moveTest (internalCalibrationTest s))) := by
  rw [← settle_of_nil h]
  exact settle_rests h

/-! ### CALIBRATE (R120, R121) -/

theorem exec_calibrate_arrived {header : Address} {tag : BitVec 3} {noRetry : Bool} {s : State}
    (haddr : s.addressedAlone header = true) (ha : s.active = true) (hr : s.line.receiver ≠ .waitingIdle)
    (hrun : s.run.state = .idle ∨ s.run.state = .priming) (hq : s.queue = []) :
    exec (.calibrate header tag noRetry) s = .next (settle (arrived (entryOf header tag .calibrate none noRetry) s)) := by
  have hallowed : stateRefusal .calibrate s = none := if_pos hrun
  exact congrArg Host.Outcome.next
    ((onRequest_taken _ haddr ha hr).trans (enqueue_of_nil (e := entryOf header tag .calibrate none noRetry) hallowed hq))

/-- A calibration that starts: OPENING from the present position, OPEN driven, the feeder at 0; a STUCK gap is left (R105, R121). -/
theorem startCalibration_fields (k : CalKind) {s : State} {p : Nat} (hready : s.calibrationReady = true)
    (hp : s.monitor.position = some p) :
    let t := startCalibration k s
    t.gap.activity = .calibrating { kind := k, seekLimit := some (s.settings.seekLimit * 1000), phase := .opening p } ∧
      t.valve = .opening ∧ t.drive.output = 0 ∧
      (if s.gapState = .stuck then t.gap.setpoint = s.heldInWindow s.gap.target ∧ t.gap.history = []
       else t.gap.setpoint = s.gap.setpoint ∧ t.gap.history = s.gap.history) := by
  obtain ⟨-, -, -, hvalid, -⟩ := State.calibrationReady_iff.1 hready
  have hact : startCalibration k s = setActivity (.calibrating
      { kind := k, seekLimit := some (s.settings.seekLimit * 1000), phase := .opening p }) s := by
    rw [startCalibration, hp]
    rfl
  rw [hact]
  refine ⟨setActivity_activity _ _, ?_, ?_, ?_⟩
  · refine valve_of_opening ?_ (by rw [setActivity_activity]; rfl)
    rw [setActivity_monitor]
    exact hvalid
  · exact setActivity_output_of_zeroed (by cases s.run.state <;> rfl)
  · split
    · next hstuck => exact setActivity_of_stuck hstuck (by simp [Activity.state])
    · next hfree => exact ⟨setActivity_setpoint _ hfree, (setActivity_approach_history fun h => hfree h.1).2⟩

/-- A CALIBRATE that starts alone with its conditions met: the event ends with the calibration in OPENING. -/
theorem settle_calibrate_of_ready {s : State} {e : Entry} (ha : s.active = true)
    (hg : s.gapState = .holding ∨ s.gapState = .stuck) (hq : s.queue = [e]) (he : e.active = false) (hk : e.kind = .calibrate)
    (hready : s.calibrationReady = true) : settle s = startCalibration .requested (activated e s) := by
  have hready' : (activated e s).calibrationReady = true := hready
  have hhead : startHead s = startCalibration .requested (activated e s) := by
    rw [startHead_of_single hq, hk]
    exact if_pos hready'
  rw [settle_of_single ha hg hq he, hhead, tests_of_gapState]
  rw [startCalibration, setActivity_gapState]
  simp [Activity.state]

/-- The entry `e` alone and ACTIVE has ended: the queue is empty and the outcome answered. -/
def ended (e : Entry) (o : AnswerOutcome) (s : State) : State :=
  { s with queue := [], line := s.line.push (s.entryAnswer e o) }

theorem settle_calibrate_of_unready {s : State} {e : Entry} (ha : s.active = true)
    (hg : s.gapState = .holding ∨ s.gapState = .stuck) (hq : s.queue = [e]) (he : e.active = false) (hk : e.kind = .calibrate)
    (hready : s.calibrationReady = false) :
    settle s = primingTest (moveTest (internalCalibrationTest (ended e (.stopped .blocked) s))) := by
  have hready' : ¬ (activated e s).calibrationReady = true := by
    change ¬ s.calibrationReady = true
    simp [hready]
  have hhead : startHead s = endActive (.stopped .blocked) (activated e s) := by
    rw [startHead_of_single hq, hk]
    exact if_neg hready'
  rw [settle_of_single ha hg hq he, hhead, endActive_of_active (s := activated e s) _ rfl rfl]
  rfl

/-- Settles O45: the entry starts in its own event, and either the calibration begins or the entry ends before the event's tests. -/
theorem calibrateStartsOrIsBlocked : Obligations.CalibrateStartsOrIsBlocked := by
  intro header tag noRetry s p haddr hactive hreceiver hrun hgap hqueue hposition ready queued
  obtain ⟨e, he⟩ : ∃ e, e = entryOf header tag .calibrate none noRetry := ⟨_, rfl⟩
  have hready : (arrived e s).calibrationReady = true ↔ ready := by
    have hnot : s.run.state ≠ .tripped := by rcases hrun with h | h <;> simp [h]
    rw [State.calibrationReady_iff]
    exact ⟨fun h => ⟨h.1, h.2.1, h.2.2.2.1, h.2.2.1⟩, fun h => ⟨h.1, h.2.1, h.2.2.2, h.2.2.1, hnot⟩⟩
  have hwait : e.active = false := he ▸ rfl
  have hkind : e.kind = .calibrate := he ▸ rfl
  have hexec := exec_calibrate_arrived (tag := tag) (noRetry := noRetry) haddr hactive hreceiver hrun hqueue
  rw [← he] at hexec
  by_cases hr : ready
  · have hsettle := settle_calibrate_of_ready (s := arrived e s) hactive hgap rfl hwait hkind (hready.2 hr)
    obtain ⟨hact, hvalve, houtput, hwindow⟩ :=
      startCalibration_fields .requested (s := activated e (arrived e s)) (p := p) (hready.2 hr) hposition
    refine ⟨_, hexec, ?_, fun _ => ?_, fun h => absurd hr h⟩ <;> rw [hsettle]
    · exact setActivity_reference _ _
    · refine ⟨?_, ?_, houtput, hvalve, ?_, hact, hwindow⟩
      · rw [startCalibration, setActivity_line, he]
        rfl
      · exact setActivity_state _ _
      · rw [startCalibration, setActivity_queue, he]
        rfl
  · have hsettle := settle_calibrate_of_unready (s := arrived e s) hactive hgap rfl hwait hkind
      (Bool.eq_false_iff.2 fun h => hr (hready.1 h))
    have hrests := tests_rest (s := ended e (.stopped .blocked) (arrived e s)) rfl
    refine ⟨_, hexec, ?_, fun h => absurd h hr, fun _ => ?_⟩ <;> rw [hsettle]
    · exact (State.reference_of_still hrests.still).trans rfl
    · refine ⟨hrests.queue, fun hstuck => ?_, ?_⟩
      · rw [tests_of_gapState]
        · rfl
        · change s.gapState ≠ .holding
          simp [hstuck]
      · rw [hrests.line, he]
        rfl

end Sys2Proof.Machine

/-! ## The gap state at the end of an event, and the end of a relief (O42) -/

namespace Sys2Proof.Machine

/-! ### The gap state that an event's end leads to -/

/-- The gap state is as it was, or one that the end of an event enters. -/
def Leads (s t : State) : Prop :=
  t.gapState = s.gapState ∨ t.gapState = .holding ∨ t.gapState = .moving ∨ t.gapState = .calibrating

theorem Leads.trans {s t u : State} (h : Leads s t) (h' : Leads t u) : Leads s u := by
  rcases h' with h' | h'
  · unfold Leads
    rw [h']
    exact h
  · exact .inr h'

theorem endActive_gapState (o : AnswerOutcome) (s : State) : (endActive o s).gapState = s.gapState :=
  congrArg Activity.state (endActive_activity o s)

theorem holdW_gapState (s : State) : (holdW s).gapState = s.gapState := by
  rw [holdW_frame]
  rfl

theorem startSetGap_gapState (e : Entry) (s : State) : (startSetGap e s).gapState = s.gapState := by
  unfold startSetGap
  dsimp only
  split
  · exact endActive_gapState _ s
  · split
    · rw [holdW_gapState]
      exact endActive_gapState _ s
    · split
      · rw [endActive_gapState]
        rfl
      · rfl

theorem startLinerChange_leads (s : State) : Leads s (startLinerChange s) := by
  unfold startLinerChange
  dsimp only
  generalize hu : ({ s with
    gap.linerTonnes := 0, gap.linerWear := 0, gap.calCount := 0, gap.wearAcc := 0, gap.wearUnknown := false
    gap.lastShift := none, monitor.linerKg := 0
    interface.campaign := s.interface.campaign.map (fun c => { c with forLiner := false }) } : State) = u
  have hstate : u.gapState = s.gapState := by
    rw [← hu]
    rfl
  unfold Leads
  rw [requestRecord_gapState, ← hstate]
  by_cases hmoving : u.gapState = .moving
  · unfold setReference
    extract_lets _ w v
    rw [if_neg (by simp [Reference.present, Reference.contact?])]
    have hw : w.gapState = .moving := (holdW_gapState _).trans hmoving
    have hv : v.gapState = .holding := by
      change (if w.gapState = .moving then setActivity .holding w else w).gapState = .holding
      rw [if_pos hw]
      exact setActivity_gapState _ _
    split
    · rw [changeRun_gapState]
      exact .inr (.inl hv)
    · exact .inr (.inl hv)
  · exact .inl (setReference_gapState hmoving)

theorem startHead_leads (s : State) : Leads s (startHead s) := by
  unfold startHead
  split
  · exact .inl rfl
  · dsimp only
    generalize hu : ({ s with queue := activateHead s.queue } : State) = u
    have hstate : Leads s u := .inl (by rw [← hu]; rfl)
    split
    · exact hstate.trans (.inl (startSetGap_gapState _ _))
    · refine hstate.trans ?_
      unfold startRequestedCalibration
      split
      exacts [.inr (.inr (.inr (setActivity_gapState _ _))), .inl (endActive_gapState _ _)]
    · exact hstate.trans (startLinerChange_leads u)

theorem startHeads_leads (n : Nat) (s : State) : Leads s (startHeads n s) := by
  induction n generalizing s with
  | zero => exact .inl rfl
  | succ n ih =>
    unfold startHeads
    split
    exacts [(startHead_leads s).trans (ih _), .inl rfl]

theorem internalCalibrationTest_leads (s : State) : Leads s (internalCalibrationTest s) := by
  unfold internalCalibrationTest
  split
  exacts [.inr (.inr (.inr (setActivity_gapState _ _))), .inl rfl]

theorem moveTest_leads (s : State) : Leads s (moveTest s) := by
  rcases moveTest_cases s with h | h
  exacts [.inl (congrArg State.gapState h), .inr (.inr (.inl h))]

theorem primingTest_leads (s : State) : Leads s (primingTest s) := by
  unfold primingTest
  split
  · next h => exact .inr (.inl (enterRun_gapState h.2.2))
  · exact .inl rfl

/-- No event's end begins STUCK, a relief or a re-closing. -/
theorem settle_leads (s : State) : Leads s (settle s) :=
  (((startHeads_leads _ s).trans (internalCalibrationTest_leads _)).trans (moveTest_leads _)).trans (primingTest_leads _)

theorem settle_of_holding {s : State} (h : s.gapState = .holding) :
    (settle s).gapState = .holding ∨ (settle s).gapState = .moving ∨ (settle s).gapState = .calibrating := by
  rcases settle_leads s with hl | hl
  exacts [.inl (hl.trans h), hl]

/-! ### The move that is due at the end of an event (R99) -/

/-- G is off W by more than the hold band, or by anything while approach is pending. -/
abbrev State.moveDue (s : State) (g : Nat) : Prop :=
  s.settings.holdBand < gapDistance g s.gap.setpoint ∨ (s.gap.approach = true ∧ g ≠ s.gap.setpoint)

theorem moveTest_of_due {s : State} {g : Nat} (hg : s.gapEstimate = some g) (ha : s.movesAllowed = true)
    (hd : s.moveDue g) : moveTest s = startMove g s := by
  unfold moveTest
  rw [hg]
  exact if_pos ⟨ha, hd⟩

theorem moveTest_of_not_due {s : State} {g : Nat} (hg : s.gapEstimate = some g) (hd : ¬ s.moveDue g) : moveTest s = s := by
  unfold moveTest
  rw [hg]
  exact if_neg fun hc => hd hc.2

theorem moveTest_of_forbidden {s : State} (h : s.movesAllowed = false) : moveTest s = s := by
  unfold moveTest
  split
  · exact if_neg fun hc => by simp [h] at hc
  · rfl

/-- A move that is due in HOLDING ends the event: MOVING from G toward W. -/
theorem settle_of_due {s : State} {g : Nat} (hq : s.queue = []) (hg : s.gapEstimate = some g) (ha : s.movesAllowed = true)
    (hd : s.moveDue g) : settle s = startMove g s := by
  rw [settle_of_nil hq, internalCalibrationTest_of_reference (present_of_gapEstimate hg), moveTest_of_due hg ha hd,
    primingTest_of_not fun hp => ?_]
  have hstate : (startMove g s).gapState = .moving := setActivity_gapState _ _
  simpa [hstate] using hp.2.2

theorem State.moveDue_of_rests {s t : State} (h : Rests s t) (g : Nat) : t.moveDue g ↔ s.moveDue g := by
  unfold State.moveDue
  rw [State.settings_of_still h.still, h.setpoint, h.approach]

theorem State.movesAllowed_of_still {s t : State} (h : t.still = s.still) (hs : s.active = true) (hh : t.gapState = .holding)
    (hr : t.run.state = s.run.state) :
    t.movesAllowed = true ↔ s.gap.reference.present = true ∧ s.monitor.positionValid = true ∧ s.run.state ≠ .tripped := by
  have hactive := State.active_of_state hr hs
  rw [State.movesAllowed_iff, hr, State.reference_of_still h, (State.sensing_of_still h).2.2]
  exact ⟨fun hm => hm.2.2, fun hm => ⟨hactive, hh, hm⟩⟩

theorem primingTest_holding {s : State} (h : s.gapState = .holding) : (primingTest s).gapState = .holding := by
  unfold primingTest
  split
  exacts [enterRun_gapState h, h]

/-- In PRIMING without a reference, with the start conditions met in HOLDING, the event ends with the internal calibration (R120). -/
theorem settle_of_waiting {s : State} (hq : s.queue = []) (hp : s.run.state = .priming)
    (hr : s.gap.reference.present = false) (hh : s.gapState = .holding) (hc : s.calibrationReady = true) :
    settle s = startCalibration .internal s := by
  have hstart : internalCalibrationTest s = startCalibration .internal s :=
    if_pos ⟨State.standingRequest_of_nil hq hp hr, hh, State.active_of_priming hp, hc⟩
  have hstate : (startCalibration .internal s).gapState = .calibrating := setActivity_gapState _ _
  rw [settle_of_nil hq, hstart, moveTest_of_gapState (by simp [hstate]), primingTest_of_not fun hd => by simpa [hstate] using hd.2.2]

/-- In HOLDING, with neither a move due nor the internal calibration to start, the event ends in HOLDING. -/
theorem settle_stays {s : State} (hq : s.queue = []) (hh : s.gapState = .holding) (hm : moveTest s = s)
    (hc : ¬ (s.standingRequest = true ∧ s.calibrationReady = true)) : (settle s).gapState = .holding := by
  rw [settle_of_nil hq, show internalCalibrationTest s = s from if_neg fun h => hc ⟨h.1, h.2.2.2⟩, hm]
  exact primingTest_holding hh

/-! ### The end of a relief (R138, R139) -/

theorem reliefEnds_of_low {s : State} (h : ∀ g, s.gapEstimate = some g → g ≤ s.gap.setpoint) :
    reliefEnds s = setActivity .holding s := by
  cases hg : s.gapEstimate with
  | none =>
    unfold reliefEnds
    rw [hg]
  | some g => exact reliefEnds_of_reached hg (h g hg)

theorem reliefEnds_of_high {s : State} {g : Nat} (hg : s.gapEstimate = some g) (h : s.gap.setpoint < g) :
    reliefEnds s = setActivity (.recovering { mark := g, stall := s.moveTimeoutMs, paused := false }) s := by
  unfold reliefEnds
  rw [hg]
  exact if_neg (Nat.not_le.2 h)

theorem emptyJumpIfOpening_share (s : State) : (emptyJumpIfOpening s).share = s.share := by
  rw [emptyJumpIfOpening_frame]

/-- A gap state that does not feed leaves the available capacity at 0 (R39, R56). -/
theorem setActivity_capacity {act : Activity} (h : act.state.feeds = false) (s : State) :
    (setActivity act s).share.capacity = 0 := by
  have key : ∀ u : State, (zeroIfZeroed (dropCapacity { u with gap.activity := act })).share.capacity = 0 := by
    intro u
    rw [zeroIfZeroed_share, dropCapacity_frame]
    have hoff : ({ u with gap.activity := act } : State).feedPermitted = false := by
      simp [State.feedPermitted, State.gapState, h]
    exact if_neg (by simp [hoff])
  unfold setActivity
  rw [emptyJumpIfOpening_share]
  exact key _

/-- Between two gap states other than STUCK, one that does not feed and does not open writes the activity and stops the feeder. -/
theorem setActivity_stopped {act : Activity} {s : State} (h : s.gapState ≠ .stuck) (hf : act.state.feeds = false)
    (ho : act.asks ≠ .opening) :
    setActivity act s = { s with gap.activity := act
                                 drive := (setActivity act s).drive, share.capacity := 0
                                 monitor.nofeed := (setActivity act s).monitor.nofeed
                                 run.clearTimer := (setActivity act s).run.clearTimer } := by
  obtain ⟨happroach, hhistory⟩ := setActivity_approach_history (act := act) (s := s) fun hc => h hc.1
  conv_lhs => rw [setActivity_frame, setActivity_setpoint act h, happroach, hhistory, setActivity_jumpWindow ho,
    setActivity_capacity hf]
  rw [setActivity_frame]

theorem driveModeOf_of_not_feeding (r : RunState) {g : GapState} (h : g.feeds = false) : driveModeOf r g = .zeroed := by
  cases r <;> simp [driveModeOf, h]

/-- Settles O42: a relief ends in RECOVERING, with which the event ends, or in HOLDING, from which the tests of its end go on. -/
theorem settledReliefRecovers : Obligations.SettledReliefRecovers := by
  intro s left hactive hact
  have hexec := execSettleTimerExpiry_of_relieved hact hactive
  have hfree : s.gapState ≠ .stuck := by simp [State.gapState, hact, Activity.state]
  refine ⟨fun g hg habove => ?_, fun hlow => ?_⟩
  · have hends := reliefEnds_of_high hg habove
    have hbusy : settle (reliefEnds s) = reliefEnds s := by
      refine settle_of_busy ?_ ?_ <;> rw [hends, setActivity_gapState] <;> simp [Activity.state]
    refine ⟨_, hexec, ?_, ?_, ?_⟩ <;> rw [hbusy, hends]
    · exact setActivity_stopped hfree rfl (by simp [Activity.asks])
    · exact setActivity_output_of_zeroed (driveModeOf_of_not_feeding _ rfl)
    · rw [setActivity_activity]
      rfl
  · have hends := reliefEnds_of_low hlow
    have hholding : (reliefEnds s).gapState = .holding := by
      rw [hends]
      exact setActivity_gapState _ _
    have hends' : (settle (reliefEnds s)).gapState = .holding ∨ (settle (reliefEnds s)).gapState = .moving ∨
        (settle (reliefEnds s)).gapState = .calibrating := settle_of_holding hholding
    refine ⟨_, hexec, ?_, ?_, ?_, fun hq => ?_⟩
    iterate 3 rcases hends' with h | h | h <;> simp [h]
    have hrests : Rests s (reliefEnds s) := hends ▸ setActivity_rests _ hfree
    have hstate : (reliefEnds s).run.state = s.run.state := (reliefEnds_effect s).2.2
    have hzeroed : s.run.state = .priming → (reliefEnds s).drive.output = 0 := fun hp => by
      rw [hends]
      exact setActivity_output_of_zeroed (by rw [hp]; rfl)
    generalize reliefEnds s = u at hholding hrests hstate hzeroed
    have hnil : u.queue = [] := hrests.queue.trans hq
    have hsettled := settle_rests hnil
    refine ⟨(State.reference_of_still hsettled.still).trans (State.reference_of_still hrests.still),
      hsettled.setpoint.trans hrests.setpoint, fun hdue => ?_, fun hcal => ?_, fun hdue hcal => ?_⟩
    · obtain ⟨hvalid, hrun, g, hg, hoff⟩ := hdue
      have hgu := (State.gapEstimate_of_still hrests.still).trans hg
      have hallowed : u.movesAllowed = true :=
        (State.movesAllowed_of_still hrests.still hactive hholding hstate).2 ⟨present_of_gapEstimate hg, hvalid, hrun⟩
      rw [settle_of_due hnil hgu hallowed ((State.moveDue_of_rests hrests g).2 hoff)]
      exact setActivity_gapState _ _
    · obtain ⟨hp, hreference, hmotor, hvalid, hempty⟩ := hcal
      have hpresent : u.gap.reference.present = false :=
        Reference.not_present_iff.2 ((State.reference_of_still hrests.still).trans hreference)
      have hready : u.calibrationReady = true :=
        (State.calibrationReady_of_still hrests.still (hzeroed hp) hvalid (by simp [hstate, hp])).2 ⟨hmotor, hempty⟩
      have hstart := settle_of_waiting hnil (hstate.trans hp) hpresent hholding hready
      rw [hstart]
      exact setActivity_gapState _ _
    · refine settle_stays hnil hholding ?_ fun hc => hcal ?_
      · cases hg : s.gapEstimate with
        | none => exact moveTest_of_noEstimate ((State.gapEstimate_of_still hrests.still).trans hg)
        | some g =>
          cases hallowed : u.movesAllowed with
          | false => exact moveTest_of_forbidden hallowed
          | true =>
            obtain ⟨-, hvalid, hrun⟩ := (State.movesAllowed_of_still hrests.still hactive hholding hstate).1 hallowed
            refine moveTest_of_not_due ((State.gapEstimate_of_still hrests.still).trans hg) fun hoff => hdue ?_
            exact ⟨hvalid, hrun, g, hg, (State.moveDue_of_rests hrests g).1 hoff⟩
      · obtain ⟨hp, hpresent, -, -⟩ := State.standingRequest_iff.1 hc.1
        have hp' := hstate.symm.trans hp
        have hvalid : u.monitor.positionValid = true := (State.calibrationReady_iff.1 hc.2).2.2.2.1
        rw [(State.sensing_of_still hrests.still).2.2] at hvalid
        obtain ⟨hmotor, hempty⟩ :=
          (State.calibrationReady_of_still hrests.still (hzeroed hp') hvalid (by simp [hp])).1 hc.2
        rw [State.reference_of_still hrests.still] at hpresent
        exact ⟨hp', Reference.not_present_iff.1 hpresent, hmotor, hvalid, hempty⟩

end Sys2Proof.Machine

/-! ## CANCEL (O47) -/

namespace Sys2Proof.Machine

/-! ### The entry that a CANCEL names (R146) -/

theorem named_iff {requester : Byte} {argument : Word} {e : Entry} :
    named requester argument e = true ↔ e.requester = requester ∧ e.tag.toNat = argument.toNat := by
  simp [named]

theorem key_of_named {requester : Byte} {argument : Word} {e f : Entry} (he : named requester argument e = true)
    (hf : named requester argument f = true) : f.key = e.key := by
  obtain ⟨hr, ht⟩ := named_iff.1 he
  obtain ⟨hr', ht'⟩ := named_iff.1 hf
  exact Prod.ext (hr'.trans hr.symm) (BitVec.eq_of_toNat_eq (ht'.trans ht.symm))

section
variable {requester : Byte} {argument : Word} {before after : List Entry} {e : Entry}

/-- Where no two entries share requester and tag, a CANCEL names one entry at most. -/
theorem not_named_of_nodup (h : ((before ++ e :: after).map Entry.key).Nodup) (he : named requester argument e = true) :
    ∀ f ∈ before ++ after, named requester argument f = false := by
  intro f hf
  refine Bool.eq_false_iff.2 fun hn => ?_
  have hkey := key_of_named he hn
  have hmoved : ((e :: (before ++ after)).map Entry.key).Nodup :=
    (List.Perm.map Entry.key List.perm_middle).nodup_iff.1 h
  exact (List.nodup_cons.1 hmoved).1 (hkey ▸ List.mem_map_of_mem hf)

theorem find?_named (h : ((before ++ e :: after).map Entry.key).Nodup) (he : named requester argument e = true) :
    (before ++ e :: after).find? (named requester argument) = some e := by
  have hbefore : before.find? (named requester argument) = none :=
    List.find?_eq_none.2 fun f hf hn => by simp [not_named_of_nodup h he f (List.mem_append_left _ hf)] at hn
  rw [List.find?_append, hbefore, List.find?_cons_of_pos he]
  rfl

theorem filter_named (h : ((before ++ e :: after).map Entry.key).Nodup) (he : named requester argument e = true) :
    (before ++ e :: after).filter (fun f => !named requester argument f) = before ++ after := by
  have hrest : (before ++ after).filter (fun f => !named requester argument f) = before ++ after :=
    List.filter_eq_self.2 fun f hf => by simp [not_named_of_nodup h he f hf]
  rw [List.filter_append, List.filter_cons_of_neg (by simp [he]), ← List.filter_append, hrest]

end

/-! ### The cancelled entry (R112, R126, R146) -/

/-- What the cancelling of an ACTIVE entry ends beside the entry itself. -/
def cancelEffect (k : QueuedKind) (s : State) : State :=
  match k with
  | .setGap => restW (if s.gapState = .moving then setActivity .holding s else s)
  | .calibrate => if s.gapState = .calibrating then stopCalibration s else s
  | .linerChange => s

theorem cancelActive_eq (k : QueuedKind) (s : State) :
    cancelActive k s = cancelEffect k (endActive (.stopped .cancelled) s) := by
  cases k <;> rfl

theorem cancelEntry_unnamed {header : Address} {tag : BitVec 3} {argument : Word} {s : State}
    (h : ∀ e ∈ s.queue, ¬ named header.source argument e = true) :
    cancelEntry header tag argument s = answerNow header tag (some .cancel) (.refused .noSuchTag) s := by
  unfold cancelEntry
  rw [List.find?_eq_none.2 h]

/-- A WAITING entry that is named leaves the queue, answered before the CANCEL itself. -/
theorem cancelEntry_waiting {header : Address} {tag : BitVec 3} {argument : Word} {s : State} {before after : List Entry}
    {e : Entry} (hq : s.queue = before ++ e :: after) (he : named header.source argument e = true) (hw : e.active = false)
    (hn : (s.queue.map Entry.key).Nodup) :
    cancelEntry header tag argument s = settle { s with
      queue := before ++ after
      line := (s.line.push (plainAnswer e.requester e.tag (some e.kind.request) .cancelled)).push
        (plainAnswer header.source tag (some .cancel) .done) } := by
  rw [hq] at hn
  unfold cancelEntry
  rw [hq, find?_named hn he]
  dsimp only
  rw [filter_named hn he, hw]
  rfl

/-- An ACTIVE entry that is named ends, with what it was doing, before the CANCEL itself is answered. -/
theorem cancelEntry_active_head {header : Address} {tag : BitVec 3} {argument : Word} {s : State} {e : Entry} {rest : List Entry}
    (hq : s.queue = e :: rest) (he : named header.source argument e = true) (ha : e.active = true) :
    cancelEntry header tag argument s = settle (answerNow header tag (some .cancel) .done (cancelEffect e.kind
      { s with queue := rest, line := s.line.push (s.entryAnswer e (.stopped .cancelled)) })) := by
  unfold cancelEntry
  rw [hq, List.find?_cons_of_pos he]
  dsimp only
  rw [if_pos ha, cancelActive_eq, endActive_of_active _ hq ha]

theorem restW_of_estimate {s : State} {g : Nat} (hg : s.gapEstimate = some g) :
    restW s = { s with gap.setpoint := s.heldInWindow g, gap.approach := false } := by
  unfold restW
  rw [hg]

/-- W set to rest writes W and its approach mark only. -/
theorem restW_frame (s : State) :
    restW s = { s with gap.setpoint := (restW s).gap.setpoint, gap.approach := (restW s).gap.approach } := by
  unfold restW
  split <;> rfl

/-- A move that a CANCEL ends, before W is set to rest. -/
def moveEnded (s : State) : State := if s.gapState = .moving then setActivity .holding s else s

theorem moveEnded_rests (s : State) : Rests s (moveEnded s) := by
  unfold moveEnded
  split
  · next h => exact setActivity_rests _ (by simp [h])
  · exact .refl s

theorem cancelEffect_still (k : QueuedKind) (s : State) : (cancelEffect k s).still = s.still := by
  cases k with
  | setGap => exact (restW_still (moveEnded s)).trans (moveEnded_rests s).still
  | calibrate =>
    unfold cancelEffect
    dsimp only
    split
    exacts [setActivity_still _ _, rfl]
  | linerChange => rfl

theorem cancelEffect_state (k : QueuedKind) (s : State) : (cancelEffect k s).run.state = s.run.state := by
  cases k with
  | setGap =>
    refine (restW_state (moveEnded s)).trans ?_
    unfold moveEnded
    split
    exacts [setActivity_state _ _, rfl]
  | calibrate =>
    unfold cancelEffect
    dsimp only
    split
    exacts [setActivity_state _ _, rfl]
  | linerChange => rfl

theorem cancelEffect_waiting (k : QueuedKind) (s : State) :
    (cancelEffect k s).queue = s.queue ∧ (cancelEffect k s).line = s.line ∧ (cancelEffect k s).faults = s.faults := by
  cases k with
  | setGap =>
    have hrests := moveEnded_rests s
    have heffect : cancelEffect .setGap s = restW (moveEnded s) := rfl
    rw [heffect, restW_frame]
    refine ⟨hrests.queue, hrests.line, ?_⟩
    change (moveEnded s).faults = s.faults
    unfold moveEnded
    split
    exacts [setActivity_faults _ _, rfl]
  | calibrate =>
    unfold cancelEffect
    dsimp only
    split
    exacts [⟨setActivity_queue _ _, setActivity_line _ _, setActivity_faults _ _⟩, ⟨rfl, rfl, rfl⟩]
  | linerChange => exact ⟨rfl, rfl, rfl⟩

/-- A SET_GAP that a CANCEL ends: the move stops and W becomes G held within the window. -/
theorem cancelEffect_setGap {s : State} {g : Nat} (hg : s.gapEstimate = some g) :
    let t := cancelEffect .setGap s
    t.gap.setpoint = s.heldInWindow g ∧ t.gap.approach = false ∧ (s.gapState = .moving → t.gapState = .holding) := by
  have hstill := (moveEnded_rests s).still
  have heffect : cancelEffect .setGap s = restW (moveEnded s) := rfl
  rw [heffect, restW_of_estimate ((State.gapEstimate_of_still hstill).trans hg)]
  refine ⟨State.heldInWindow_of_still hstill g, rfl, fun hmoving => ?_⟩
  have hended : moveEnded s = setActivity .holding s := if_pos hmoving
  have hholding : (moveEnded s).gapState = .holding := hended ▸ setActivity_gapState _ _
  exact hholding

theorem cancelEffect_calibrate {s : State} (h : s.gapState = .calibrating) :
    cancelEffect .calibrate s = stopCalibration s := if_pos h

/-! ### The statement (O47) -/

theorem exec_cancel_taken {header : Address} {tag : BitVec 3} {argument : Word} {s : State}
    (haddr : s.addressedAlone header = true) (ha : s.active = true) (hr : s.line.receiver ≠ .waitingIdle) :
    exec (.cancel header tag argument) s = .next (cancelEntry header tag argument (frameEnds s)) :=
  congrArg Host.Outcome.next (onRequest_taken _ haddr ha hr)

/-- A W at G with no approach pending, and a reference, leave the gap at HOLDING. -/
theorem settle_at_rest {s : State} {g : Nat} (hq : s.queue = []) (hh : s.gapState = .holding) (hg : s.gapEstimate = some g)
    (hw : s.gap.setpoint = g) (hp : s.gap.approach = false) : (settle s).gapState = .holding := by
  refine settle_stays hq hh (moveTest_of_close hg ?_ (.inl hp)) fun hc => ?_
  · simp [hw, gapDistance]
  · simpa [present_of_gapEstimate hg] using (State.standingRequest_iff.1 hc.1).2.1

/-- A SET_GAP that starts without a reference ends STOPPED(BLOCKED), with no distances (R111, R112). -/
theorem settle_setGap_of_unreferenced {s : State} {e : Entry} (ha : s.active = true)
    (hg : s.gapState = .holding ∨ s.gapState = .stuck) (hq : s.queue = [e]) (he : e.active = false) (hk : e.kind = .setGap)
    (hr : s.gap.reference = .unreferenced) :
    (settle s).queue = [] ∧ (settle s).line = s.line.push
      { requester := e.requester, tag := e.tag, kind := some e.kind.request, outcome := .stopped .blocked
        remaining := none, reached := none, data := none } := by
  have hpresent : ¬ (activated e s).gap.reference.present = true := by
    change ¬ s.gap.reference.present = true
    simp [hr, Reference.present, Reference.contact?]
  have hhead : startHead s = ended e (.stopped .blocked) s := by
    have hblocked : startSetGap e (activated e s) = endActive (.stopped .blocked) (activated e s) := if_pos hpresent
    rw [startHead_of_single hq, hk]
    dsimp only
    rw [hblocked, endActive_of_active (s := activated e s) _ rfl rfl]
    rfl
  have hestimate : s.gapEstimate = none := gapEstimate_of_absent (.inl hr)
  have hrests := tests_rest (s := ended e (.stopped .blocked) s) rfl
  rw [settle_of_single ha hg hq he, hhead]
  refine ⟨hrests.queue, hrests.line.trans ?_⟩
  simp only [ended, State.entryAnswer, State.remaining, hestimate]
  rfl

/-- Settles O47: what a CANCEL ends is settled entry by entry, and the end of the event leaves W and the answers. -/
theorem cancelEndsTheNamedEntry : Obligations.CancelEndsTheNamedEntry := by
  intro header tag argument s haddr hactive hreceiver names l own ended
  have hexec := exec_cancel_taken (tag := tag) (argument := argument) haddr hactive hreceiver
  refine ⟨fun hnone => ?_, fun before e after hq hname hwait hnodup => ⟨fun h1 h2 => ?_, fun h before' hb ha hp => ?_⟩,
    fun e hq hname ha => ?_, fun e f hq hname ha hk hf hwait hreference hgap => ?_⟩
  · rw [hexec, cancelEntry_unnamed (s := frameEnds s) fun e he hn => hnone e he (named_iff.1 hn)]
    rfl
  · rw [hexec, cancelEntry_waiting (s := frameEnds s) hq (named_iff.2 hname) hwait hnodup]
    exact congrArg Host.Outcome.next (settle_of_busy h1 h2)
  · refine ⟨_, hexec, ?_⟩
    rw [cancelEntry_waiting (s := frameEnds s) hq (named_iff.2 hname) hwait hnodup]
    generalize hu : ({ frameEnds s with
      queue := before ++ after
      line := ((frameEnds s).line.push (plainAnswer e.requester e.tag (some e.kind.request) .cancelled)).push
        (plainAnswer header.source tag (some .cancel) .done) } : State) = u
    have hqueue : u.queue = before ++ after := hu ▸ rfl
    have hstart : u.headStartable = false := by
      refine Bool.eq_false_iff.2 fun hc => ?_
      obtain ⟨-, -, x, xs, hx, hxw⟩ := State.headStartable_iff.1 hc
      rw [hqueue, hb, List.cons_append, List.cons.injEq] at hx
      rw [← hx.1, ha] at hxw
      cases hxw
    rw [settle_of_not_priming hstart (by rw [← hu]; exact hp)]
    have hrests := moveTest_rests u
    have hstands := moveTest_stands u
    rw [hrests.queue, hrests.line, hstands.run, hstands.faults, ← hu]
    exact ⟨rfl, rfl, rfl, rfl⟩
  · refine ⟨_, hexec, ?_⟩
    rw [cancelEntry_active_head (s := frameEnds s) hq (named_iff.2 hname) ha]
    generalize hw : ({ frameEnds s with
      queue := [], line := (frameEnds s).line.push ((frameEnds s).entryAnswer e (.stopped .cancelled)) } : State) = w
    have hwait := cancelEffect_waiting e.kind w
    have hstill := (answerNow_still header tag (some .cancel) .done (cancelEffect e.kind w)).trans (cancelEffect_still e.kind w)
    obtain ⟨u, hu⟩ : ∃ u, u = answerNow header tag (some .cancel) .done (cancelEffect e.kind w) := ⟨_, rfl⟩
    have hgap : u.gap = (cancelEffect e.kind w).gap := hu ▸ rfl
    have hrun : u.run.state = s.run.state := hu ▸ (cancelEffect_state e.kind w).trans (hw ▸ rfl)
    have hfaults : u.faults = s.faults := hu ▸ hwait.2.2.trans (hw ▸ rfl)
    have hqueue : u.queue = [] := hu ▸ hwait.1.trans (hw ▸ rfl)
    have hline : u.line = ended e := by
      have hanswered : u.line = (cancelEffect e.kind w).line.push (own .done) := hu ▸ rfl
      rw [hanswered, hwait.2.1, ← hw]
      rfl
    rw [← hu] at hstill ⊢
    have hsettled := settle_rests hqueue
    have hkept := hsettled.still.trans hstill
    refine ⟨hsettled.queue.trans hqueue, hsettled.line.trans hline, (State.target_of_still hkept).trans (hw ▸ rfl),
      (State.reference_of_still hkept).trans (hw ▸ rfl), fun g hk hg => ?_, fun hk hcal => ?_, fun _ => ?_⟩
    · have hgw : w.gapEstimate = some g := hw ▸ hg
      obtain ⟨hsetpoint, happroach, hmoving⟩ := cancelEffect_setGap hgw
      rw [← hk, ← hgap] at hsetpoint happroach
      refine ⟨hsettled.setpoint.trans (hsetpoint.trans (hw ▸ rfl)), hsettled.approach.trans happroach, fun hm heq => ?_⟩
      have hholding : u.gapState = .holding := by
        rw [State.gapState, hgap, hk]
        exact hmoving (hw ▸ hm)
      refine settle_at_rest hqueue hholding ((State.gapEstimate_of_still hstill).trans hgw) ?_ happroach
      rw [hsetpoint, ← hw]
      exact heq
    · have hwcal : w.gapState = .calibrating := hw ▸ hcal
      rw [hk, cancelEffect_calibrate hwcal] at hgap
      obtain ⟨hholding, -, hrests⟩ := stopCalibration_holds hwcal
      refine ⟨?_, ?_, (State.wearAcc_of_wear (State.wear_of_still hkept)).trans (hw ▸ rfl), fun hp => ?_⟩
      · rw [hsettled.approach, hgap, hrests.approach, ← hw]
        rfl
      · rw [hsettled.setpoint, hgap, hrests.setpoint, ← hw]
        rfl
      · rw [settle_of_not_priming (State.headStartable_of_nil hqueue) (by rw [hrun]; exact hp), (moveTest_stands u).faults]
        refine ⟨?_, hfaults⟩
        have hu' : u.gapState = .holding := by
          rw [State.gapState, hgap]
          exact hholding
        rcases moveTest_cases u with h | h
        · simp [h, hu']
        · simp [h]
    · exact ⟨(State.interface_of_still hkept).trans (hw ▸ rfl), (State.memory_of_still hkept).trans (hw ▸ rfl),
        (State.linerTonnes_of_wear (State.wear_of_still hkept)).trans (hw ▸ rfl),
        (State.reference_of_wear (State.wear_of_still hkept)).2.1.trans (hw ▸ rfl),
        (State.reference_of_wear (State.wear_of_still hkept)).2.2.1.trans (hw ▸ rfl)⟩
  · refine ⟨_, hexec, ?_⟩
    rw [cancelEntry_active_head (s := frameEnds s) hq (named_iff.2 hname) ha, hk]
    have hstart := settle_setGap_of_unreferenced (e := f) (s := answerNow header tag (some .cancel) .done (cancelEffect .linerChange
      { frameEnds s with queue := [f], line := (frameEnds s).line.push ((frameEnds s).entryAnswer e (.stopped .cancelled)) }))
      hactive hgap rfl hwait hf hreference
    rw [hstart.1, hstart.2, hf]
    exact ⟨rfl, rfl⟩

end Sys2Proof.Machine

/-! ## Stalls (O32) -/

namespace Sys2Proof.Machine

/-! ### The entry that a drive carries (R112, R125) -/

/-- The queue is empty, or its only entry is ACTIVE and of kind `k`. -/
abbrev Carries (k : QueuedKind) (s : State) : Prop :=
  s.queue = [] ∨ ∃ e, s.queue = [e] ∧ e.active = true ∧ e.kind = k

/-- An entry that its drive carries ends: the queue is empty, and the entry answered where there was one. -/
theorem endActiveOf_carried {k : QueuedKind} {s : State} (o : AnswerOutcome) (h : Carries k s) :
    ∃ l, endActiveOf k o s = { s with queue := [], line := l } ∧ (s.queue = [] → l = s.line) ∧
      ∀ e, s.queue = [e] → l = s.line.push (s.entryAnswer e o) := by
  rcases h with hq | ⟨e, hq, ha, hk⟩
  · refine ⟨s.line, ?_, fun _ => rfl, fun e he => by simp [hq] at he⟩
    rw [endActiveOf_of_nil k o hq, ← hq]
  · refine ⟨_, endActiveOf_of_active o hq ha hk, fun hn => by simp [hq] at hn, fun f hf => ?_⟩
    rw [hq] at hf
    rw [(List.cons.inj hf).1]

/-! ### A drive that ends STUCK (R104, R125, R139) -/

theorem stickAt_fields {s : State} {g : Nat} (hg : s.gapEstimate = some g) (hfree : s.gapState ≠ .stuck) :
    let t := stickAt s
    t.gapState = .stuck ∧ t.valve = .off ∧ .gapStall ∈ t.faults.seen ∧ t.run.state = s.run.state ∧
      t.gap.setpoint = s.heldInWindow g ∧ t.gap.approach = false ∧ t.still = s.still ∧ t.queue = s.queue ∧ t.line = s.line := by
  have hnoted : report .gapStall false s = noteFault .gapStall s := report_of_noted _ (.inl rfl)
  have hrest : restW (noteFault .gapStall s) =
      { noteFault .gapStall s with gap.setpoint := s.heldInWindow g, gap.approach := false } :=
    restW_of_estimate (s := noteFault .gapStall s) hg
  obtain ⟨u, hu⟩ : ∃ u : State, u = { noteFault .gapStall s with gap.setpoint := s.heldInWindow g, gap.approach := false } :=
    ⟨_, rfl⟩
  have hstick : stickAt s = setActivity .stuck u := by rw [stickAt, hnoted, hrest, hu]
  have hrests : Rests u (setActivity .stuck u) := setActivity_rests _ (by rw [hu]; exact hfree)
  rw [hstick]
  refine ⟨setActivity_gapState _ _, ?_, ?_, ?_, hrests.setpoint.trans (hu ▸ rfl), hrests.approach.trans (hu ▸ rfl),
    hrests.still.trans (hu ▸ rfl), hrests.queue.trans (hu ▸ rfl), hrests.line.trans (hu ▸ rfl)⟩
  · unfold State.valve
    rw [setActivity_activity]
    exact ite_self _
  · rw [setActivity_faults, hu]
    exact (noteFault_seen _ _ s).2 (.inl rfl)
  · rw [setActivity_state, hu]
    rfl

/-- W at rest where the drive stood, and the queue empty. -/
structure AtRest (s : State) (g : Nat) (t : State) : Prop where
  setpoint  : t.gap.setpoint = s.heldInWindow g
  approach  : t.gap.approach = false
  target    : t.gap.target = s.gap.target
  reference : t.gap.reference = s.gap.reference
  queue     : t.queue = []

/-- STUCK with the valve off and GAP_STALL reported, the run state as it was. -/
structure Stuck (s t : State) : Prop where
  gapState : t.gapState = .stuck
  valve    : t.valve = .off
  seen     : .gapStall ∈ t.faults.seen
  state    : t.run.state = s.run.state

/-- A drive that stalls and sticks ends its entry, and with STUCK the event. -/
theorem settle_stickAt {k : QueuedKind} {s : State} {g : Nat} (hg : s.gapEstimate = some g) (hfree : s.gapState ≠ .stuck)
    (h : Carries k s) :
    let t := settle (stickAt (endActiveOf k (.stopped .stall) s))
    AtRest s g t ∧ Stuck s t ∧ (s.queue = [] → t.line = s.line) ∧
      ∀ e, s.queue = [e] → t.line = s.line.push (s.entryAnswer e (.stopped .stall)) := by
  obtain ⟨l, hend, hnone, hone⟩ := endActiveOf_carried (.stopped .stall) h
  rw [hend]
  generalize hw : ({ s with queue := [], line := l } : State) = w
  obtain ⟨hstuck, hvalve, hseen, hstate, hsetpoint, happroach, hstill, hqueue, hline⟩ :=
    stickAt_fields (s := w) (g := g) (hw ▸ hg) (hw ▸ hfree)
  have hnil : (stickAt w).queue = [] := hqueue.trans (hw ▸ rfl)
  rw [settle_of_nil hnil, tests_of_gapState (by simp [hstuck])]
  exact ⟨⟨hsetpoint.trans (hw ▸ rfl), happroach, (State.target_of_still hstill).trans (hw ▸ rfl),
    (State.reference_of_still hstill).trans (hw ▸ rfl), hnil⟩, ⟨hstuck, hvalve, hseen, hstate.trans (hw ▸ rfl)⟩,
    fun hq => hline.trans ((hw ▸ rfl : w.line = l).trans (hnone hq)),
    fun e he => hline.trans ((hw ▸ rfl : w.line = l).trans (hone e he))⟩

/-! ### The first stall of a move (R103) -/

/-- The move that a first stall at `g` leaves: reversed by 2 mm, or resumed at once where an opening move has no way back. -/
def reversedMove (timeout g : Nat) (m : Move) : Move :=
  { m with
    stallCount := 1, mark := g, stall := timeout
    reversal := if m.direction = .closing then some (g + 20) else if g = 0 then none else some (g - 20)
    paused := false }

theorem moveStalls_of_first {s : State} {m : Move} {g : Nat} (hg : s.gapEstimate = some g)
    (hc : m.stallCount = 0) (hn : m.noRetry = false) :
    moveStalls m g s = { s with
      gap.activity := .moving (reversedMove s.moveTimeoutMs g m)
      gap.jumpWindow := if m.direction = .closing ∨ g = 0 then [] else s.gap.jumpWindow } := by
  obtain ⟨turned, hturned⟩ : ∃ t : Move, t = { m with
      stallCount := 1, mark := g, stall := s.moveTimeoutMs, reversal := some (reversalGoal m.direction g), paused := false } :=
    ⟨_, rfl⟩
  have hstall : moveStalls m g s = reversalTest (updateActivity (.moving turned) s) := by
    rw [hturned]
    exact (if_pos hc).trans (if_neg (by simp [hn]))
  have hestimate : (updateActivity (.moving turned) s).gapEstimate = some g := by
    rw [State.gapEstimate_of_still (updateActivity_still _ s), hg]
  have htest : reversalTest (updateActivity (.moving turned) s) =
      if turned.reversalDone g then
        updateActivity (.moving (turned.resume (updateActivity (.moving turned) s).moveTimeoutMs g))
          (updateActivity (.moving turned) s)
      else updateActivity (.moving turned) s := by
    unfold reversalTest
    rw [updateActivity_activity, hestimate]
  have hsettings : (updateActivity (.moving turned) s).moveTimeoutMs = s.moveTimeoutMs := by
    rw [updateActivity_frame]
    rfl
  rw [hstall, htest, hsettings]
  cases hd : m.direction with
  | closing =>
    have hdone : turned.reversalDone g = false := by simp [hturned, Move.reversalDone, Move.drivesOpen, hd, reversalGoal]
    rw [hdone, if_neg Bool.false_ne_true, updateActivity_of_opening (by simp [hturned, Activity.asks, hd])]
    simp [hturned, reversedMove, hd, reversalGoal]
  | opening =>
    by_cases hzero : g = 0
    · have hdone : turned.reversalDone g = true := by
        simp [hturned, Move.reversalDone, Move.drivesOpen, hd, reversalGoal, hzero]
      rw [hdone, if_pos rfl, updateActivity_of_opening (by simp [hturned, Activity.asks, Move.resume, hd]),
        updateActivity_of_not_opening (by simp [hturned, Activity.asks, hd])]
      simp [hturned, reversedMove, Move.resume, hd, hzero]
    · have hdone : turned.reversalDone g = false := by
        have hback : ¬ g ≤ g - 20 := by omega
        simp [hturned, Move.reversalDone, Move.drivesOpen, hd, reversalGoal, hback]
      rw [hdone, if_neg Bool.false_ne_true, updateActivity_of_not_opening (by simp [hturned, Activity.asks, hd])]
      simp [hturned, reversedMove, hd, reversalGoal, hzero]

/-! ### A move that ends without a fault (R103, R112) -/

theorem settle_moveStalls_of_noRetry {s : State} {m : Move} {g : Nat} (hg : s.gapEstimate = some g)
    (hfree : s.gapState ≠ .stuck) (hc : m.stallCount = 0) (hn : m.noRetry = true) (h : Carries .setGap s) :
    let t := settle (moveStalls m g s)
    AtRest s g t ∧ (s.queue = [] → t.line = s.line) ∧
      (∀ e, s.queue = [e] → t.line = s.line.push (s.entryAnswer e (.stopped .stall))) ∧
      (s.run.state ≠ .priming → t.gapState ≠ .stuck ∧ t.faults = s.faults) := by
  have hstall : moveStalls m g s = setActivity .holding (restW (endActiveOf .setGap (.stopped .stall) s)) :=
    (if_pos hc).trans (if_pos hn)
  obtain ⟨l, hend, hnone, hone⟩ := endActiveOf_carried (.stopped .stall) h
  have hrest : restW { s with queue := [], line := l } =
      { s with queue := [], line := l, gap.setpoint := s.heldInWindow g, gap.approach := false } :=
    restW_of_estimate (s := { s with queue := [], line := l }) hg
  rw [hstall, hend, hrest]
  generalize hw : ({ s with queue := [], line := l, gap.setpoint := s.heldInWindow g, gap.approach := false } : State) = w
  have hrests : Rests w (setActivity .holding w) := setActivity_rests _ (hw ▸ hfree)
  have hholding : (setActivity .holding w).gapState = .holding := setActivity_gapState _ _
  have hfaults : (setActivity .holding w).faults = w.faults := setActivity_faults _ _
  have hstate : (setActivity .holding w).run.state = w.run.state := setActivity_state _ _
  generalize setActivity .holding w = u at hrests hholding hfaults hstate
  have hnil : u.queue = [] := hrests.queue.trans (hw ▸ rfl)
  have hsettled := hrests.trans (settle_rests hnil)
  refine ⟨⟨hsettled.setpoint.trans (hw ▸ rfl), hsettled.approach.trans (hw ▸ rfl),
    (State.target_of_still hsettled.still).trans (hw ▸ rfl), (State.reference_of_still hsettled.still).trans (hw ▸ rfl),
    hsettled.queue.trans (hw ▸ rfl)⟩, fun hq => hsettled.line.trans ((hw ▸ rfl : w.line = l).trans (hnone hq)),
    fun e he => hsettled.line.trans ((hw ▸ rfl : w.line = l).trans (hone e he)), fun hp => ⟨?_, ?_⟩⟩
  · rcases settle_of_holding hholding with h | h | h <;> simp [h]
  · rw [settle_of_not_priming (State.headStartable_of_nil hnil) (by rw [hstate, ← hw]; exact hp), (moveTest_stands u).faults,
      hfaults, ← hw]

/-! ### The statement (O32) -/

theorem exec_stallTimerExpiry {s : State} (ha : s.active = true) (hv : s.monitor.positionValid = true) :
    exec .stallTimerExpiry s = .next (stall s) :=
  congrArg Host.Outcome.next (if_pos ⟨ha, hv⟩)

section
variable {s : State} {g : Nat} (hg : s.gapEstimate = some g)
include hg

theorem stall_of_moving {m : Move} (h : s.gap.activity = .moving m) :
    stall s = if m.paused then s else settle (moveStalls m g s) := by
  unfold stall
  rw [h, hg]

theorem stall_of_backing {c : Calibration} {mark left : Nat} (h : s.gap.activity = .calibrating c)
    (hc : c.phase = .backing mark left) :
    stall s = settle (stickAt (endActiveOf .calibrate (.stopped .stall) s)) := by
  unfold stall
  rw [h, hg]
  simp only [hc]

theorem stall_of_recovering {r : Reclosing} (h : s.gap.activity = .recovering r) :
    stall s = if r.paused then s else settle (stickAt s) := by
  unfold stall
  rw [h, hg]

end

/-- Settles O32, by the activity that stalls: a move by its stall count and NO_RETRY, BACKING, a re-closing. -/
theorem stallsReverseOrEndTheMove : Obligations.StallsReverseOrEndTheMove := by
  intro s g hactive hvalid hg answered atRest stuck
  have hexec := exec_stallTimerExpiry hactive hvalid
  have hanswered : ∀ e, s.line.push (s.entryAnswer e (.stopped .stall)) = answered e := fun e => by
    simp only [State.entryAnswer, State.remaining, hg]
    rfl
  have hmoving : ∀ m, s.gap.activity = .moving m → s.gapState ≠ .stuck := fun m h => by
    simp [State.gapState, h, Activity.state]
  refine ⟨fun m h hp => ?_, fun m h hp hc hn => ?_, fun m h hp hend hq => ?_, fun c mark left h hc hq => ?_,
    fun r h hp => ?_, fun r h hp hq => ?_⟩
  · rw [hexec, stall_of_moving hg h, if_pos hp]
  · rw [hexec, stall_of_moving hg h, hp, if_neg Bool.false_ne_true, moveStalls_of_first hg hc hn,
      settle_of_busy (by simp [State.gapState, Activity.state]) (by simp [State.gapState, Activity.state])]
    rfl
  · have hstall : stall s = settle (moveStalls m g s) := by
      rw [stall_of_moving hg h, hp, if_neg Bool.false_ne_true]
    refine ⟨_, hexec, ?_⟩
    rw [hstall]
    by_cases hc : m.stallCount = 0
    · obtain ⟨hrest, hnone, hone, hfree⟩ :=
        settle_moveStalls_of_noRetry hg (hmoving m h) hc (hend.resolve_left (not_not.2 hc)) hq
      exact ⟨⟨hrest.1, hrest.2, hrest.3, hrest.4, hrest.5⟩, hnone, fun e he => (hone e he).trans (hanswered e),
        fun hn => absurd hc hn, fun _ hp => hfree hp⟩
    · have hsecond : moveStalls m g s = stickAt (endActiveOf .setGap (.stopped .stall) s) := if_neg hc
      obtain ⟨hrest, hstuck, hnone, hone⟩ := settle_stickAt hg (hmoving m h) hq
      rw [hsecond]
      exact ⟨⟨hrest.1, hrest.2, hrest.3, hrest.4, hrest.5⟩, hnone, fun e he => (hone e he).trans (hanswered e),
        fun _ => ⟨hstuck.1, hstuck.2, hstuck.3, hstuck.4⟩, fun hz => absurd hz hc⟩
  · obtain ⟨hrest, hstuck, hnone, hone⟩ :=
      settle_stickAt hg (by simp [State.gapState, h, Activity.state]) hq
    refine ⟨_, hexec, ?_⟩
    rw [stall_of_backing hg h hc]
    exact ⟨⟨hrest.1, hrest.2, hrest.3, hrest.4, hrest.5⟩, ⟨hstuck.1, hstuck.2, hstuck.3, hstuck.4⟩, hnone,
      fun e he => (hone e he).trans (hanswered e)⟩
  · rw [hexec, stall_of_recovering hg h, if_pos hp]
  · obtain ⟨hrest, hstuck, hnone, -⟩ :=
      settle_stickAt (k := .setGap) hg (by simp [State.gapState, h, Activity.state]) (.inl hq)
    have hstall : stall s = settle (stickAt (endActiveOf .setGap (.stopped .stall) s)) := by
      rw [stall_of_recovering hg h, hp, if_neg Bool.false_ne_true, endActiveOf_of_nil _ _ hq]
    refine ⟨_, hexec, ?_⟩
    rw [hstall]
    exact ⟨⟨hrest.1, hrest.2, hrest.3, hrest.4, hrest.5⟩, ⟨hstuck.1, hstuck.2, hstuck.3, hstuck.4⟩, hnone hq⟩

end Sys2Proof.Machine

/-! ## What starts a move (O44) -/

namespace Sys2Proof.Machine

/-! ### A station whose event ends with the move test (R99) -/

/-- A move as it starts from `g` toward `w` (R99). -/
def moveToward (c : Settings) (w g : Nat) (noRetry : Bool) : Move :=
  { direction := if g < w then .opening else .closing, noRetry := noRetry, stallCount := 0, mark := g
    stall := c.moveTimeout * 1000, reversal := none, paused := false }

theorem startMove_of_nil (g : Nat) {s : State} (hq : s.queue = []) :
    startMove g s = setActivity (.moving (moveToward s.settings s.gap.setpoint g false)) s := by
  unfold startMove
  simp only [State.activeEntry, hq]
  rfl

theorem activity_of_holding {s : State} (h : s.gapState = .holding) : s.gap.activity = .holding := by
  unfold State.gapState at h
  cases hact : s.gap.activity <;> simp [hact, Activity.state] at h ⊢

/-- The station `u` in HOLDING at `g`, with the W, the approach mark and the settings of `s`, where moves are allowed and no request
is queued. -/
structure Poised (s : State) (g : Nat) (u : State) : Prop where
  settings : u.settings = s.settings
  setpoint : u.gap.setpoint = s.gap.setpoint
  approach : u.gap.approach = s.gap.approach
  activity : u.gap.activity = .holding
  queue    : u.queue = []
  active   : u.active = true
  estimate : u.gapEstimate = some g
  valid    : u.monitor.positionValid = true
  state    : u.run.state ≠ .tripped

section
variable {s u v : State} {g : Nat} (h : Poised s g u)
include h

theorem Poised.holding : u.gapState = .holding := congrArg Activity.state h.activity

theorem Poised.moveDue_iff : u.moveDue g ↔ s.moveDue g := by
  unfold State.moveDue
  rw [h.settings, h.setpoint, h.approach]

theorem Poised.moves (hd : s.moveDue g) :
    (settle u).gap.activity = .moving (moveToward s.settings s.gap.setpoint g false) := by
  have hallowed : u.movesAllowed = true :=
    State.movesAllowed_iff.2 ⟨h.active, h.holding, present_of_gapEstimate h.estimate, h.valid, h.state⟩
  rw [settle_of_due h.queue h.estimate hallowed (h.moveDue_iff.2 hd), startMove_of_nil g h.queue, setActivity_activity,
    h.settings, h.setpoint]

theorem Poised.stays (hd : ¬ s.moveDue g) : (settle u).gap.activity = .holding := by
  refine activity_of_holding (settle_stays h.queue h.holding ?_ fun hc => ?_)
  · exact moveTest_of_not_due h.estimate fun hdue => hd (h.moveDue_iff.1 hdue)
  · simpa [present_of_gapEstimate h.estimate] using (State.standingRequest_iff.1 hc.1).2.1

/-- A change of the run state out of TRIPPED leaves the station so. -/
theorem Poised.of_rests (hr : Rests u v) (hactivity : v.gap.activity = u.gap.activity) (hactive : v.active = true)
    (hstate : v.run.state ≠ .tripped) : Poised s g v where
  settings := (State.settings_of_still hr.still).trans h.settings
  setpoint := hr.setpoint.trans h.setpoint
  approach := hr.approach.trans h.approach
  activity := hactivity.trans h.activity
  queue := hr.queue.trans h.queue
  active := hactive
  estimate := (State.gapEstimate_of_still hr.still).trans h.estimate
  valid := (State.sensing_of_still hr.still).2.2.trans h.valid
  state := hstate

theorem Poised.requestRecord : Poised s g (requestRecord u) := by
  rw [requestRecord_frame]
  exact ⟨h.settings, h.setpoint, h.approach, h.activity, h.queue, h.active, h.estimate, h.valid, h.state⟩

theorem Poised.answered (header : Address) (tag : BitVec 3) (k : Option RequestKind) (o : AnswerOutcome) :
    Poised s g (answerNow header tag k o u) :=
  ⟨h.settings, h.setpoint, h.approach, h.activity, h.queue, h.active, h.estimate, h.valid, h.state⟩

theorem Poised.clearTakes (l : LoadSample) : Poised s g (clearTakes l u) := by
  unfold Machine.clearTakes
  split
  · exact (h.of_rests (changeRun_rests .idle u) (changeRun_activity _ _) (changeRun_active rfl u) (by simp)).requestRecord
  · exact h

end

/-! ### The events that end so -/

/-- A reading event with both values in range: the activity's own test, the tramp tests, the tonnage, the end of the event. -/
theorem exec_readingEvent_inRange {r : Readings} {s : State} (ha : s.active = true)
    (hp : 3600 ≤ r.pressure ∧ r.pressure ≤ 21000) (hx : positionReading r = some r.position) :
    exec (.readingEvent r) s = .next (afterTest s.drive.output (pressureOf r s.settings)
      (activityReading (some (pressureOf r s.settings)) (some r.position) (sensed r s))) := by
  refine congrArg Host.Outcome.next ((if_pos ha).trans ((readingEvent_eq r s).trans ?_))
  rw [gapReading, hx, loopReading_of_inRange hp]
  rfl

theorem positionReading_of_marked {r : Readings} (hm : r.positionMarked = true) (hx : r.position ≤ 4095) :
    positionReading r = some r.position := if_pos ⟨hm, hx⟩

theorem activityReading_of_holding {pressure position : Option Nat} {s : State} (h : s.gap.activity = .holding) :
    activityReading pressure position s = s := by
  unfold activityReading
  simp only [h]

theorem State.gapEstimate_of_weighed {s t : State} (h : Weighed s t) (hw : t.gap.wearAcc = s.gap.wearAcc) :
    t.gapEstimate = s.gapEstimate := by
  unfold State.gapEstimate
  rw [h.reference, h.position, hw]

/-- A reading without tramp, its own tonnage leaving the wear, ends with the move test. -/
theorem Poised.afterTest {s a : State} {g : Nat} (output : Nat) {pressure : Nat} (h : Poised s g a) (hcalm : Calm pressure a)
    (hwear : (afterTest output pressure a).gap.wearAcc = a.gap.wearAcc) :
    ∃ v, Poised s g v ∧ afterTest output pressure a = settle v := by
  obtain ⟨v, hv⟩ : ∃ v, v = estimateTonnage output (trampReading (some pressure) a) := ⟨_, rfl⟩
  have hw : Weighed a v := hv ▸ (trampReading_of_calm hcalm).trans (estimateTonnage_weighed output _)
  have hactivity : v.gap.activity = .holding := hw.activity.trans h.activity
  have hqueue : v.queue = [] := hw.queue.trans h.queue
  have hend : Machine.afterTest output pressure a = settle v := by
    rw [Machine.afterTest, ← hv, wearChanged_of_gapState]
    simp [State.gapState, hactivity, Activity.state]
  rw [hend, State.wearAcc_of_wear (State.wear_of_still (settle_rests hqueue).still)] at hwear
  exact ⟨v, { settings := hw.settings.trans h.settings
              setpoint := hw.setpoint.trans h.setpoint
              approach := hw.approach.trans h.approach
              activity := hactivity
              queue := hqueue
              active := by rw [State.active, hw.run]; exact h.active
              estimate := (State.gapEstimate_of_weighed hw hwear).trans h.estimate
              valid := hw.valid.trans h.valid
              state := by rw [hw.run]; exact h.state }, hend⟩

theorem sensed_poised {s u : State} {x contact : Nat} (h : Sensed s u x) (hact : s.gap.activity = .holding)
    (hactive : s.active = true) (hstate : s.run.state ≠ .tripped) (hq : s.queue = [])
    (hc : s.gap.reference.contact? = some contact) : Poised s ((contact + s.gap.wearAcc / 100) - x) u where
  settings := h.settings
  setpoint := by rw [h.gap]
  approach := by rw [h.gap]
  activity := h.activity.trans hact
  queue := h.queue.trans hq
  active := by rw [State.active, h.run]; exact hactive
  estimate := by rw [h.gapEstimate, hc]; rfl
  valid := h.valid
  state := by rwa [h.run]

section
variable {s : State} {contact p : Nat} (ha : s.active = true) (hact : s.gap.activity = .holding) (hq : s.queue = [])
  (hc : s.gap.reference.contact? = some contact) (hp : s.monitor.position = some p) (hv : s.monitor.positionValid = true)
include ha hact hq hc hp hv

theorem pulsed_poised (ht : s.run.state ≠ .tripped) :
    Poised s ((contact + (if 100000 ≤ s.monitor.calibrationKg + s.settings.pulseWeight
      then min 65535 (s.gap.wearAcc + s.settings.wearRate) else s.gap.wearAcc) / 100) - p) (pulsed s) :=
  ⟨rfl, rfl, rfl, hact, hq, ha, gapEstimate_of_contact hc hp, hv, ht⟩

theorem reopened_poised (ht : s.run.state ≠ .tripped) : Poised s ((contact + s.gap.wearAcc / 100) - p) (reopened s) :=
  ⟨rfl, rfl, rfl, hact, hq, ha, gapEstimate_of_contact hc hp, hv, ht⟩

theorem clearAccepted_poised : Poised s ((contact + s.gap.wearAcc / 100) - p) (clearAccepted s) := by
  have hcleared : clearAccepted s = untripped s := by
    rw [clearAccepted_eq, (untripped_fields s).2.1]
    exact if_neg (by simp [State.gapState, hact, Activity.state])
  have hestimate := gapEstimate_of_contact (s := faultsCleared s) hc hp
  by_cases ht : s.run.state = .tripped
  · have hrests := changeRun_rests .idle (faultsCleared s)
    have hidle : untripped s = changeRun .idle (faultsCleared s) := if_pos ht
    rw [hcleared, hidle]
    exact ⟨(State.settings_of_still hrests.still).trans rfl, hrests.setpoint, hrests.approach, (changeRun_activity _ _).trans hact,
      hrests.queue.trans hq, changeRun_active rfl _, (State.gapEstimate_of_still hrests.still).trans hestimate,
      (State.sensing_of_still hrests.still).2.2.trans hv, by simp⟩
  · have hsame : untripped s = faultsCleared s := if_neg ht
    rw [hcleared, hsame]
    exact ⟨rfl, rfl, rfl, hact, hq, ha, hestimate, hv, ht⟩

end

/-- Without a span a sample makes no step: it writes the history only (R107, R109). -/
theorem historyTakes_poised {s u : State} {g : Nat} (l : LoadSample) (h : Poised s g u) (hspan : u.gap.span = 0) :
    Poised s g (historyTakes l u) := by
  unfold historyTakes
  split
  · have hnone : ¬ ({ u with gap.history := pushClass l.loadClass u.gap.history } : State).decides := fun hd => by
      have hpos : 0 < u.gap.span := hd.1
      omega
    rw [stepDecision_stays (fun hd => hnone hd.1) fun hd => hnone hd.1]
    exact ⟨h.settings, h.setpoint, h.approach, h.activity, h.queue, h.active, h.estimate, h.valid, h.state⟩
  · exact h

/-! ### A SET_GAP that starts at its arrival (R111) -/

theorem exec_setGap_arrived {header : Address} {tag : BitVec 3} {noRetry : Bool} {argument : Word} {s : State}
    (haddr : s.addressedAlone header = true) (ha : s.active = true) (hr : s.line.receiver ≠ .waitingIdle)
    (hrun : s.run.state ≠ .tripped) (hp : s.gap.reference.present = true) (hq : s.queue = []) :
    exec (.setGap header tag noRetry argument) s =
      .next (settle (arrived (entryOf header tag .setGap (some argument.toNat) noRetry) s)) := by
  have hallowed : stateRefusal .setGap s = none := (if_neg hrun).trans (if_pos hp)
  exact congrArg Host.Outcome.next ((onRequest_taken _ haddr ha hr).trans
    (enqueue_of_nil (e := entryOf header tag .setGap (some argument.toNat) noRetry) hallowed hq))

/-- The station with the gap target that a SET_GAP asks for. -/
def targeted (n : Nat) (s : State) : State := { s with gap.target := clampGap s.settings n }

section
variable {s : State} {e : Entry} (ha : s.active = true) (hq : s.queue = [e]) (he : e.active = false) (hk : e.kind = .setGap)
  (hp : s.gap.reference.present = true)
include ha hq he hk hp

/-- One that starts in STUCK ends STOPPED(STALL): the target is set, W held within its window. -/
theorem settle_setGap_of_stuck (hg : s.gapState = .stuck) :
    settle s = holdW (targeted (e.argument.getD 0) (ended e (.stopped .stall) s)) := by
  have hpresent : ¬ ¬ (activated e s).gap.reference.present = true := not_not.2 hp
  have hstuck : (activated e s).gapState = .stuck := hg
  have hhead : startHead s = holdW (targeted (e.argument.getD 0) (ended e (.stopped .stall) s)) := by
    have hstart : startSetGap e (activated e s) = holdW
        { endActive (.stopped .stall) (activated e s) with gap.target := clampGap s.settings (e.argument.getD 0) } :=
      (if_neg hpresent).trans (if_pos hstuck)
    rw [startHead_of_single hq, hk]
    dsimp only
    rw [hstart, endActive_of_active (s := activated e s) _ rfl rfl]
    rfl
  have hstate : (holdW (targeted (e.argument.getD 0) (ended e (.stopped .stall) s))).gapState = .stuck :=
    (holdW_gapState _).trans hg
  rw [settle_of_single ha (.inr hg) hq he, hhead, tests_of_gapState (by simp [hstate])]

end

/-- The station in which W is set afresh from the target that a SET_GAP asks for (R97). -/
def retargeted (e : Entry) (s : State) : State := setAfresh (targeted (e.argument.getD 0) (activated e s))

theorem retargeted_frame (e : Entry) (s : State) :
    retargeted e s = { activated e s with gap := { s.gap with
      target := clampGap s.settings (e.argument.getD 0)
      setpoint := (targeted (e.argument.getD 0) s).heldInWindow (clampGap s.settings (e.argument.getD 0))
      approach := (retargeted e s).gap.approach, history := [] } } := rfl

section
variable {s : State} {e : Entry} {g : Nat} (ha : s.active = true) (hg : s.gapState = .holding) (hq : s.queue = [e])
  (he : e.active = false) (hk : e.kind = .setGap) (hestimate : s.gapEstimate = some g)
include ha hg hq he hk hestimate

/-- One that starts in HOLDING sets W afresh from its target, and ends at once where W is at G. -/
theorem settle_setGap_of_holding :
    settle s = primingTest (moveTest (internalCalibrationTest
      (if g = (retargeted e s).gap.setpoint then endActive ((retargeted e s).setGapOutcome e) (retargeted e s)
       else { retargeted e s with gap.approach := true }))) := by
  have hpresent : ¬ ¬ (activated e s).gap.reference.present = true := not_not.2 (present_of_gapEstimate hestimate)
  have hfree : ¬ (activated e s).gapState = .stuck := by
    change ¬ s.gapState = .stuck
    simp [hg]
  have hstart : startSetGap e (activated e s) =
      if (retargeted e s).gapEstimate = some (retargeted e s).gap.setpoint then
        endActive ((retargeted e s).setGapOutcome e) (retargeted e s) else { retargeted e s with gap.approach := true } :=
    (if_neg hpresent).trans (if_neg hfree)
  have hsame : (retargeted e s).gapEstimate = some g := hestimate
  rw [settle_of_single ha (.inl hg) hq he, startHead_of_single hq, hk]
  dsimp only
  rw [hstart, hsame]
  simp only [Option.some.injEq]

theorem settle_setGap_reached (hw : g = (retargeted e s).gap.setpoint) :
    Rests { retargeted e s with
      queue := []
      line := s.line.push (plainAnswer e.requester e.tag (some .setGap)
        (if e.argument = some (retargeted e s).gap.setpoint then .done else .doneClamped)) } (settle s) := by
  have hend : endActive ((retargeted e s).setGapOutcome e) (retargeted e s) = { retargeted e s with
      queue := []
      line := s.line.push (plainAnswer e.requester e.tag (some .setGap)
        (if e.argument = some (retargeted e s).gap.setpoint then .done else .doneClamped)) } := by
    have hanswer : (retargeted e s).entryAnswer e ((retargeted e s).setGapOutcome e) =
        plainAnswer e.requester e.tag (some .setGap)
          (if e.argument = some (retargeted e s).gap.setpoint then .done else .doneClamped) := by
      unfold State.setGapOutcome
      split <;> simp [State.entryAnswer, hk, QueuedKind.request]
    rw [endActive_of_active (s := retargeted e s) (e := { e with active := true }) _ rfl rfl, ← hanswer]
    rfl
  rw [settle_setGap_of_holding ha hg hq he hk hestimate, if_pos hw, hend]
  exact tests_rest rfl

theorem settle_setGap_moves (hw : g ≠ (retargeted e s).gap.setpoint) (hv : s.monitor.positionValid = true)
    (ht : s.run.state ≠ .tripped) :
    settle s = setActivity (.moving (moveToward s.settings (retargeted e s).gap.setpoint g e.noRetry))
      { retargeted e s with gap.approach := true } := by
  rw [settle_setGap_of_holding ha hg hq he hk hestimate, if_neg hw]
  have hframe := retargeted_frame e s
  generalize hw' : (retargeted e s).gap.setpoint = w at hw ⊢
  generalize retargeted e s = r at hframe hw' ⊢
  obtain ⟨u, hu⟩ : ∃ u : State, u = { r with gap.approach := true } := ⟨_, rfl⟩
  have hsame : u.gapEstimate = some g := by
    rw [hu, hframe]
    exact hestimate
  have hallowed : u.movesAllowed = true := by
    rw [hu, hframe]
    exact State.movesAllowed_iff.2 ⟨ha, hg, present_of_gapEstimate hestimate, hv, ht⟩
  have hsetpoint : u.gap.setpoint = w := by rw [hu, hw']
  have happroach : u.gap.approach = true := by rw [hu]
  have hdue : u.moveDue g := .inr ⟨happroach, by rwa [hsetpoint]⟩
  have hqueue : u.activeEntry = some { e with active := true } := by
    rw [hu, hframe]
    rfl
  have hsettings : u.settings = s.settings := by rw [hu, hframe]; rfl
  have hmove : startMove g u = setActivity (.moving (moveToward s.settings w g e.noRetry)) u := by
    unfold startMove moveToward
    rw [hqueue, hsetpoint, State.moveTimeoutMs, hsettings]
    simp [hk]
  rw [← hu, internalCalibrationTest_of_reference (present_of_gapEstimate hsame), moveTest_of_due hsame hallowed hdue, hmove,
    primingTest_of_not fun hp => ?_]
  have hstate := hp.2.2
  rw [setActivity_gapState] at hstate
  cases hstate

/-- The event of a SET_GAP that starts a move, field by field. -/
theorem settle_setGap_moves_fields (hw : g ≠ (retargeted e s).gap.setpoint) (hv : s.monitor.positionValid = true)
    (ht : s.run.state ≠ .tripped) :
    (settle s).gap.target = clampGap s.settings (e.argument.getD 0) ∧ (settle s).gap.setpoint = (retargeted e s).gap.setpoint ∧
      (settle s).gap.history = [] ∧ (settle s).gap.reference = s.gap.reference ∧ (settle s).line = s.line ∧
      (settle s).queue = [{ e with active := true }] ∧
      (settle s).gap.activity = .moving (moveToward s.settings (retargeted e s).gap.setpoint g e.noRetry) := by
  rw [settle_setGap_moves ha hg hq he hk hestimate hw hv ht]
  have hframe := retargeted_frame e s
  obtain ⟨r, hr⟩ : ∃ r, r = retargeted e s := ⟨_, rfl⟩
  rw [← hr] at hframe ⊢
  have hfree : ¬ ({ r with gap.approach := true } : State).gapState = .stuck := by
    have hstate : ({ r with gap.approach := true } : State).gapState = s.gapState := by
      rw [hframe]
      rfl
    simp [hstate, hg]
  refine ⟨(setActivity_target _ _).trans ?_, setActivity_setpoint _ hfree,
    (setActivity_approach_history fun h => hfree h.1).2.trans ?_, (setActivity_reference _ _).trans ?_,
    (setActivity_line _ _).trans ?_, (setActivity_queue _ _).trans ?_, setActivity_activity _ _⟩ <;> rw [hframe] <;> rfl

end

/-! ### The statement (O44) -/

/-- The event that ends in the move test, in the terms of the state it found. -/
theorem Poised.tested {s u : State} {g : Nat} (h : Poised s g u) :
    (s.moveDue g → (settle u).gap.activity = .moving (moveToward s.settings s.gap.setpoint g false)) ∧
      (¬ s.moveDue g → (settle u).gap.activity = .holding) := ⟨h.moves, h.stays⟩

section
variable {header : Address} {tag : BitVec 3} {noRetry : Bool} {argument : Word} {s : State}
  (haddr : s.addressedAlone header = true) (ha : s.active = true) (hr : s.line.receiver ≠ .waitingIdle)
  (ht : s.run.state ≠ .tripped) (hq : s.queue = [])
include haddr ha hr ht hq

/-- A SET_GAP that starts at its arrival in HOLDING (R97, R111, R112). -/
theorem exec_setGap_of_holding {g : Nat} (hgap : s.gapState = .holding) (hg : s.gapEstimate = some g)
    (hv : s.monitor.positionValid = true) :
    let asked := clampGap s.settings argument.toNat
    let w := (targeted argument.toNat s).heldInWindow asked
    let queued := LinePort.push { s.line with receiver := .waitingIdle } (plainAnswer header.source tag (some .setGap) .queued)
    ∃ t, exec (.setGap header tag noRetry argument) s = .next t ∧
      t.gap.target = asked ∧ t.gap.setpoint = w ∧ t.gap.history = [] ∧ t.gap.reference = s.gap.reference ∧
      (g = w → t.queue = [] ∧ t.line = queued.push (plainAnswer header.source tag (some .setGap)
        (if argument.toNat = w then .done else .doneClamped))) ∧
      (g ≠ w → t.line = queued ∧
        t.queue = [{ requester := header.source, tag := tag, kind := .setGap, argument := some argument.toNat
                     noRetry := noRetry, active := true }] ∧
        t.gap.activity = .moving (moveToward s.settings w g noRetry)) := by
  intro asked w queued
  have hexec := exec_setGap_arrived (tag := tag) (noRetry := noRetry) (argument := argument) haddr ha hr ht
    (present_of_gapEstimate hg) hq
  obtain ⟨e, he⟩ : ∃ e, e = entryOf header tag .setGap (some argument.toNat) noRetry := ⟨_, rfl⟩
  rw [← he] at hexec
  have hwait : e.active = false := he ▸ rfl
  have hkind : e.kind = .setGap := he ▸ rfl
  have hargument : e.argument = some argument.toNat := he ▸ rfl
  have hnoRetry : e.noRetry = noRetry := he ▸ rfl
  have hline : (arrived e s).line = queued := he ▸ rfl
  have hw : (retargeted e (arrived e s)).gap.setpoint = w := by
    rw [retargeted_frame, hargument]
    rfl
  refine ⟨_, hexec, ?_⟩
  by_cases hreached : g = w
  · have hrests := settle_setGap_reached (s := arrived e s) (e := e) (g := g) ha hgap rfl hwait hkind hg (hreached.trans hw.symm)
    have hframe := retargeted_frame e (arrived e s)
    rw [hw, hline, hargument] at hrests
    rw [hargument] at hframe
    generalize settle (arrived e s) = t at hrests
    rw [hframe] at hrests
    refine ⟨(State.target_of_still hrests.still).trans rfl, hrests.setpoint, hrests.history_nil rfl,
      (State.reference_of_still hrests.still).trans rfl, fun _ => ⟨hrests.queue, ?_⟩, fun h => absurd hreached h⟩
    rw [hrests.line, he]
    simp [entryOf]
  · obtain ⟨htarget, hsetpoint, hhistory, hreference, hline', hqueue, hactivity⟩ :=
      settle_setGap_moves_fields (s := arrived e s) (e := e) (g := g) ha hgap rfl hwait hkind hg (by rwa [hw]) hv ht
    rw [hw] at hsetpoint hactivity
    rw [hargument] at htarget
    rw [hnoRetry] at hactivity
    exact ⟨htarget, hsetpoint, hhistory, hreference, fun h => absurd h hreached, fun _ => ⟨hline'.trans hline,
      hqueue.trans (by rw [he]; rfl), hactivity⟩⟩

/-- A SET_GAP that starts at its arrival in STUCK (R105, R112). -/
theorem exec_setGap_of_stuck (hgap : s.gapState = .stuck) (hp : s.gap.reference.present = true) :
    let asked := clampGap s.settings argument.toNat
    let w := (targeted argument.toNat s).heldInWindow s.gap.setpoint
    let queued := LinePort.push { s.line with receiver := .waitingIdle } (plainAnswer header.source tag (some .setGap) .queued)
    ∃ t, exec (.setGap header tag noRetry argument) s = .next t ∧
      t = { s with
        gap := { s.gap with target := asked, setpoint := w, approach := t.gap.approach }
        line := queued.push { requester := header.source, tag := tag, kind := some .setGap, outcome := .stopped .stall
                              remaining := s.gapEstimate.map (fun g => gapDistance g s.gap.setpoint)
                              reached := s.gapEstimate, data := none } } ∧
      (w = s.gap.setpoint → t.gap.approach = s.gap.approach) := by
  intro asked w queued
  have hexec := exec_setGap_arrived (tag := tag) (noRetry := noRetry) (argument := argument) haddr ha hr ht hp hq
  have hsettle := settle_setGap_of_stuck (s := arrived (entryOf header tag .setGap (some argument.toNat) noRetry) s)
    ha rfl rfl rfl hp hgap
  obtain ⟨x, hx⟩ : ∃ x : State, x = { s with
      gap.target := asked
      line := queued.push { requester := header.source, tag := tag, kind := some .setGap, outcome := .stopped .stall
                            remaining := s.gapEstimate.map (fun g => gapDistance g s.gap.setpoint)
                            reached := s.gapEstimate, data := none } } := ⟨_, rfl⟩
  have hend : settle (arrived (entryOf header tag .setGap (some argument.toNat) noRetry) s) = holdW x := by
    rw [hsettle]
    refine congrArg holdW ?_
    have hnil : x = { x with queue := [] } := by
      rw [hx, ← hq]
    rw [hnil, hx]
    rfl
  have hheld : x.heldInWindow x.gap.setpoint = w := by
    rw [hx]
    rfl
  refine ⟨_, hexec, ?_, fun hsame => ?_⟩ <;> rw [hend]
  · have hframe := holdW_frame x
    rw [holdW_setpoint, hheld] at hframe
    generalize holdW x = y at hframe ⊢
    generalize y.gap.approach = b at hframe ⊢
    rw [hframe, hx]
  · have hkept : x.gap.setpoint = s.gap.setpoint ∧ x.gap.approach = s.gap.approach := by
      rw [hx]
      exact ⟨rfl, rfl⟩
    have hstays : holdW x = x := if_pos (by rw [hheld, hsame, hkept.1])
    rw [hstays, hkept.2]

end

/-- Settles O44: a SET_GAP by the gap state in which it starts, and the other events by the move test that ends them. -/
theorem movesStartTowardTheSetpoint : Obligations.MovesStartTowardTheSetpoint := by
  refine ⟨?_, ?_⟩
  · intro header tag noRetry argument s haddr ha hr ht hq
    exact ⟨fun g hgap hg hv => exec_setGap_of_holding haddr ha hr ht hq hgap hg hv,
      fun hgap hp => exec_setGap_of_stuck haddr ha hr ht hq hgap hp⟩
  · intro s contact ha hact hq hc c w now tested
    refine ⟨fun r g p ht h1 h2 hm hx hp hg hcalm => ?_, fun p hp hv => ⟨fun ht hscale => ?_, fun ht hspan => ?_,
      fun header tag haddr hr hclear => ?_⟩⟩
    · have hmarked := positionReading_of_marked hm hx
      have hsensed := sensed_inRange (s := s) ⟨h1, h2⟩ hmarked
      have hexec := exec_readingEvent_inRange (s := s) ha ⟨h1, h2⟩ hmarked
      rw [activityReading_of_holding (hsensed.activity.trans hact)] at hexec
      have hjumps : SmallJumps s r.position := fun harmed => (hcalm harmed).2.imp id fun hsmall k hk e he hnow => by
        obtain rfl : contact = k := Option.some.inj (hc.symm.trans hk)
        rw [← hg]
        exact hsmall e he hnow
      have hquiet : Calm (pressureOf r s.settings) (sensed r s) :=
        hsensed.calm rfl (by rw [hsensed.gap]) (fun harmed => hp.symm.trans_le (hcalm harmed).1) hjumps
      refine ⟨_, hexec, fun hwear => ?_⟩
      have hkept : (sensed r s).gap.wearAcc = s.gap.wearAcc := by rw [hsensed.gap]
      obtain ⟨v, hv, hend⟩ := (sensed_poised hsensed hact ha ht hq hc).afterTest _ hquiet (hwear.trans hkept.symm)
      rw [hend, hg]
      exact hv.tested
    · refine ⟨_, (execBeltScalePulse_eq s).trans (congrArg Host.Outcome.next (if_pos ⟨ha, hscale⟩)), ?_⟩
      have hpoised := pulsed_poised ha hact hq hc hp hv ht
      rw [wearChanged_of_gapState (by simp [hpoised.holding])]
      exact hpoised.tested
    · have hpoised := (historyTakes_poised (closingSample s) (reopened_poised ha hact hq hc hp hv ht) hspan).clearTakes
        (closingSample s)
      refine ⟨_, congrArg Host.Outcome.next ((if_pos ha).trans (windowClose_eq s)), ?_, hpoised.tested⟩
      exact (settle_rests hpoised.queue).setpoint.trans hpoised.setpoint
    · have hpoised := clearAccepted_poised (s := frameEnds s) ha hact hq hc hp hv
      have hexec : exec (.clearFault header tag) s =
          .next (settle (answerNow header tag (some .clearFault) .done (clearAccepted (frameEnds s)))) :=
        congrArg Host.Outcome.next ((onRequest_taken _ haddr ha hr).trans (if_neg (by
          change ¬ s.conditionPresent = true
          simp [hclear])))
      exact ⟨_, hexec, (hpoised.answered _ _ _ _).tested⟩

end Sys2Proof.Machine

/-! ## What the tramp tests of a reading leave (R131 to R136) -/

namespace Sys2Proof.Machine

/-! ### The tests by their outcome -/

/-- The tests of an armed station find a tramp: by pressure, or by the jump of G (R132, R133). -/
abbrev State.detects (pressure : Nat) (s : State) : Prop :=
  s.settings.trampMark < pressure ∨ jumpPassed s.settings.trampJump s.keptJumps s.jumpCandidate = true

/-- The jump window with the G of this reading added, where there is one (R133). -/
def State.joinedJumps (s : State) : List (Nat × Nat) :=
  match s.jumpCandidate with
  | some g => s.keptJumps ++ [(s.gap.readingClock.getD 0, g)]
  | none => s.keptJumps

theorem calm_iff {pressure : Nat} {s : State} : Calm pressure s ↔ ¬ (s.gap.armed = true ∧ s.detects pressure) := by
  simp [Calm, State.detects, not_or]

section
variable {pressure : Nat} {s : State}

theorem trampReading_of_detection (ha : s.gap.armed = true) (h : s.detects pressure) :
    trampReading (some pressure) s = detectTramp s := by
  unfold trampReading
  extract_lets now kept added
  rw [if_pos ha]
  exact if_pos (h.imp (fun hp => by simpa using hp) id)

theorem trampReading_of_quiet (ha : s.gap.armed = true) (h : ¬ s.detects pressure) :
    trampReading (some pressure) s = { s with gap.jumpWindow := s.joinedJumps } := by
  unfold trampReading
  extract_lets now kept added
  rw [if_pos ha]
  exact if_neg fun hc => h (hc.imp (fun hp => by simpa using hp) id)

theorem trampReading_of_disarmed (ha : s.gap.armed = false) :
    trampReading (some pressure) s =
      if s.rearms (s.gap.readingClock.getD 0) (some pressure) = true then { s with gap.armed := true, gap.jumpWindow := [] }
      else { s with gap.jumpWindow := s.joinedJumps } := by
  unfold trampReading
  extract_lets now kept added
  rw [if_neg (by simp [ha])]
  rfl

/-- A valid position and a valve that is not opening leave the reading's G to be tested. -/
theorem State.jumpCandidate_eq (hv : s.monitor.positionValid = true) (ho : s.gap.activity.asks ≠ .opening) :
    s.jumpCandidate = s.gapEstimate := by
  refine if_pos ⟨hv, ?_⟩
  rw [State.valve, if_pos hv]
  exact ho

theorem State.detects_iff {g : Nat} (h : s.jumpCandidate = some g) :
    s.detects pressure ↔ s.settings.trampMark < pressure ∨ (s.settings.trampJump ≠ 0 ∧ ∃ e ∈ s.gap.jumpWindow,
      s.gap.readingClock.getD 0 ≤ e.1 + 1000 ∧ e.2 + s.settings.trampJump ≤ g) := by
  simp [State.detects, h, jumpPassed, State.keptJumps]

end

/-- The tests' outcome in the terms of the state before the reading, where the activity has not opened (R133). -/
theorem Sensed.detects_iff {s u a : State} {x pressure g : Nat} (h : Sensed s u x) (ha : a.still = u.still)
    (hw : a.gap.jumpWindow = s.gap.jumpWindow) (ho : a.gap.activity.asks ≠ .opening) (hg : u.gapEstimate = some g) :
    a.gap.armed = s.gap.armed ∧ (a.detects pressure ↔ s.settings.trampMark < pressure ∨ (s.settings.trampJump ≠ 0 ∧
      ∃ e ∈ s.gap.jumpWindow, s.clockNext ≤ e.1 + 1000 ∧ e.2 + s.settings.trampJump ≤ g)) := by
  obtain ⟨harmed, hclock, hsettings, hvalid⟩ := State.detection_of_fixed (State.fixed_of_still ha)
  have hcandidate : a.jumpCandidate = some g := by
    rw [State.jumpCandidate_eq (hvalid.trans h.valid) ho, State.gapEstimate_of_still ha, hg]
  rw [State.detects_iff hcandidate, hsettings.trans h.settings, hclock, hw, h.gap]
  exact ⟨harmed.trans (by rw [h.gap]), Iff.rfl⟩

/-! ### A detection (R135, R136) -/

/-- The station that a detection has disarmed and noted. -/
def detected (s : State) : State :=
  { s with
    gap.armed := false, gap.lastDetection := s.gap.readingClock, gap.jumpWindow := []
    gap.trampList := trampListWith (s.settings.trampWindow * 60) s.seconds s.gap.trampList, gap.history := [] }

/-- The station whose SET_GAP or CALIBRATE a detection has ended. -/
def trampEnded (s : State) : State :=
  endActiveOf .calibrate (.stopped .tramp) (endActiveOf .setGap (.stopped .tramp) (detected s))

theorem detectTramp_eq (s : State) :
    detectTramp s = if (trampListWith (s.settings.trampWindow * 60) s.seconds s.gap.trampList).length = 3
      then report .trampRepeat true (setActivity (.relieved none) (trampEnded s))
      else setActivity (.relieved none) (trampEnded s) := rfl

theorem trampEnded_frame (s : State) :
    trampEnded s = { detected s with queue := (trampEnded s).queue, line := (trampEnded s).line } := by
  unfold trampEnded
  rw [endActiveOf_frame, endActiveOf_frame .setGap]

theorem trampEnded_gap (s : State) : (trampEnded s).gap = (detected s).gap := by rw [trampEnded_frame]

/-- A report writes neither W, its mark, the jump window nor, once empty, the history. -/
theorem report_gap (k : FaultKind) (trips : Bool) {s : State} (hh : s.gap.history = []) :
    (report k trips s).gap.setpoint = s.gap.setpoint ∧ (report k trips s).gap.approach = s.gap.approach ∧
      (report k trips s).gap.jumpWindow = s.gap.jumpWindow ∧ (report k trips s).gap.history = [] := by
  unfold report
  split
  · have hrests := trip_rests_flush (noteFault k s)
    refine ⟨hrests.setpoint, hrests.approach, trip_jumpWindow _, hrests.history_nil hh⟩
  · exact ⟨rfl, rfl, rfl, hh⟩

theorem report_feeder (k : FaultKind) (trips : Bool) {s : State} (ho : s.drive.output = 0) (hc : s.share.capacity = 0) :
    (report k trips s).drive.output = 0 ∧ (report k trips s).share.capacity = 0 := by
  unfold report
  split
  · obtain ⟨-, -, houtput, -, hcapacity⟩ := trip_feeder (noteFault k s)
    exact ⟨houtput, hcapacity⟩
  · exact ⟨ho, hc⟩

/-- What a detection leaves of gap, feeder and capacity (R105, R135). -/
structure Relieved (s t : State) : Prop where
  activity      : t.gap.activity = .relieved none
  armed         : t.gap.armed = false
  lastDetection : t.gap.lastDetection = s.gap.readingClock
  jumpWindow    : t.gap.jumpWindow = []
  history       : t.gap.history = []
  trampList     : t.gap.trampList = trampListWith (s.settings.trampWindow * 60) s.seconds s.gap.trampList
  setpoint      : t.gap.setpoint = if s.gapState = .stuck then s.heldInWindow s.gap.target else s.gap.setpoint
  approach      : s.gapState ≠ .stuck → t.gap.approach = s.gap.approach
  reference     : t.gap.reference = s.gap.reference
  output        : t.drive.output = 0
  capacity      : t.share.capacity = 0

theorem detectTramp_relieved (s : State) : Relieved s (detectTramp s) := by
  have hactivity := detectTramp_activity s
  have hstill := detectTramp_still s
  obtain ⟨x, hx⟩ : ∃ x, x = setActivity (.relieved none) (trampEnded s) := ⟨_, rfl⟩
  have hsame : (trampEnded s).gapState = s.gapState := by
    rw [State.gapState, trampEnded_gap]
    rfl
  have hwindow : x.gap.jumpWindow = [] := by
    rw [hx, setActivity_jumpWindow (by simp [Activity.asks]), trampEnded_gap]
    rfl
  have hhistory : x.gap.history = [] := by
    have hnil : (trampEnded s).gap.history = [] := by
      rw [trampEnded_gap]
      rfl
    rcases setActivity_history (.relieved none) (trampEnded s) with h | h
    exacts [hx ▸ h.trans hnil, hx ▸ h]
  have hsetpoint : x.gap.setpoint = if s.gapState = .stuck then s.heldInWindow s.gap.target else s.gap.setpoint := by
    rw [hx]
    split
    · next h =>
      rw [(setActivity_of_stuck (hsame.trans h) (by simp [Activity.state])).1, trampEnded_frame]
      rfl
    · next h =>
      rw [setActivity_setpoint _ (by rwa [hsame]), trampEnded_gap]
      rfl
  have happroach : s.gapState ≠ .stuck → x.gap.approach = s.gap.approach := fun h => by
    rw [hx, (setActivity_approach_history fun hc => h (hsame ▸ hc.1)).1, trampEnded_gap]
    rfl
  have houtput : x.drive.output = 0 := hx ▸ setActivity_output_of_zeroed (driveModeOf_of_not_feeding _ rfl)
  have hcapacity : x.share.capacity = 0 := hx ▸ setActivity_capacity rfl _
  have hend : detectTramp s = x ∨ detectTramp s = report .trampRepeat true x := by
    rw [detectTramp_eq, ← hx]
    split
    exacts [.inr rfl, .inl rfl]
  refine ⟨hactivity, (congrArg (fun u : State => u.gap.armed) hstill :), (congrArg (fun u : State => u.gap.lastDetection) hstill :),
    ?_, ?_, (congrArg (fun u : State => u.gap.trampList) hstill :), ?_, fun h => ?_, (State.reference_of_still hstill).trans rfl,
    ?_, ?_⟩ <;> rcases hend with h' | h' <;> rw [h']
  exacts [hwindow, (report_gap _ _ hhistory).2.2.1.trans hwindow, hhistory, (report_gap _ _ hhistory).2.2.2, hsetpoint,
    (report_gap _ _ hhistory).1.trans hsetpoint, happroach h, (report_gap _ _ hhistory).2.1.trans (happroach h), houtput,
    (report_feeder _ _ houtput hcapacity).1, hcapacity, (report_feeder _ _ houtput hcapacity).2]

/-- The entry that a detection ends, alone in the queue (R112, R126). -/
theorem trampEnded_carried {k : QueuedKind} {s : State} {e : Entry} (hk : k = .setGap ∨ k = .calibrate) (hq : s.queue = [e])
    (ha : e.active = true) (he : e.kind = k) :
    (trampEnded s).queue = [] ∧ (trampEnded s).line = s.line.push (s.entryAnswer e (.stopped .tramp)) := by
  have hend : trampEnded s = { detected s with queue := [], line := s.line.push (s.entryAnswer e (.stopped .tramp)) } := by
    unfold trampEnded
    rcases hk with rfl | rfl
    · rw [endActiveOf_of_active (s := detected s) _ hq ha he, endActiveOf_of_nil _ _ rfl]
      rfl
    · have hother : endActiveOf .setGap (.stopped .tramp) (detected s) = detected s := by
        refine if_neg ?_
        have hqueue : (detected s).queue = [e] := hq
        simp [State.activeKind, State.activeEntry, hqueue, ha, he]
      rw [hother, endActiveOf_of_active (s := detected s) _ hq ha he]
      rfl
  rw [hend]
  exact ⟨rfl, rfl⟩

/-- Once its entry has ended, what follows a detection writes no answer. -/
theorem detectTramp_of_ended {s : State} (h : (trampEnded s).queue = []) :
    (detectTramp s).queue = [] ∧ (detectTramp s).line = (trampEnded s).line := by
  have hqueue : (setActivity (.relieved none) (trampEnded s)).queue = [] := (setActivity_queue _ _).trans h
  have hline := setActivity_line (.relieved none) (trampEnded s)
  have hrests := report_rests .trampRepeat true hqueue
  rw [detectTramp_eq]
  split
  exacts [⟨hrests.queue.trans hqueue, hrests.line.trans hline⟩, ⟨hqueue, hline⟩]

/-! ### What follows a detection in its event -/

theorem estimateTonnage_frame (output : Nat) (s : State) :
    estimateTonnage output s = { s with
      monitor := (estimateTonnage output s).monitor
      gap := { s.gap with wearAcc := (estimateTonnage output s).gap.wearAcc
                          linerTonnes := (estimateTonnage output s).gap.linerTonnes } } := by
  unfold estimateTonnage addTonnage
  split <;> rfl

theorem estimateTonnage_relieved (output : Nat) {s t : State} (h : Relieved s t) : Relieved s (estimateTonnage output t) := by
  rw [estimateTonnage_frame]
  exact ⟨h.activity, h.armed, h.lastDetection, h.jumpWindow, h.history, h.trampList, h.setpoint, h.approach, h.reference,
    h.output, h.capacity⟩

theorem afterTest_of_detection (output : Nat) {pressure : Nat} {s : State} (ha : s.gap.armed = true) (h : s.detects pressure) :
    afterTest output pressure s = estimateTonnage output (detectTramp s) := by
  have hstate : (estimateTonnage output (detectTramp s)).gapState = .relieved :=
    congrArg Activity.state (estimateTonnage_relieved output (detectTramp_relieved s)).activity
  rw [afterTest, trampReading_of_detection ha h, settle_wearChanged_of_busy] <;> simp [hstate]

end Sys2Proof.Machine

/-! ## A move that crosses W at a reading (O33) -/

namespace Sys2Proof.Machine

/-! ### The end of the move and its SET_GAP (R100, R112) -/

theorem moveCrossing_of_moving {s : State} {m : Move} {g : Nat} (hact : s.gap.activity = .moving m) (hg : s.gapEstimate = some g) :
    moveCrossing s = if crossed m.direction g s.gap.setpoint then endSetGapReached (arrive s) else s := by
  unfold moveCrossing
  rw [hact, hg]

theorem crossed_iff {d : Direction} {g w : Nat} :
    crossed d g w = true ↔ (d = .opening → w ≤ g) ∧ (d = .closing → g ≤ w) := by
  cases d <;> simp [crossed]

theorem endSetGapReached_activity (s : State) : (endSetGapReached s).gap.activity = s.gap.activity := by
  rw [endSetGapReached_frame]

theorem activityReading_of_moving {pressure : Option Nat} {x : Nat} {s : State} {m : Move} (h : s.gap.activity = .moving m) :
    activityReading pressure (some x) s = moveReading pressure s := by
  unfold activityReading
  simp only [h]

/-- A reading at which a move has crossed W ends it, and makes no other test of the move. -/
theorem moveReading_of_crossed {pressure : Option Nat} {s : State} {m : Move} {g : Nat} (hact : s.gap.activity = .moving m)
    (hg : s.gapEstimate = some g) (hc : crossed m.direction g s.gap.setpoint = true) :
    moveReading pressure s = endSetGapReached (arrive s) := by
  have hend : moveCrossing s = endSetGapReached (arrive s) := by rw [moveCrossing_of_moving hact hg, if_pos hc]
  have hholding : (endSetGapReached (arrive s)).gap.activity = .holding :=
    (endSetGapReached_activity _).trans (setActivity_activity _ _)
  unfold moveReading
  rw [hend]
  simp only [hholding]

/-- A move that ends with W reached: HOLDING, the approach over, W, queue, line and jump window as they were. -/
structure Arrived (s t : State) : Prop where
  still      : t.still = s.still
  activity   : t.gap.activity = .holding
  setpoint   : t.gap.setpoint = s.gap.setpoint
  approach   : t.gap.approach = false
  state      : t.run.state = s.run.state
  jumpWindow : t.gap.jumpWindow = s.gap.jumpWindow

theorem arrive_arrived {s : State} (h : s.gapState ≠ .stuck) :
    Arrived s (arrive s) ∧ (arrive s).queue = s.queue ∧ (arrive s).line = s.line := by
  have hrests : Rests { s with gap.approach := false } (arrive s) := setActivity_rests _ h
  exact ⟨⟨hrests.still.trans rfl, setActivity_activity _ _, hrests.setpoint, hrests.approach, setActivity_state _ _,
    setActivity_jumpWindow (by simp [Activity.asks]) _⟩, hrests.queue, hrests.line⟩

theorem endSetGapReached_arrived {s : State} (h : s.gapState ≠ .stuck) : Arrived s (endSetGapReached (arrive s)) := by
  obtain ⟨ha, -, -⟩ := arrive_arrived h
  have hgap : (endSetGapReached (arrive s)).gap = (arrive s).gap := by rw [endSetGapReached_frame]
  refine ⟨(endSetGapReached_still _).trans ha.still, ?_, ?_, ?_, (endSetGapReached_state _).trans ha.state, ?_⟩ <;> rw [hgap]
  exacts [ha.activity, ha.setpoint, ha.approach, ha.jumpWindow]

/-- The SET_GAP that the move carried is answered by whether W is its argument (R112). -/
theorem endSetGapReached_answers {s : State} {e : Entry} (hq : s.queue = [e]) (ha : e.active = true) (hk : e.kind = .setGap) :
    (endSetGapReached s).queue = [] ∧ (endSetGapReached s).line = s.line.push
      { requester := e.requester, tag := e.tag, kind := some .setGap
        outcome := if e.argument = some s.gap.setpoint then .done else .doneClamped
        remaining := none, reached := none, data := none } := by
  have hentry : s.activeEntry = some e := by simp [State.activeEntry, hq, ha]
  have hend : endSetGapReached s = endActive (s.setGapOutcome e) s := by
    unfold endSetGapReached
    rw [hentry]
    exact if_pos hk
  have hanswer : s.entryAnswer e (s.setGapOutcome e) =
      { requester := e.requester, tag := e.tag, kind := some .setGap
        outcome := if e.argument = some s.gap.setpoint then .done else .doneClamped
        remaining := none, reached := none, data := none } := by
    unfold State.setGapOutcome
    split <;> simp [State.entryAnswer, hk, QueuedKind.request, plainAnswer]
  rw [hend, endActive_of_active _ hq ha, hanswer]
  exact ⟨rfl, rfl⟩

/-! ### The tests that follow the end of the move (R99, R131) -/

/-- With a reference and no request queued, an event that HOLDING reaches ends in HOLDING or MOVING. -/
theorem settle_of_referenced {s : State} (hq : s.queue = []) (hh : s.gapState = .holding) (hr : s.gap.reference.present = true) :
    (settle s).gapState = .holding ∨ (settle s).gapState = .moving := by
  rw [settle_of_nil hq, internalCalibrationTest_of_reference hr]
  rcases moveTest_cases s with h | h
  · rw [h]
    exact .inl (primingTest_holding hh)
  · rw [primingTest_of_not fun hp => by simpa [h] using hp.2.2]
    exact .inr h

/-- The tests of a reading that its activity leaves in HOLDING, with no request queued. -/
theorem afterTest_of_holding {output pressure : Nat} {a : State} (hact : a.gap.activity = .holding) (hq : a.queue = [])
    (hr : a.gap.reference.present = true) :
    let t := afterTest output pressure a
    t.queue = [] ∧ t.line = a.line ∧ t.gap.setpoint = a.gap.setpoint ∧ t.gap.approach = a.gap.approach ∧
      t.gap.reference = a.gap.reference ∧
      (Calm pressure a → t.gapState = .holding ∨ t.gapState = .moving) ∧
      (¬ Calm pressure a → t.gap.activity = .relieved none) := by
  have hholding : a.gapState = .holding := congrArg Activity.state hact
  by_cases hcalm : Calm pressure a
  · obtain ⟨v, hv⟩ : ∃ v, v = estimateTonnage output (trampReading (some pressure) a) := ⟨_, rfl⟩
    have hw : Weighed a v := hv ▸ (trampReading_of_calm hcalm).trans (estimateTonnage_weighed output _)
    have hqueue : v.queue = [] := hw.queue.trans hq
    have hstate : v.gapState = .holding := congrArg Activity.state (hw.activity.trans hact)
    have hend : afterTest output pressure a = settle v := by
      rw [afterTest, ← hv, wearChanged_of_gapState (by simp [hstate])]
    have hrests := settle_rests hqueue
    rw [hend]
    exact ⟨hrests.queue.trans hqueue, hrests.line.trans hw.line, hrests.setpoint.trans hw.setpoint,
      hrests.approach.trans hw.approach, (State.reference_of_still hrests.still).trans hw.reference,
      fun _ => settle_of_referenced hqueue hstate (by rw [hw.reference]; exact hr), fun h => absurd hcalm h⟩
  · obtain ⟨harmed, hdetects⟩ := not_not.1 fun h => hcalm (calm_iff.2 h)
    have hrelieved := estimateTonnage_relieved output (detectTramp_relieved a)
    obtain ⟨hqueue, hline, -⟩ := afterTest_waiting output pressure hq
    have hfree : a.gapState ≠ .stuck := by simp [hholding]
    rw [← afterTest_of_detection output harmed hdetects] at hrelieved
    exact ⟨hqueue, hline (by simp [hholding]), hrelieved.setpoint.trans (if_neg hfree), hrelieved.approach hfree,
      hrelieved.reference, fun h => absurd h hcalm, fun _ => hrelieved.activity⟩

/-- Settles O33: the move ends at the crossing with its SET_GAP, and the tramp tests and the move test find the station at rest. -/
theorem crossingTheSetpointEndsSetGap : Obligations.CrossingTheSetpointEndsSetGap := by
  intro r s m e contact g p now hactive hact hq ha hk h1 h2 hm hx hc hg hopen hclose hp hnow c detects
  have hmarked := positionReading_of_marked hm hx
  have hsensed := sensed_inRange (s := s) ⟨h1, h2⟩ hmarked
  have hexec := exec_readingEvent_inRange (s := s) hactive ⟨h1, h2⟩ hmarked
  rw [activityReading_of_moving (hsensed.activity.trans hact)] at hexec
  generalize sensed r s = u at hsensed hexec
  have hestimate : u.gapEstimate = some g := by
    rw [hsensed.gapEstimate, hc, hg]
    rfl
  have hcrossed : crossed m.direction g u.gap.setpoint = true := by
    rw [hsensed.gap]
    exact crossed_iff.2 ⟨hopen, hclose⟩
  rw [moveReading_of_crossed (hsensed.activity.trans hact) hestimate hcrossed] at hexec
  have hfree : u.gapState ≠ .stuck := by simp [State.gapState, hsensed.activity.trans hact, Activity.state]
  obtain ⟨-, hqueue', hline'⟩ := arrive_arrived hfree
  have harrive := (arrive_arrived hfree).1
  obtain ⟨hqueue, hline⟩ := endSetGapReached_answers (hqueue'.trans (hsensed.queue.trans hq)) ha hk
  have harrived := endSetGapReached_arrived hfree
  rw [hline', harrive.setpoint, hsensed.line, hsensed.gap] at hline
  generalize endSetGapReached (arrive u) = a at hexec hqueue hline harrived
  have hpresent : a.gap.reference.present = true := by
    rw [State.reference_of_still harrived.still, hsensed.gap]
    simp [Reference.present, hc]
  obtain ⟨htq, htl, htw, hta, -, hquiet, htramp⟩ := afterTest_of_holding (output := s.drive.output) (pressure := pressureOf r s.settings)
    harrived.activity hqueue hpresent
  have hsetpoint : a.gap.setpoint = s.gap.setpoint := harrived.setpoint.trans (by rw [hsensed.gap])
  have hasks : a.gap.activity.asks ≠ .opening := by simp [harrived.activity, Activity.asks]
  obtain ⟨harmed, hdetects⟩ := hsensed.detects_iff (pressure := pressureOf r s.settings) harrived.still
    (harrived.jumpWindow.trans (by rw [hsensed.gap])) hasks hestimate
  have hcalm : Calm (pressureOf r s.settings) a ↔ ¬ detects := by
    have hpressure : pressureOf r s.settings = p := hp.symm
    have hclock : s.clockNext = now := hnow.symm
    rw [calm_iff, harmed, hdetects, hpressure, hclock]
  rw [hsetpoint] at htw
  refine ⟨_, hexec, htq, htw, hta.trans harrived.approach, ?_, ?_, fun hno ht hwear => ?_, htl.trans hline⟩
  · by_cases hd : detects
    · exact iff_of_true (congrArg Activity.state (htramp fun h => hcalm.1 h hd)) hd
    · refine iff_of_false (fun h => ?_) hd
      rcases hquiet (hcalm.2 hd) with h' | h' <;> rw [h'] at h <;> cases h
  · by_cases hd : detects
    · exact .inr (.inr (congrArg Activity.state (htramp fun h => hcalm.1 h hd)))
    · exact (hquiet (hcalm.2 hd)).elim .inl fun h => .inr (.inl h)
  · have hpoised : Poised a g a :=
      { settings := rfl
        setpoint := rfl
        approach := rfl
        activity := harrived.activity
        queue := hqueue
        active := State.active_of_state (harrived.state.trans (by rw [hsensed.run])) hactive
        estimate := (State.gapEstimate_of_still harrived.still).trans hestimate
        valid := (State.sensing_of_still harrived.still).2.2.trans hsensed.valid
        state := by rw [harrived.state, hsensed.run]; exact ht }
    have hkept : a.gap.wearAcc = s.gap.wearAcc := by
      rw [State.wearAcc_of_wear (State.wear_of_still harrived.still), hsensed.gap]
    have hsettings : a.settings = s.settings := (State.settings_of_still harrived.still).trans hsensed.settings
    have hdue : a.moveDue g ↔ c.holdBand < gapDistance g s.gap.setpoint := by
      rw [State.moveDue, harrived.approach, hsettings, hsetpoint]
      simp [c]
    obtain ⟨v, hv, hend⟩ := hpoised.afterTest s.drive.output (hcalm.2 hno) (hwear.trans hkept.symm)
    rw [hend]
    split
    · next hband => exact congrArg Activity.state (hv.moves (hdue.2 hband))
    · next hband => exact congrArg Activity.state (hv.stays fun h => hband (hdue.1 h))

end Sys2Proof.Machine

/-! ## A move's reading that is followed by a LINER_CHANGE (O34) -/

namespace Sys2Proof.Machine

/-- An opening move one tenth of a millimetre short of W. -/
def shortMove : Move where
  direction := .opening
  noRetry := false
  stallCount := 0
  mark := 253
  stall := 8000
  reversal := none
  paused := false

/-- A LINER_CHANGE that waits for the gap to come to rest: accepted in IDLE, before the station was told to run. -/
def waitingLinerChange : Entry where
  requester := 0
  tag := 5
  kind := .linerChange
  argument := none
  noRetry := false
  active := false

/-- The settings of the refuting station: a wear rate above 0.1 mm for each 100 t, no belt scale. -/
def wearingSettings : Settings :=
  { Settings.unread with
    feederCapacity := 4000, wearRate := 255, pressureSpan := 250, pressureOver := 200, trampMark := 220, settleMark := 60
    gapMin := 100, gapMax := 400, holdBand := 5, moveTimeout := 8, sampleWindow := 1000, cavityEmpty := 100 }

/-- A feeding station, referenced at 2300 with no wear yet, in that move, 5 kg short of its next 100 t, with that request queued. -/
def wearingStation : State :=
  { State.reset with
    settings := wearingSettings
    motorRunning := true
    monitor := { Monitor.reset with position := some 2047, positionValid := true, calibrationKg := 99995 }
    run := { State.reset.run with state := .running }
    drive := { State.reset.drive with output := 1000 }
    gap := { GapController.reset with
      reference := .referenced 2300, target := 254, setpoint := 254, activity := .moving shortMove }
    queue := [waitingLinerChange] }

/-- The same position again, at 25 bar. -/
def wearingReadings : Readings where
  power := 12000
  pressure := 5600
  cavity := 8000
  pile := 8000
  position := 2047
  positionMarked := true

/-- What the reading leaves: the wear has taken the gap past W, the move is over, and the LINER_CHANGE has set the wear back to 0. -/
theorem wearingStation_rests :
    (readingEvent wearingReadings wearingStation).gap.wearAcc = 0 ∧
      (readingEvent wearingReadings wearingStation).gapState = .holding := by decide +kernel

theorem exec_wearingReadings :
    exec (.readingEvent wearingReadings) wearingStation = .next (readingEvent wearingReadings wearingStation) :=
  congrArg Host.Outcome.next (if_pos rfl)

/-- Refutes O34: the tonnage of the reading itself raises the wear and so takes G from 253 past W at 254; the move ends, the
LINER_CHANGE that waited for it starts and sets the wear back to the 0 that it was, so that the wear shows no change while the move
that the statement promises is over. -/
theorem not_moveReadingsPauseAndProgress : ¬ Obligations.MoveReadingsPauseAndProgress := by
  intro h
  obtain ⟨hwear, hrests⟩ := wearingStation_rests
  obtain ⟨hreading, -⟩ := h wearingStation shortMove 2300 rfl rfl rfl
  obtain ⟨t, hexec, hclaim⟩ := hreading wearingReadings 253 25 (by decide) (by decide) rfl (by decide) (by decide) (by decide)
    ⟨fun _ => by decide, fun hc => by cases hc⟩ fun _ => ⟨by decide, .inl rfl⟩
  obtain rfl : readingEvent wearingReadings wearingStation = t := Host.Outcome.next.inj (exec_wearingReadings.symm.trans hexec)
  have hunreversed : ¬ ∃ goal, shortMove.reversal = some goal ∧
      (if (decide (shortMove.direction = .opening) != shortMove.reversal.isSome) = true then goal ≤ 253 else 253 ≤ goal) := by
    rintro ⟨goal, hgoal, -⟩
    cases hgoal
  obtain ⟨-, -, hdriven⟩ := hclaim hwear
  have hmoving := (hdriven hunreversed (.inl rfl)).2 (by decide)
  rw [State.gapState, hmoving] at hrests
  cases hrests

end Sys2Proof.Machine

/-! ## The readings of relief and re-closing (O41) -/

namespace Sys2Proof.Machine

/-! ### A reading of any kind (R1, R5) -/

theorem exec_readingEvent {r : Readings} {s : State} (ha : s.active = true) :
    exec (.readingEvent r) s = .next (settle (wearChanged (estimateTonnage s.drive.output
      (trampReading (loopReading s.settings.pressureSpan r.pressure)
        (activityReading (loopReading s.settings.pressureSpan r.pressure) (positionReading r) (sensed r s)))))) :=
  congrArg Host.Outcome.next ((if_pos ha).trans (readingEvent_eq r s))

/-- A reading event with its pressure in range, the position valid or not. -/
theorem exec_reading_of_pressure {r : Readings} {s : State} (ha : s.active = true) (hin : 3600 ≤ r.pressure ∧ r.pressure ≤ 21000) :
    exec (.readingEvent r) s = .next (afterTest s.drive.output (pressureOf r s.settings)
      (activityReading (some (pressureOf r s.settings)) (positionReading r) (sensed r s))) := by
  rw [exec_readingEvent ha, loopReading_of_inRange hin]
  rfl

theorem State.still_activity (act : Activity) (s : State) : ({ s with gap.activity := act } : State).still = s.still := rfl

/-- Only a move and a calibration are ended by a trip (R106, R126, R140). -/
theorem report_activity_kept (k : FaultKind) (trips : Bool) {s : State} (h1 : s.gapState ≠ .moving)
    (h2 : s.gapState ≠ .calibrating) : (report k trips s).gap.activity = s.gap.activity := by
  unfold report
  split
  · have hkept : ¬ ((noteFault k s).gapState = .moving ∨ (noteFault k s).gapState = .calibrating) := not_or.2 ⟨h1, h2⟩
    rw [trip_activity, if_neg hkept, noteFault_gap]
  · rw [noteFault_gap]

theorem breakInput_activity {s t u : State} {c : Prop} [Decidable c] (k : FaultKind) (trips : Bool) (h1 : s.gapState ≠ .moving)
    (h2 : s.gapState ≠ .calibrating) (h : t.gap.activity = s.gap.activity) (hu : u.gap.activity = t.gap.activity) :
    (if c then report k trips u else t).gap.activity = s.gap.activity := by
  have hstate : u.gapState = s.gapState := congrArg Activity.state (hu.trans h)
  split
  · rw [report_activity_kept k trips (by rwa [hstate]) (by rwa [hstate]), hu, h]
  · exact h

/-- The break checks end no other activity, also where they trip. -/
theorem breakChecks_activity_kept (r : Readings) {s t : State} (h1 : s.gapState ≠ .moving) (h2 : s.gapState ≠ .calibrating)
    (h : t.gap.activity = s.gap.activity) : (breakChecks r t).gap.activity = s.gap.activity := by
  have hpower : ∀ ok u, u.gap.activity = s.gap.activity → (breakPower ok u).gap.activity = s.gap.activity :=
    fun _ _ h => by unfold breakPower; exact breakInput_activity _ _ h1 h2 h rfl
  have hpressure : ∀ ok u, u.gap.activity = s.gap.activity → (breakPressure ok u).gap.activity = s.gap.activity :=
    fun _ _ h => by unfold breakPressure; exact breakInput_activity _ _ h1 h2 h rfl
  have hcavity : ∀ ok u, u.gap.activity = s.gap.activity → (breakCavity ok u).gap.activity = s.gap.activity :=
    fun _ _ h => by unfold breakCavity; exact breakInput_activity _ _ h1 h2 h rfl
  have hpile : ∀ ok u, u.gap.activity = s.gap.activity → (breakPile ok u).gap.activity = s.gap.activity :=
    fun _ _ h => by unfold breakPile; exact breakInput_activity _ _ h1 h2 h rfl
  have hposition : ∀ ok u, u.gap.activity = s.gap.activity → (breakPosition ok u).gap.activity = s.gap.activity :=
    fun _ _ h => by unfold breakPosition; exact breakInput_activity _ _ h1 h2 h rfl
  exact hposition _ _ (hpile _ _ (hcavity _ _ (hpressure _ _ (hpower _ _ h))))

theorem sensed_activity_kept (r : Readings) {s : State} (h1 : s.gapState ≠ .moving) (h2 : s.gapState ≠ .calibrating) :
    (sensed r s).gap.activity = s.gap.activity := by
  have hread : (noteReading r (advanceReadingClock s)).gap.activity = s.gap.activity := by
    rw [noteReading_gap]
    rfl
  rw [sensed, notePosition_gap]
  exact breakChecks_activity_kept r h1 h2 hread

theorem sensed_fields (r : Readings) (s : State) :
    (sensed r s).settings = s.settings ∧ (sensed r s).gap.armed = s.gap.armed ∧
      (sensed r s).monitor.positionValid = (positionReading r).isSome := by
  obtain ⟨harmed, -, hsettings, hvalid⟩ := State.detection_of_fixed (State.fixed_of_still (sensed_still r s))
  exact ⟨hsettings, harmed, hvalid⟩

/-! ### A reading without tramp that finds neither HOLDING, STUCK nor MOVING -/

theorem afterTest_of_busy {output pressure : Nat} {s : State} (h1 : s.gapState ≠ .holding) (h2 : s.gapState ≠ .stuck)
    (h3 : s.gapState ≠ .moving) (h : Calm pressure s) : Weighed s (afterTest output pressure s) := by
  have hweighed := (trampReading_of_calm h).trans (estimateTonnage_weighed output _)
  have hstate : (estimateTonnage output (trampReading (some pressure) s)).gapState = s.gapState :=
    congrArg Activity.state hweighed.activity
  rw [afterTest, settle_wearChanged_of_busy (by rwa [hstate]) (by rwa [hstate]) (by rwa [hstate])]
  exact hweighed

/-- At an invalid position no jump is tested (R133). -/
theorem calm_of_invalid {pressure : Nat} {s : State} (hv : s.monitor.positionValid = false)
    (hq : s.gap.armed = true → pressure ≤ s.settings.trampMark) : Calm pressure s := by
  intro harmed
  have hnone : s.jumpCandidate = none := if_neg fun hc => Bool.false_ne_true (hv.symm.trans hc.1)
  rw [hnone]
  exact ⟨hq harmed, rfl⟩

theorem positionReading_of_invalid {r : Readings} (h : ¬ (r.positionMarked = true ∧ r.position ≤ 4095)) :
    positionReading r = none := if_neg h

/-- No tramp at a reading in range, its position valid or not, in the terms of the state before it (R132, R133). -/
theorem sensed_calm {r : Readings} {s a : State} {pressure : Nat} (hin : 3600 ≤ r.pressure ∧ r.pressure ≤ 21000)
    (ha : a.still = (sensed r s).still)
    (hw : r.positionMarked = true ∧ r.position ≤ 4095 → a.gap.jumpWindow = (sensed r s).gap.jumpWindow)
    (hq : s.gap.armed = true → pressure ≤ s.settings.trampMark)
    (hj : r.positionMarked = true ∧ r.position ≤ 4095 → SmallJumps s r.position) : Calm pressure a := by
  by_cases hvalid : r.positionMarked = true ∧ r.position ≤ 4095
  · have hsensed := sensed_inRange (s := s) hin (positionReading_of_marked hvalid.1 hvalid.2)
    exact hsensed.calm ha ((hw hvalid).trans (by rw [hsensed.gap])) hq (hj hvalid)
  · obtain ⟨hsettings, harmed, hposition⟩ := sensed_fields r s
    obtain ⟨harmed', -, hsettings', hposition'⟩ := State.detection_of_fixed (State.fixed_of_still ha)
    rw [positionReading_of_invalid hvalid] at hposition
    refine calm_of_invalid (hposition'.trans hposition) ?_
    rwa [harmed', harmed, hsettings', hsettings]

/-! ### RELIEVED (R137) -/

/-- The settle timer that a reading leaves. -/
def settledBy (c : Settings) (pressure : Option Nat) (timer : Timer) : Timer :=
  if pressure.any (fun v => decide (v < c.settleMark)) then some (timer.getD (c.settleTime * 1000)) else none

theorem activityReading_of_relieved {pressure position : Option Nat} {s : State} {c : Settings} {timer : Timer}
    (h : s.gap.activity = .relieved timer) (hc : s.settings = c) :
    activityReading pressure position s = { s with gap.activity := .relieved (settledBy c pressure timer) } := by
  subst hc
  unfold activityReading settleReading settledBy
  simp only [h]
  have hasks : ∀ x, (Activity.relieved x).asks ≠ .opening := fun x => by simp [Activity.asks]
  split <;> exact updateActivity_of_not_opening (hasks _) s

section
variable {r : Readings} {s : State} {timer : Timer} (ha : s.active = true) (hact : s.gap.activity = .relieved timer)
include ha hact

/-- A reading of RELIEVED leaves the settle timer by its own pressure, or stopped by a detection. -/
theorem exec_reading_of_relieved :
    ∃ t, exec (.readingEvent r) s = .next t ∧
      (t.gap.activity = .relieved (settledBy s.settings (loopReading s.settings.pressureSpan r.pressure) timer) ∨
        t.gap.activity = .relieved none) := by
  have hkept : (sensed r s).gap.activity = .relieved timer :=
    (sensed_activity_kept r (by simp [State.gapState, hact, Activity.state])
      (by simp [State.gapState, hact, Activity.state])).trans hact
  have hexec := exec_readingEvent (r := r) ha
  rw [activityReading_of_relieved hkept (sensed_fields r s).1] at hexec
  generalize settledBy s.settings (loopReading s.settings.pressureSpan r.pressure) timer = x at hexec ⊢
  obtain ⟨v, hv⟩ : ∃ v, v = trampReading (loopReading s.settings.pressureSpan r.pressure)
      { sensed r s with gap.activity := .relieved x } := ⟨_, rfl⟩
  have hend : v.gap.activity = .relieved x ∨ v.gap.activity = .relieved none := by
    rw [hv]
    exact trampReading_activity _ _
  have hsame : (estimateTonnage s.drive.output v).gap.activity = v.gap.activity := (estimateTonnage_weighed _ v).activity
  have hstate : (estimateTonnage s.drive.output v).gapState = .relieved := by
    rw [State.gapState, hsame]
    rcases hend with h | h <;> rw [h] <;> rfl
  rw [← hv, settle_wearChanged_of_busy (by simp [hstate]) (by simp [hstate]) (by simp [hstate])] at hexec
  exact ⟨_, hexec, by rwa [hsame]⟩

theorem exec_calm_reading_of_relieved (hin : 3600 ≤ r.pressure ∧ r.pressure ≤ 21000)
    (hq : s.gap.armed = true → pressureOf r s.settings ≤ s.settings.trampMark)
    (hj : r.positionMarked = true ∧ r.position ≤ 4095 → SmallJumps s r.position) :
    ∃ t, exec (.readingEvent r) s = .next t ∧
      t.gap.activity = .relieved (settledBy s.settings (some (pressureOf r s.settings)) timer) := by
  have hkept : (sensed r s).gap.activity = .relieved timer :=
    (sensed_activity_kept r (by simp [State.gapState, hact, Activity.state])
      (by simp [State.gapState, hact, Activity.state])).trans hact
  have hexec := exec_reading_of_pressure (r := r) ha hin
  rw [activityReading_of_relieved hkept (sensed_fields r s).1] at hexec
  generalize settledBy s.settings (some (pressureOf r s.settings)) timer = x at hexec ⊢
  obtain ⟨a, ha⟩ : ∃ a : State, a = { sensed r s with gap.activity := .relieved x } := ⟨_, rfl⟩
  rw [← ha] at hexec
  have hrelieved : a.gap.activity = .relieved x := by rw [ha]
  have hcalm : Calm (pressureOf r s.settings) a :=
    sensed_calm hin (by rw [ha, State.still_activity]) (fun _ => by rw [ha]) hq hj
  have hweighed := afterTest_of_busy (output := s.drive.output) (by simp [State.gapState, hrelieved, Activity.state])
    (by simp [State.gapState, hrelieved, Activity.state]) (by simp [State.gapState, hrelieved, Activity.state]) hcalm
  exact ⟨_, hexec, hweighed.activity.trans hrelieved⟩

end

/-! ### RECOVERING (R139) -/

theorem activityReading_of_recovering {pressure : Option Nat} {x : Nat} {s : State} {d : Reclosing}
    (h : s.gap.activity = .recovering d) : activityReading pressure (some x) s = reclosingReading pressure s := by
  unfold activityReading
  simp only [h]

/-- A driving activity waits while the position reading is invalid (R93). -/
theorem activityReading_of_recovering_invalid {pressure : Option Nat} {s : State} {d : Reclosing}
    (h : s.gap.activity = .recovering d) : activityReading pressure none s = s := by
  unfold activityReading
  simp only [h]

section
variable {pressure : Option Nat} {s : State} {d : Reclosing} {g : Nat} (hact : s.gap.activity = .recovering d)
  (hg : s.gapEstimate = some g)
include hact hg

theorem reclosingReading_of_arrived (hw : g ≤ s.gap.setpoint) : reclosingReading pressure s = arrive s := by
  have harrive : reclosingArrival s = arrive s := by
    unfold reclosingArrival
    rw [hact, hg]
    exact if_pos hw
  have hholding : (arrive s).gap.activity = .holding := setActivity_activity _ _
  unfold reclosingReading
  rw [harrive]
  simp only [hholding]

theorem reclosingReading_of_above {c : Settings} (hc : s.settings = c) (hw : s.gap.setpoint < g) :
    reclosingReading pressure s =
      { s with gap.activity := .recovering (d.reading c.pressureOver (c.moveTimeout * 1000) pressure g) } := by
  have hsame : reclosingArrival s = s := by
    unfold reclosingArrival
    rw [hact, hg]
    exact if_neg (Nat.not_le.2 hw)
  have hasks : ∀ d', (Activity.recovering d').asks ≠ .opening := fun d' => by
    rw [Activity.asks]
    split <;> simp
  subst hc
  unfold reclosingReading
  simp only [hsame, hact, hg]
  exact updateActivity_of_not_opening (hasks _) s

end

theorem Reclosing.reading_of_over {overMark timeout p g : Nat} (d : Reclosing) (h : overMark < p) :
    d.reading overMark timeout (some p) g = { d with paused := true } := by
  simp [Reclosing.reading, pauseBy, h]

theorem Reclosing.reading_of_driven {overMark timeout p g : Nat} (d : Reclosing) (h : p ≤ overMark) :
    d.reading overMark timeout (some p) g =
      if g + 5 ≤ d.mark then { mark := g, stall := timeout, paused := false } else { d with paused := false } := by
  have hdriven : decide (overMark < p) = false := by simpa using h
  by_cases hgain : g + 5 ≤ d.mark <;>
    simp [Reclosing.reading, pauseBy, hdriven, trackProgress, progressed, hgain]

section
variable {r : Readings} {s : State} {d : Reclosing} (ha : s.active = true) (hact : s.gap.activity = .recovering d)
  (hin : 3600 ≤ r.pressure ∧ r.pressure ≤ 21000)
  (hq : s.gap.armed = true → pressureOf r s.settings ≤ s.settings.trampMark)
include ha hact hin hq

/-- At an invalid position nothing of the re-closing changes (log entry 29). -/
theorem exec_reading_of_recovering_invalid (hv : ¬ (r.positionMarked = true ∧ r.position ≤ 4095)) :
    ∃ t, exec (.readingEvent r) s = .next t ∧ t.gap.activity = .recovering d ∧ t.valve = .off := by
  have hkept : (sensed r s).gap.activity = .recovering d :=
    (sensed_activity_kept r (by simp [State.gapState, hact, Activity.state])
      (by simp [State.gapState, hact, Activity.state])).trans hact
  have hexec := exec_reading_of_pressure (r := r) ha hin
  have hinvalid := (sensed_fields r s).2.2
  have hcalm : Calm (pressureOf r s.settings) (sensed r s) := sensed_calm hin rfl (fun h => absurd h hv) hq (fun h => absurd h hv)
  rw [positionReading_of_invalid hv, activityReading_of_recovering_invalid hkept] at hexec
  rw [positionReading_of_invalid hv] at hinvalid
  have hweighed := afterTest_of_busy (output := s.drive.output) (by simp [State.gapState, hkept, Activity.state])
    (by simp [State.gapState, hkept, Activity.state]) (by simp [State.gapState, hkept, Activity.state]) hcalm
  refine ⟨_, hexec, hweighed.activity.trans hkept, if_neg fun hvalid => ?_⟩
  exact Bool.false_ne_true ((hweighed.valid.trans hinvalid).symm.trans hvalid)

variable {contact g : Nat} (hm : r.positionMarked = true) (hx : r.position ≤ 4095) (hj : SmallJumps s r.position)
  (hc : s.gap.reference.contact? = some contact) (hg : g = (contact + s.gap.wearAcc / 100) - r.position)
include hm hx hj hc hg

theorem exec_reading_of_reclosed (hw : g ≤ s.gap.setpoint) (hnil : s.queue = []) :
    ∃ t, exec (.readingEvent r) s = .next t ∧ t.gapState ≠ .recovering ∧ t.gap.approach = false ∧
      t.gap.setpoint = s.gap.setpoint ∧ t.gap.reference = s.gap.reference := by
  have hmarked := positionReading_of_marked hm hx
  have hsensed := sensed_inRange (s := s) hin hmarked
  have hexec := exec_readingEvent_inRange (s := s) ha hin hmarked
  rw [activityReading_of_recovering (hsensed.activity.trans hact)] at hexec
  generalize sensed r s = u at hsensed hexec
  have hestimate : u.gapEstimate = some g := by rw [hsensed.gapEstimate, hc, hg]; rfl
  have hsetpoint : u.gap.setpoint = s.gap.setpoint := by rw [hsensed.gap]
  have hreference : u.gap.reference = s.gap.reference := by rw [hsensed.gap]
  rw [reclosingReading_of_arrived (hsensed.activity.trans hact) hestimate (hw.trans_eq hsetpoint.symm)] at hexec
  have hfree : u.gapState ≠ .stuck := by simp [State.gapState, hsensed.activity.trans hact, Activity.state]
  obtain ⟨harrived, hqueue, -⟩ := arrive_arrived hfree
  have hcalm : Calm (pressureOf r s.settings) (arrive u) :=
    hsensed.calm harrived.still (harrived.jumpWindow.trans (by rw [hsensed.gap])) hq hj
  have href := (State.reference_of_still harrived.still).trans hreference
  generalize arrive u = a at hexec harrived hqueue hcalm href
  obtain ⟨-, -, htw, hta, htr, hquiet, -⟩ := afterTest_of_holding (output := s.drive.output) harrived.activity
    (hqueue.trans (hsensed.queue.trans hnil)) (by rw [href]; simp [Reference.present, hc])
  refine ⟨_, hexec, ?_, hta.trans harrived.approach, htw.trans (harrived.setpoint.trans hsetpoint), htr.trans href⟩
  rcases hquiet hcalm with h | h <;> simp [h]

theorem exec_reading_of_reclosing (hw : s.gap.setpoint < g) :
    ∃ t, exec (.readingEvent r) s = .next t ∧ t.gap.activity =
      .recovering (d.reading s.settings.pressureOver (s.settings.moveTimeout * 1000) (some (pressureOf r s.settings)) g) := by
  have hmarked := positionReading_of_marked hm hx
  have hsensed := sensed_inRange (s := s) hin hmarked
  have hexec := exec_readingEvent_inRange (s := s) ha hin hmarked
  rw [activityReading_of_recovering (hsensed.activity.trans hact)] at hexec
  generalize sensed r s = u at hsensed hexec
  have hestimate : u.gapEstimate = some g := by rw [hsensed.gapEstimate, hc, hg]; rfl
  have hsetpoint : u.gap.setpoint = s.gap.setpoint := by rw [hsensed.gap]
  rw [reclosingReading_of_above (hsensed.activity.trans hact) hestimate hsensed.settings
    (hsetpoint.trans_lt hw)] at hexec
  generalize d.reading s.settings.pressureOver (s.settings.moveTimeout * 1000) (some (pressureOf r s.settings)) g = d' at hexec ⊢
  obtain ⟨a, ha⟩ : ∃ a : State, a = { u with gap.activity := .recovering d' } := ⟨_, rfl⟩
  rw [← ha] at hexec
  have hrecovering : a.gap.activity = .recovering d' := by rw [ha]
  have hcalm : Calm (pressureOf r s.settings) a :=
    hsensed.calm (by rw [ha, State.still_activity]) (by rw [ha, hsensed.gap]) hq hj
  have hweighed := afterTest_of_busy (output := s.drive.output) (by simp [State.gapState, hrecovering, Activity.state])
    (by simp [State.gapState, hrecovering, Activity.state]) (by simp [State.gapState, hrecovering, Activity.state]) hcalm
  exact ⟨_, hexec, hweighed.activity.trans hrecovering⟩

end

/-- Settles O41: the reading's own test by the activity, which neither RELIEVED nor RECOVERING lets the end of the event change. -/
theorem reliefAndReclosingReadings : Obligations.ReliefAndReclosingReadings := by
  intro r s p ha hp inRange valid now calm timeout
  have hpressure : pressureOf r s.settings = p := hp.symm
  have hjumps : calm → valid → SmallJumps s r.position := fun hcalm hvalid harmed => (hcalm harmed).2 hvalid
  have hmark : calm → s.gap.armed = true → pressureOf r s.settings ≤ s.settings.trampMark := fun hcalm harmed =>
    hpressure.trans_le (hcalm harmed).1
  obtain ⟨t, ht⟩ : ∃ t, exec (.readingEvent r) s = .next t := ⟨_, exec_readingEvent ha⟩
  have hsame : ∀ P : State → Prop, (∃ t', exec (.readingEvent r) s = .next t' ∧ P t') → P t := by
    rintro P ⟨t', ht', hP⟩
    obtain rfl : t' = t := Host.Outcome.next.inj (ht'.symm.trans ht)
    exact hP
  refine ⟨t, ht, fun timer hact => ⟨fun hin hlow hcalm => ?_, fun hnot => ?_⟩,
    fun d contact g hact hin hvalid hcalm hc hg => ⟨fun hw hnil => ?_, fun hw hover => ?_, fun hw hlow => ?_⟩,
    fun d hact hvalid hin hcalm => ?_⟩
  · have h := hsame _ (exec_calm_reading_of_relieved ha hact hin (hmark hcalm) (hjumps hcalm))
    rwa [settledBy, if_pos (by simpa [hpressure] using hlow)] at h
  · have h := hsame _ (exec_reading_of_relieved ha hact)
    have hstopped : settledBy s.settings (loopReading s.settings.pressureSpan r.pressure) timer = none := by
      refine if_neg ?_
      by_cases hin : inRange
      · have hhigh := hnot.resolve_left (not_not.2 hin)
        rw [loopReading_of_inRange hin, ← hp]
        simpa using hhigh
      · rw [loopReading_of_outOfRange hin]
        simp
    rw [hstopped] at h
    exact h.elim id id
  · exact hsame (fun t => t.gapState ≠ .recovering ∧ t.gap.approach = false ∧ t.gap.setpoint = s.gap.setpoint ∧
      t.gap.reference = s.gap.reference)
      (exec_reading_of_reclosed ha hact hin (hmark hcalm) hvalid.1 hvalid.2 (hjumps hcalm hvalid) hc hg hw hnil)
  · have h := hsame _ (exec_reading_of_reclosing ha hact hin (hmark hcalm) hvalid.1 hvalid.2 (hjumps hcalm hvalid) hc hg hw)
    rwa [hpressure, Reclosing.reading_of_over d hover] at h
  · have h := hsame _ (exec_reading_of_reclosing ha hact hin (hmark hcalm) hvalid.1 hvalid.2 (hjumps hcalm hvalid) hc hg hw)
    rwa [hpressure, Reclosing.reading_of_driven d hlow] at h
  · exact hsame (fun t => t.gap.activity = .recovering d ∧ t.valve = .off)
      (exec_reading_of_recovering_invalid ha hact hin (hmark hcalm) hvalid)

end Sys2Proof.Machine

/-! ## The jump window to the end of a reading event (R133) -/

namespace Sys2Proof.Machine

/-- The jump window is `w`, or emptied where the activity asks for OPEN. -/
def JumpsFollow (w : List (Nat × Nat)) (t : State) : Prop :=
  t.gap.jumpWindow = if t.gap.activity.asks = .opening then [] else w

theorem JumpsFollow.of_off {w : List (Nat × Nat)} {t : State} (ho : t.gap.activity.asks ≠ .opening)
    (hw : t.gap.jumpWindow = w) : JumpsFollow w t := hw.trans (if_neg ho).symm

theorem asks_of_holding {s : State} (h : s.gapState = .holding) : s.gap.activity.asks = .off := by
  simp [activity_of_holding h, Activity.asks]

theorem JumpsFollow.window_of_holding {w : List (Nat × Nat)} {t : State} (h : JumpsFollow w t) (hh : t.gapState = .holding) :
    t.gap.jumpWindow = w := h.trans (if_neg (by simp [asks_of_holding hh]))

/-! ### The operations that change the activity -/

theorem emptyJumpIfOpening_follows {w : List (Nat × Nat)} {u : State} (h : u.gap.jumpWindow = w) :
    JumpsFollow w (emptyJumpIfOpening u) := by
  by_cases ho : u.gap.activity.asks = .opening
  · rw [emptyJumpIfOpening, if_pos ho]
    exact (if_pos ho).symm
  · rw [emptyJumpIfOpening, if_neg ho]
    exact .of_off ho h

theorem updateActivity_follows {w : List (Nat × Nat)} (act : Activity) {s : State} (h : s.gap.jumpWindow = w) :
    JumpsFollow w (updateActivity act s) := emptyJumpIfOpening_follows h

theorem setActivity_follows {w : List (Nat × Nat)} (act : Activity) {s : State} (h : s.gap.jumpWindow = w) :
    JumpsFollow w (setActivity act s) := by
  unfold setActivity
  extract_lets u
  have hu : u.gap.jumpWindow = w := by
    unfold u
    split <;> exact h
  refine emptyJumpIfOpening_follows ?_
  rw [zeroIfZeroed_gap, dropCapacity_gap]
  exact hu

/-! ### The tests that end an event -/

section
variable {w : List (Nat × Nat)} {s : State}

theorem internalCalibrationTest_follows (h : JumpsFollow w s) : JumpsFollow w (internalCalibrationTest s) := by
  unfold internalCalibrationTest
  split
  · next hstart => exact setActivity_follows _ (h.window_of_holding hstart.2.1)
  · exact h

theorem moveTest_follows (h : JumpsFollow w s) : JumpsFollow w (moveTest s) := by
  unfold moveTest
  split
  · split
    · next hstart => exact setActivity_follows _ (h.window_of_holding (State.movesAllowed_iff.1 hstart.1).2.1)
    · exact h
  · exact h

theorem report_jumpWindow (k : FaultKind) (trips : Bool) (s : State) : (report k trips s).gap.jumpWindow = s.gap.jumpWindow := by
  unfold report
  split
  · rw [trip_jumpWindow, noteFault_gap]
  · rw [noteFault_gap]

theorem enterRun_jumpWindow (r : RunState) (s : State) : (enterRun r s).gap.jumpWindow = s.gap.jumpWindow := by
  have hchange : (changeRun r s).gap.jumpWindow = s.gap.jumpWindow := by rw [changeRun_frame]
  unfold enterRun
  split
  · rw [report_jumpWindow, hchange]
  · exact hchange

theorem primingTest_follows (h : JumpsFollow w s) : JumpsFollow w (primingTest s) := by
  unfold primingTest
  split
  · next hp =>
    refine .of_off ?_ ((enterRun_jumpWindow _ _).trans (h.window_of_holding hp.2.2))
    simp [asks_of_holding (enterRun_gapState hp.2.2)]
  · exact h

/-- A queue whose head is ACTIVE starts nothing (R144). -/
theorem State.headStartable_of_active (h : ∀ e ∈ s.queue, e.active = true) : s.headStartable = false := by
  refine Bool.eq_false_iff.2 fun hstart => ?_
  obtain ⟨-, -, e, rest, hq, hwaits⟩ := State.headStartable_iff.1 hstart
  exact Bool.false_ne_true (hwaits.symm.trans (h e (by simp [hq])))

theorem settle_follows (hq : ∀ e ∈ s.queue, e.active = true) (h : JumpsFollow w s) : JumpsFollow w (settle s) := by
  rw [settle_of_not_startable (State.headStartable_of_active hq)]
  exact primingTest_follows (moveTest_follows (internalCalibrationTest_follows h))

/-! ### The tests of a running move -/

theorem moveCrossing_cases (s : State) :
    moveCrossing s = s ∨ s.gapState = .moving ∧ moveCrossing s = endSetGapReached (arrive s) := by
  unfold moveCrossing
  split
  · next m g hact _ =>
    split
    exacts [.inr ⟨congrArg Activity.state hact, rfl⟩, .inl rfl]
  · exact .inl rfl

theorem reversalTest_cases (s : State) :
    reversalTest s = s ∨ ∃ m, s.gap.activity = .moving m ∧ ∃ m', reversalTest s = updateActivity (.moving m') s := by
  unfold reversalTest
  split
  · next m g hact _ =>
    split
    exacts [.inr ⟨m, hact, _, rfl⟩, .inl rfl]
  · exact .inl rfl

/-- A change of the wear leaves the gap state, or ends a move in HOLDING. -/
theorem wearChanged_gapState (s : State) : (wearChanged s).gapState = s.gapState ∨ (wearChanged s).gapState = .holding := by
  have hreversal : ∀ u : State, (reversalTest u).gapState = u.gapState := fun u => by
    rcases reversalTest_cases u with h | ⟨m, hact, m', h⟩ <;> rw [h]
    rw [State.gapState, State.gapState, updateActivity_activity, hact]
    rfl
  unfold wearChanged
  split
  · rw [hreversal]
    rcases moveCrossing_cases s with h | ⟨-, h⟩ <;> rw [h]
    · exact .inl rfl
    · refine .inr ?_
      rw [State.gapState, endSetGapReached_activity, arrive, setActivity_activity]
      rfl
  · exact .inl rfl

theorem wearChanged_follows (ho : s.gap.activity.asks ≠ .opening) (hw : s.gap.jumpWindow = w) :
    JumpsFollow w (wearChanged s) := by
  have hcross : (moveCrossing s).gap.activity.asks ≠ .opening ∧ (moveCrossing s).gap.jumpWindow = w := by
    rcases moveCrossing_cases s with h | ⟨hmoving, h⟩ <;> rw [h]
    · exact ⟨ho, hw⟩
    · have harrived := endSetGapReached_arrived (s := s) (by simp [hmoving])
      exact ⟨by simp [harrived.activity, Activity.asks], harrived.jumpWindow.trans hw⟩
  unfold wearChanged
  split
  · rcases reversalTest_cases (moveCrossing s) with h | ⟨-, -, m', h⟩ <;> rw [h]
    exacts [.of_off hcross.1 hcross.2, updateActivity_follows _ hcross.2]
  · exact .of_off ho hw

end

/-! ### A reading without tramp -/

theorem State.marks_of_fixed {s t : State} (h : t.fixed = s.fixed) :
    t.gap.armed = s.gap.armed ∧ t.gap.lastDetection = s.gap.lastDetection ∧ t.gap.trampList = s.gap.trampList :=
  ⟨(congrArg (fun v : State => v.gap.armed) h :), (congrArg (fun v : State => v.gap.lastDetection) h :),
    (congrArg (fun v : State => v.gap.trampList) h :)⟩

/-- What a reading without tramp leaves of detection, where its activity asks for no OPEN and no request waits. -/
theorem afterTest_follows {output pressure : Nat} {a : State} (hcalm : Calm pressure a) (ho : a.gap.activity.asks ≠ .opening)
    (hq : ∀ e ∈ a.queue, e.active = true) :
    ∀ b t, b = trampReading (some pressure) a → t = afterTest output pressure a →
    JumpsFollow b.gap.jumpWindow t ∧ t.gap.armed = b.gap.armed ∧ t.gap.lastDetection = b.gap.lastDetection ∧
      t.gap.trampList = b.gap.trampList ∧ (a.gapState ≠ .relieved → t.gapState ≠ .relieved) := by
  intro b t hb' ht'
  have hb : Weighed a b := hb' ▸ trampReading_of_calm hcalm
  obtain ⟨v, hv⟩ : ∃ v, v = estimateTonnage output b := ⟨_, rfl⟩
  have hw : Weighed a v := hb.trans (hv ▸ estimateTonnage_weighed output b)
  have ht : t = settle (wearChanged v) := by rw [ht', afterTest, hv, hb']
  have hfixed : t.fixed = v.fixed := by rw [ht, settle_fixed, wearChanged_fixed]
  have hgap : v.gap.jumpWindow = b.gap.jumpWindow ∧ v.gap.armed = b.gap.armed ∧
      v.gap.lastDetection = b.gap.lastDetection ∧ v.gap.trampList = b.gap.trampList := by
    rw [hv, estimateTonnage_frame]
    exact ⟨rfl, rfl, rfl, rfl⟩
  obtain ⟨hwindow, harmed, hlast, hlist⟩ := hgap
  have hwaits : ∀ e ∈ (wearChanged v).queue, e.active = true := fun e he => by
    by_contra hactive
    have hmem := (wearChanged_tame (.refl v)).waiting e he (by simpa using hactive)
    rw [hw.queue] at hmem
    exact hactive (hq e hmem)
  refine ⟨?_, ?_, ?_, ?_, fun hrelieved hstate => ?_⟩
  · rw [ht]
    exact settle_follows hwaits (wearChanged_follows (by rwa [hw.activity]) hwindow)
  · exact (State.marks_of_fixed hfixed).1.trans harmed
  · exact (State.marks_of_fixed hfixed).2.1.trans hlast
  · exact (State.marks_of_fixed hfixed).2.2.trans hlist
  · rw [ht] at hstate
    have hsame : v.gapState = a.gapState := congrArg Activity.state hw.activity
    rcases settle_leads (wearChanged v) with h | h | h | h <;> rw [hstate] at h
    · rcases wearChanged_gapState v with h' | h' <;> rw [h'] at h
      · exact hrelieved (hsame.symm.trans h.symm)
      · cases h
    all_goals cases h

end Sys2Proof.Machine

/-! ## The jump test and the arming of detection (O40) -/

namespace Sys2Proof.Machine

/-! ### The answer of a request that a detection ends (R112, R126) -/

/-- STOPPED(TRAMP) at `reached`, on the way to `w`. -/
def trampAnswer (e : Entry) (reached : Option Nat) (w : Nat) : Answer where
  requester := e.requester
  tag := e.tag
  kind := some e.kind.request
  outcome := .stopped .tramp
  remaining := reached.map (fun g => gapDistance g w)
  reached := reached
  data := none

theorem afterTest_answers (output : Nat) {p : Nat} {a : State} {e : Entry} (harmed : a.gap.armed = true) (hd : a.detects p)
    (hq : a.queue = [e]) (ha : e.active = true) (hk : e.kind = .setGap ∨ e.kind = .calibrate) :
    (afterTest output p a).queue = [] ∧
      (afterTest output p a).line = a.line.push (trampAnswer e a.gapEstimate a.gap.setpoint) := by
  obtain ⟨hqueue, hend⟩ := trampEnded_carried hk hq ha rfl
  obtain ⟨hqueue', hend'⟩ := detectTramp_of_ended hqueue
  have hweighed := estimateTonnage_weighed output (detectTramp a)
  rw [afterTest_of_detection output harmed hd]
  exact ⟨hweighed.queue.trans hqueue', hweighed.line.trans (hend'.trans hend)⟩

/-! ### The activity's own test, where it leaves OPEN off (R131, R133) -/

/-- The activities that drive no OPEN at a reading of pressure `p` and gap `g`. -/
abbrev OpenOff (p g : Nat) (s : State) : Prop :=
  s.gapState = .holding ∨ s.gapState = .stuck ∨ s.gapState = .relieved ∨ s.gapState = .recovering ∨
    (∃ m, s.gap.activity = .moving m ∧ ((m.direction = .closing ∧ m.reversal = none) ∨
      (m.direction = .opening ∧ ∃ goal, m.reversal = some goal ∧ (goal < g ∨ s.gap.setpoint ≤ g)))) ∨
    (∃ c pulse, s.gap.activity = .calibrating c ∧ c.phase = .seeking pulse ∧ p ≤ s.settings.contactMark)

/-- What the activity's own test leaves for the tramp tests: OPEN off, W and the jump window as they were. -/
structure Tested (u a : State) : Prop where
  still      : a.still = u.still
  jumpWindow : a.gap.jumpWindow = u.gap.jumpWindow
  setpoint   : a.gap.setpoint = u.gap.setpoint
  off        : a.gap.activity.asks ≠ .opening
  state      : a.gapState = u.gapState ∨ a.gapState = .holding ∧ u.gapState ≠ .stuck

section
variable {u : State}

theorem Tested.same (h : u.gap.activity.asks ≠ .opening) : Tested u u := ⟨rfl, rfl, rfl, h, .inl rfl⟩

theorem Tested.updated {act : Activity} (h : act.asks ≠ .opening) (hs : act.state = u.gapState) :
    Tested u { u with gap.activity := act } := ⟨rfl, rfl, rfl, h, .inl hs⟩

theorem Arrived.tested {t : State} (h : Arrived u t) (hs : u.gapState ≠ .stuck) : Tested u t where
  still := h.still
  jumpWindow := h.jumpWindow
  setpoint := h.setpoint
  off := by simp [h.activity, Activity.asks]
  state := .inr ⟨congrArg Activity.state h.activity, hs⟩

theorem report_gapSetpoint (k : FaultKind) (trips : Bool) (s : State) :
    (report k trips s).gap.setpoint = s.gap.setpoint := by
  unfold report
  split
  · exact (trip_rests_flush _).setpoint
  · rw [noteFault_gap]

theorem calibrationFails_tested (k : CalKind) (h : u.gapState = .calibrating) : Tested u (calibrationFails k u) := by
  have hreport : ∀ trips, Tested u (report .calNoContact trips (stopCalibration u)) := fun trips => by
    have hholding : (stopCalibration u).gapState = .holding := setActivity_gapState _ _
    have hkept := report_activity_kept .calNoContact trips (s := stopCalibration u) (by simp [hholding]) (by simp [hholding])
    have hactivity : (report .calNoContact trips (stopCalibration u)).gap.activity = .holding :=
      hkept.trans (setActivity_activity _ _)
    refine ⟨by rw [report_still, stopCalibration, setActivity_still], ?_, ?_, by simp [hactivity, Activity.asks],
      .inr ⟨congrArg Activity.state hactivity, by simp [h]⟩⟩
    · rw [report_jumpWindow]
      exact setActivity_jumpWindow (by simp [Activity.asks]) u
    · rw [report_gapSetpoint]
      exact setActivity_setpoint _ (by simp [h])
  cases k with
  | internal => exact hreport true
  | requested =>
    obtain ⟨hstill, hwindow, hsetpoint, hoff, hstate⟩ := hreport false
    have hgap : (calibrationFails .requested u).gap = (report .calNoContact false (stopCalibration u)).gap := by
      rw [calibrationFails, endActiveOf_frame]
    exact ⟨calibrationFails_still _ _, hgap ▸ hwindow, hgap ▸ hsetpoint, hgap ▸ hoff, by rwa [State.gapState, hgap]⟩

end

/-! ### The test of a move that drives CLOSE -/

/-- A reading at which a reversal has not ended leaves the move its direction. -/
theorem Move.reading_drivesOpen {overMark timeout g : Nat} {pressure : Option Nat} {m : Move} (h : m.reversalDone g = false) :
    (m.reading overMark timeout pressure g).drivesOpen = m.drivesOpen := by
  unfold Move.reading
  rw [if_neg (by simp [h])]
  dsimp only
  split
  · rfl
  · split <;> rfl

theorem asks_of_driven_closed {m : Move} (h : m.drivesOpen = false) : (Activity.moving m).asks ≠ .opening := by
  rw [Activity.asks]
  split
  · simp
  · cases hd : m.direction <;> cases hr : m.reversal <;> simp [Move.drivesOpen, hd, hr] at h ⊢

section
variable {u : State} {m : Move} {pressure : Option Nat} {g : Nat} (hact : u.gap.activity = .moving m)
  (hg : u.gapEstimate = some g)
include hact hg

theorem moveReading_of_closing (hcross : crossed m.direction g u.gap.setpoint = false) (hopen : m.drivesOpen = false)
    (hdone : m.reversalDone g = false) :
    moveReading pressure u =
      { u with gap.activity := .moving (m.reading u.settings.pressureOver u.moveTimeoutMs pressure g) } := by
  have hsame : moveCrossing u = u := by rw [moveCrossing_of_moving hact hg, if_neg (by simp [hcross])]
  unfold moveReading
  simp only [hsame, hact, hg]
  exact updateActivity_of_not_opening (asks_of_driven_closed ((Move.reading_drivesOpen hdone).trans hopen)) u

/-- The move either ends at W or keeps driving CLOSE. -/
theorem moveReading_tested (h : (m.direction = .closing ∧ m.reversal = none) ∨
      (m.direction = .opening ∧ ∃ goal, m.reversal = some goal ∧ (goal < g ∨ u.gap.setpoint ≤ g))) :
    Tested u (moveReading pressure u) ∧ (crossed m.direction g u.gap.setpoint = false →
      (moveReading pressure u).queue = u.queue ∧ (moveReading pressure u).line = u.line) := by
  have hfree : u.gapState ≠ .stuck := by simp [State.gapState, hact, Activity.state]
  cases hcross : crossed m.direction g u.gap.setpoint with
  | true =>
    rw [moveReading_of_crossed hact hg hcross]
    exact ⟨(endSetGapReached_arrived hfree).tested hfree, fun h => Bool.noConfusion h⟩
  | false =>
    have hclose : m.drivesOpen = false ∧ m.reversalDone g = false := by
      rcases h with ⟨hd, hr⟩ | ⟨hd, goal, hr, hgoal⟩
      · simp [Move.drivesOpen, Move.reversalDone, hd, hr]
      · have hshort : goal < g := hgoal.resolve_right fun hw => by
          rw [hd] at hcross
          simp [crossed, hw] at hcross
        simp [Move.drivesOpen, Move.reversalDone, hd, hr, hshort]
    rw [moveReading_of_closing hact hg hcross hclose.1 hclose.2]
    refine ⟨.updated (asks_of_driven_closed ((Move.reading_drivesOpen hclose.2).trans hclose.1)) ?_, fun _ => ⟨rfl, rfl⟩⟩
    rw [State.gapState, hact]
    rfl

end

/-- A request that the reading finds on its way: a SET_GAP whose move has not crossed W, a CALIBRATE short of the end of travel. -/
def OnTheWay (g x : Nat) (s : State) (e : Entry) : Prop :=
  (e.kind = .setGap ∧ ∃ m, s.gap.activity = .moving m ∧
    if m.direction = .opening then g < s.gap.setpoint else s.gap.setpoint < g) ∨
  (e.kind = .calibrate ∧ s.gapState = .calibrating ∧ x ≠ 4095)

theorem crossed_of_short {d : Direction} {g w : Nat} (h : if d = .opening then g < w else w < g) : crossed d g w = false := by
  cases d <;> simpa [crossed] using h

theorem activityReading_of_stuck {pressure position : Option Nat} {s : State} (h : s.gap.activity = .stuck) :
    activityReading pressure position s = s := by
  unfold activityReading
  simp only [h]

/-- The activity's own test of a reading that leaves OPEN off, and the entry that it does not end. -/
theorem activityReading_tested {u : State} {p g x : Nat} (hg : u.gapEstimate = some g) (h : OpenOff p g u) :
    Tested u (activityReading (some p) (some x) u) ∧ (∀ e, OnTheWay g x u e →
      (activityReading (some p) (some x) u).queue = u.queue ∧ (activityReading (some p) (some x) u).line = u.line) := by
  cases hact : u.gap.activity with
  | holding =>
    rw [activityReading_of_holding hact]
    exact ⟨.same (by simp [hact, Activity.asks]), fun _ _ => ⟨rfl, rfl⟩⟩
  | stuck =>
    rw [activityReading_of_stuck hact]
    exact ⟨.same (by simp [hact, Activity.asks]), fun _ _ => ⟨rfl, rfl⟩⟩
  | relieved timer =>
    rw [activityReading_of_relieved hact rfl]
    exact ⟨.updated (by simp [Activity.asks]) (by rw [State.gapState, hact]; rfl), fun _ _ => ⟨rfl, rfl⟩⟩
  | recovering d =>
    have hfree : u.gapState ≠ .stuck := by simp [State.gapState, hact, Activity.state]
    rw [activityReading_of_recovering hact]
    by_cases hw : g ≤ u.gap.setpoint
    · rw [reclosingReading_of_arrived hact hg hw]
      obtain ⟨harrived, hkept⟩ := arrive_arrived hfree
      exact ⟨harrived.tested hfree, fun _ _ => hkept⟩
    · have hasks : ∀ d', (Activity.recovering d').asks ≠ .opening := fun d' => by
        rw [Activity.asks]
        split <;> simp
      rw [reclosingReading_of_above hact hg rfl (Nat.not_le.1 hw)]
      exact ⟨.updated (hasks _) (by rw [State.gapState, hact]; rfl), fun _ _ => ⟨rfl, rfl⟩⟩
  | moving m =>
    rw [activityReading_of_moving hact]
    have hclosing : (m.direction = .closing ∧ m.reversal = none) ∨
        (m.direction = .opening ∧ ∃ goal, m.reversal = some goal ∧ (goal < g ∨ u.gap.setpoint ≤ g)) := by
      simpa [OpenOff, State.gapState, hact, Activity.state] using h
    obtain ⟨htested, hkept⟩ := moveReading_tested (pressure := some p) hact hg hclosing
    refine ⟨htested, fun e he => ?_⟩
    rcases he with ⟨-, m', hm', hshort⟩ | ⟨-, hstate, -⟩
    · obtain rfl : m = m' := Activity.moving.inj (hact.symm.trans hm')
      exact hkept (crossed_of_short hshort)
    · simp [State.gapState, hact, Activity.state] at hstate
  | calibrating c =>
    have hstate : u.gapState = .calibrating := State.gapState_of_calibrating hact
    rw [activityReading_of_calibrating hact]
    obtain ⟨⟨pulse, hphase⟩, hlow⟩ : (∃ pulse, c.phase = .seeking pulse) ∧ p ≤ u.settings.contactMark := by
      simpa [OpenOff, State.gapState, hact, Activity.state] using h
    rw [calibrationReading_seeking hphase, if_neg (Nat.not_lt.2 hlow)]
    by_cases hx : x = 4095
    · rw [if_pos hx]
      refine ⟨calibrationFails_tested _ hstate, fun e he => ?_⟩
      rcases he with ⟨-, m, hm, -⟩ | ⟨-, -, hne⟩
      · cases hact.symm.trans hm
      · exact absurd hx hne
    · rw [if_neg hx]
      have hasks : (Activity.calibrating c).asks ≠ .opening := by
        rw [Activity.asks, hphase]
        dsimp only
        split <;> simp
      exact ⟨.same (hact ▸ hasks), fun _ _ => ⟨rfl, rfl⟩⟩

end Sys2Proof.Machine

namespace Sys2Proof.Machine

/-! ### What the tests find, in the terms of the state before the reading -/

section
variable {s u a : State} {x g p : Nat} (h : Sensed s u x) (ht : Tested u a) (hg : u.gapEstimate = some g)
include h

theorem Sensed.openOff (ho : OpenOff p g s) : OpenOff p g u := by
  unfold OpenOff State.gapState at ho ⊢
  rw [h.settings, h.gap]
  exact ho

theorem Sensed.onTheWay {e : Entry} (ho : OnTheWay g x s e) : OnTheWay g x u e := by
  unfold OnTheWay State.gapState at ho ⊢
  rw [h.gap]
  exact ho

include ht

theorem Tested.clock : a.gap.readingClock = some s.clockNext :=
  (State.detection_of_fixed (State.fixed_of_still ht.still)).2.1.trans (by rw [h.gap])

theorem Tested.marks : a.gap.armed = s.gap.armed ∧ a.gap.lastDetection = s.gap.lastDetection ∧
    a.gap.trampList = s.gap.trampList := by
  obtain ⟨harmed, hlast, hlist⟩ := State.marks_of_fixed (State.fixed_of_still ht.still)
  rw [h.gap] at harmed hlast hlist
  exact ⟨harmed, hlast, hlist⟩

theorem Tested.kept : a.keptJumps = s.gap.jumpWindow.filter (fun e => s.clockNext ≤ e.1 + 1000) := by
  rw [State.keptJumps, ht.clock h, ht.jumpWindow, h.gap]
  rfl

theorem Tested.rearms_iff : a.rearms (a.gap.readingClock.getD 0) (some p) = true ↔
    (∀ k, s.gap.lastDetection = some k → k + 1000 ≤ s.clockNext) ∧ p < s.settings.settleMark := by
  have hsettings := (State.detection_of_fixed (State.fixed_of_still ht.still)).2.2.1.trans h.settings
  unfold State.rearms
  rw [ht.clock h, (ht.marks h).2.1, hsettings]
  cases s.gap.lastDetection <;> simp

theorem Tested.setpoint_relieved :
    (if a.gapState = .stuck then a.heldInWindow a.gap.target else a.gap.setpoint) =
      if s.gapState = .stuck then s.heldInWindow s.gap.target else s.gap.setpoint := by
  have hsame : u.gapState = s.gapState := congrArg Activity.state h.activity
  have hstuck : a.gapState = .stuck ↔ s.gapState = .stuck := by
    rcases ht.state with h' | ⟨h', hfree⟩
    · rw [h', hsame]
    · rw [h', ← hsame]
      simp [hfree]
  have hheld : a.heldInWindow a.gap.target = s.heldInWindow s.gap.target := by
    rw [State.heldInWindow_of_still ht.still, State.target_of_still ht.still, State.heldInWindow, h.settings, h.gap]
    rfl
  have hsetpoint : a.gap.setpoint = s.gap.setpoint := ht.setpoint.trans (by rw [h.gap])
  simp only [hstuck, hheld, hsetpoint]

include hg

theorem Tested.candidate : a.jumpCandidate = some g := by
  have hvalid := (State.detection_of_fixed (State.fixed_of_still ht.still)).2.2.2.trans h.valid
  rw [State.jumpCandidate_eq hvalid ht.off, State.gapEstimate_of_still ht.still, hg]

theorem Tested.joined :
    a.joinedJumps = s.gap.jumpWindow.filter (fun e => s.clockNext ≤ e.1 + 1000) ++ [(s.clockNext, g)] := by
  rw [State.joinedJumps, ht.candidate h hg, ht.kept h, ht.clock h]
  rfl

theorem Tested.detects_iff : a.detects p ↔ s.settings.trampMark < p ∨ (s.settings.trampJump ≠ 0 ∧
    ∃ e ∈ s.gap.jumpWindow.filter (fun e => s.clockNext ≤ e.1 + 1000), e.2 + s.settings.trampJump ≤ g) := by
  rw [(h.detects_iff ht.still (ht.jumpWindow.trans (by rw [h.gap])) ht.off hg).2]
  simp only [List.mem_filter, decide_eq_true_eq, and_assoc]

/-- Without a detection the reading's G joins the window, or the reading arms detection again (R133, R134). -/
theorem Tested.quiet (hq : ∀ e ∈ a.queue, e.active = true) (hquiet : s.gap.armed = false ∨ ¬ a.detects p) (output : Nat) :
    let t := afterTest output p a
    t.gap.lastDetection = s.gap.lastDetection ∧ t.gap.trampList = s.gap.trampList ∧
      (s.gapState ≠ .relieved → t.gapState ≠ .relieved) ∧
      (t.gap.armed = true ↔ s.gap.armed = true ∨
        (∀ k, s.gap.lastDetection = some k → k + 1000 ≤ s.clockNext) ∧ p < s.settings.settleMark) ∧
      t.gap.jumpWindow = (if t.gap.activity.asks = .opening ∨ (s.gap.armed = false ∧ t.gap.armed = true) then []
        else s.gap.jumpWindow.filter (fun e => s.clockNext ≤ e.1 + 1000) ++ [(s.clockNext, g)]) := by
  obtain ⟨harmed, hlast, hlist⟩ := ht.marks h
  have hcalm : Calm p a := calm_iff.2 fun hc => hquiet.elim (fun h' => by simp [harmed, h'] at hc) fun h' => h' hc.2
  have hrelieved : s.gapState ≠ .relieved → a.gapState ≠ .relieved := fun hs => by
    have hsame : u.gapState = s.gapState := congrArg Activity.state h.activity
    rcases ht.state with h' | ⟨h', -⟩ <;> rw [h']
    · rwa [hsame]
    · simp
  obtain ⟨b, hb⟩ : ∃ b, b = trampReading (some p) a := ⟨_, rfl⟩
  obtain ⟨t, htt⟩ : ∃ t, t = afterTest output p a := ⟨_, rfl⟩
  obtain ⟨hfollows, harmed', hlast', hlist', hstate⟩ := afterTest_follows (output := output) hcalm ht.off hq b t hb htt
  have hreading : b.gap.lastDetection = s.gap.lastDetection ∧ b.gap.trampList = s.gap.trampList ∧
      (b.gap.armed = true ↔ s.gap.armed = true ∨
        (∀ k, s.gap.lastDetection = some k → k + 1000 ≤ s.clockNext) ∧ p < s.settings.settleMark) ∧
      b.gap.jumpWindow = (if s.gap.armed = false ∧ b.gap.armed = true then []
        else s.gap.jumpWindow.filter (fun e => s.clockNext ≤ e.1 + 1000) ++ [(s.clockNext, g)]) := by
    have hrearms := ht.rearms_iff h (p := p)
    have hjoined := ht.joined h hg
    cases hs : s.gap.armed with
    | true =>
      rw [trampReading_of_quiet (harmed.trans hs) (hquiet.resolve_left (by simp [hs]))] at hb
      rw [hb]
      exact ⟨hlast, hlist, by simp [harmed, hs], by simpa using hjoined⟩
    | false =>
      rw [trampReading_of_disarmed (harmed.trans hs)] at hb
      split at hb
      · next hr =>
        rw [hb]
        exact ⟨hlast, hlist, by simpa using hrearms.1 hr, by simp⟩
      · next hr =>
        rw [hb]
        exact ⟨hlast, hlist, by simpa [harmed, hs] using fun h1 => Nat.not_lt.1 fun h2 => hr (hrearms.2 ⟨h1, h2⟩),
          by simpa [harmed, hs] using hjoined⟩
  obtain ⟨hblast, hblist, hbarmed, hbwindow⟩ := hreading
  rw [← htt]
  refine ⟨hlast'.trans hblast, hlist'.trans hblist, fun hs => hstate (hrelieved hs), by rw [harmed', hbarmed], ?_⟩
  rw [hfollows, hbwindow, harmed', ite_or]

end

/-! ### The statement (O40) -/

theorem State.seconds_of_still {s t : State} (h : s.still = t.still) : s.seconds = t.seconds := (congrArg State.seconds h :)

theorem sensed_seconds (r : Readings) (s : State) : (sensed r s).seconds = s.seconds :=
  (State.seconds_of_still (sensed_still r s)).trans rfl

theorem mem_trampListWith (window t : Nat) (l : List Nat) : t ∈ trampListWith window t l := by
  unfold trampListWith
  dsimp only
  generalize l.filter _ = kept
  split
  · next hlength =>
    cases kept with
    | nil => cases hlength
    | cons x kept => simp
  · simp

/-- Settles O40: the activity's own test leaves OPEN off and the tramp tests the reading's G, and the end of the event empties the
window where it begins to open. -/
theorem jumpTestAndArming : Obligations.JumpTestAndArming := by
  intro r s contact g p now hactive hqueue hoff h1 h2 hm hx hp hc hg hnow c kept detects rearms onTheWay
  have hmarked := positionReading_of_marked hm hx
  have hsensed := sensed_inRange (s := s) ⟨h1, h2⟩ hmarked
  have hexec := exec_readingEvent_inRange (s := s) hactive ⟨h1, h2⟩ hmarked
  have hseconds := sensed_seconds r s
  have hpressure : pressureOf r s.settings = p := hp.symm
  have hclock : s.clockNext = now := hnow.symm
  rw [hpressure] at hexec
  generalize sensed r s = u at hsensed hexec hseconds
  have hestimate : u.gapEstimate = some g := by rw [hsensed.gapEstimate, hc, hg]; rfl
  obtain ⟨htested, hkeeps⟩ := activityReading_tested (x := r.position) hestimate (hsensed.openOff hoff)
  have hwaits : ∀ e ∈ (activityReading (some p) (some r.position) u).queue, e.active = true := fun e he => by
    by_contra hwait
    have hmem := (activityReading_tame (some p) (some r.position) (.refl u)).waiting e he (by simpa using hwait)
    rw [hsensed.queue] at hmem
    rcases hqueue with hq | ⟨e', hq, ha⟩ <;> rw [hq] at hmem
    · cases hmem
    · exact hwait (List.mem_singleton.1 hmem ▸ ha)
  generalize activityReading (some p) (some r.position) u = a at hexec htested hkeeps hwaits
  have hdetects := htested.detects_iff hsensed hestimate (p := p)
  rw [hclock] at hdetects
  refine ⟨_, hexec, fun harmed hd => ?_, fun hquiet => ?_⟩
  · have hfound := hdetects.2 hd
    have harmed' : a.gap.armed = true := ((htested.marks hsensed).1).trans harmed
    have hrelieved := estimateTonnage_relieved s.drive.output (detectTramp_relieved a)
    rw [← afterTest_of_detection s.drive.output harmed' hfound] at hrelieved
    refine ⟨hrelieved.activity, ?_, hrelieved.armed, ?_, hrelieved.jumpWindow, hrelieved.history, ?_, hrelieved.output,
      hrelieved.capacity, hrelieved.setpoint.trans (htested.setpoint_relieved hsensed), fun e hq hway => ?_⟩
    · rw [State.valve, hrelieved.activity]
      exact ite_self _
    · rw [hrelieved.lastDetection, htested.clock hsensed, hclock]
    · have hsame : a.seconds = s.seconds := (State.seconds_of_still htested.still).trans hseconds
      rw [hrelieved.trampList, hsame]
      exact mem_trampListWith _ _ _
    · have ha : e.active = true := by
        rcases hqueue with hnil | ⟨e', hq', ha⟩
        · cases hnil.symm.trans hq
        · obtain rfl : e' = e := List.singleton_inj.1 (hq'.symm.trans hq)
          exact ha
      obtain ⟨hkeptQueue, hkeptLine⟩ := hkeeps e (hsensed.onTheWay hway)
      have hend := afterTest_answers s.drive.output harmed' hfound (hkeptQueue.trans (hsensed.queue.trans hq)) ha
        (hway.imp And.left And.left)
      rw [hkeptLine, hsensed.line, State.gapEstimate_of_still htested.still, hestimate, htested.setpoint, hsensed.gap] at hend
      exact hend
  · have hend := htested.quiet hsensed hestimate hwaits (hquiet.imp id fun h => mt hdetects.1 h) s.drive.output
    rw [hclock] at hend
    exact hend

end Sys2Proof.Machine

/-! ## A tramp by pressure (O39) -/

namespace Sys2Proof.Machine

/-! ### The queue up to the tramp tests: entries only leave at its head (R142, R145) -/

section
variable {q : List Entry} {s : State} (h : s.queue <:+ q)
include h

theorem updateActivity_shortens (act : Activity) : (updateActivity act s).queue <:+ q := by rwa [updateActivity_frame]

theorem setActivity_shortens (act : Activity) : (setActivity act s).queue <:+ q := by rwa [setActivity_queue]

theorem arrive_shortens : (arrive s).queue <:+ q := by rwa [arrive, setActivity_queue]

theorem endActive_shortens (o : AnswerOutcome) : (endActive o s).queue <:+ q := by
  unfold endActive
  split
  · next e rest hq =>
    split
    · exact (List.suffix_cons e rest).trans (hq ▸ h)
    · exact h
  · exact h

theorem endActiveOf_shortens (k : QueuedKind) (o : AnswerOutcome) : (endActiveOf k o s).queue <:+ q := by
  unfold endActiveOf
  split
  exacts [endActive_shortens h o, h]

theorem endSetGapReached_shortens : (endSetGapReached s).queue <:+ q := by
  unfold endSetGapReached
  split
  · split
    exacts [endActive_shortens h _, h]
  · exact h

theorem report_shortens (k : FaultKind) (trips : Bool) : (report k trips s).queue <:+ q := by
  unfold report
  split
  · rw [trip_queue]
    exact List.nil_suffix
  · exact h

theorem moveCrossing_shortens : (moveCrossing s).queue <:+ q := by
  rcases moveCrossing_cases s with h' | ⟨-, h'⟩ <;> rw [h']
  exacts [h, endSetGapReached_shortens (arrive_shortens h)]

theorem backingArrival_shortens : (backingArrival s).queue <:+ q := by
  unfold backingArrival
  split
  · split
    · split
      exacts [endActiveOf_shortens (arrive_shortens h) _ _, h]
    · exact h
  · exact h

theorem reclosingArrival_shortens : (reclosingArrival s).queue <:+ q := by
  unfold reclosingArrival
  split
  · split
    exacts [arrive_shortens h, h]
  · exact h

theorem contact_shortens (k : CalKind) (x : Nat) : (contact k x s).queue <:+ q := by
  rw [contact_eq, updateActivity_frame]
  exact (contactTaken_keeps x s).2.1 ▸ h

theorem calibrationFails_shortens (k : CalKind) : (calibrationFails k s).queue <:+ q := by
  have hstop : (stopCalibration s).queue <:+ q := setActivity_shortens h _
  cases k with
  | internal => exact report_shortens hstop _ _
  | requested => exact endActiveOf_shortens (report_shortens hstop _ _) _ _

theorem calibrationReading_shortens (pressure : Option Nat) (c : Calibration) (x : Nat) :
    (calibrationReading pressure c x s).queue <:+ q := by
  unfold calibrationReading
  split
  · split
    exacts [updateActivity_shortens h _, h]
  · split
    · exact contact_shortens h _ _
    · split
      exacts [calibrationFails_shortens h _, h]
  · have harrive := backingArrival_shortens h
    dsimp only
    split
    · split
      exacts [updateActivity_shortens harrive _, harrive]
    · exact harrive

theorem activityReading_shortens (pressure position : Option Nat) : (activityReading pressure position s).queue <:+ q := by
  unfold activityReading
  split
  · unfold settleReading
    split <;> exact updateActivity_shortens h _
  · have hcross := moveCrossing_shortens h
    unfold moveReading
    dsimp only
    split
    exacts [updateActivity_shortens hcross _, hcross]
  · have harrive := reclosingArrival_shortens h
    unfold reclosingReading
    dsimp only
    split
    exacts [updateActivity_shortens harrive _, harrive]
  · exact calibrationReading_shortens h _ _ _
  · exact h

theorem breakInput_shortens {u : State} {c : Prop} [Decidable c] (k : FaultKind) (trips : Bool) (hu : u.queue = s.queue) :
    (if c then report k trips u else s).queue <:+ q := by
  split
  exacts [report_shortens (hu ▸ h) _ _, h]

theorem breakChecks_shortens (r : Readings) : (breakChecks r s).queue <:+ q := by
  have hpower : ∀ ok u, u.queue <:+ q → (breakPower ok u).queue <:+ q := fun _ _ h => by
    unfold breakPower; exact breakInput_shortens h _ _ rfl
  have hpressure : ∀ ok u, u.queue <:+ q → (breakPressure ok u).queue <:+ q := fun _ _ h => by
    unfold breakPressure; exact breakInput_shortens h _ _ rfl
  have hcavity : ∀ ok u, u.queue <:+ q → (breakCavity ok u).queue <:+ q := fun _ _ h => by
    unfold breakCavity; exact breakInput_shortens h _ _ rfl
  have hpile : ∀ ok u, u.queue <:+ q → (breakPile ok u).queue <:+ q := fun _ _ h => by
    unfold breakPile; exact breakInput_shortens h _ _ rfl
  have hposition : ∀ ok u, u.queue <:+ q → (breakPosition ok u).queue <:+ q := fun _ _ h => by
    unfold breakPosition; exact breakInput_shortens h _ _ rfl
  exact hposition _ _ (hpile _ _ (hcavity _ _ (hpressure _ _ (hpower _ _ h))))

end

theorem sensed_shortens (r : Readings) (s : State) : (sensed r s).queue <:+ s.queue := by
  have hread : (noteReading r (advanceReadingClock s)).queue <:+ s.queue := by
    rw [noteReading_queue, advanceReadingClock_queue]
  rw [sensed, notePosition_queue]
  exact breakChecks_shortens hread r

/-- No entry behind the head is ACTIVE (R142). -/
def TailWaits (q : List Entry) : Prop := ∀ e ∈ q.drop 1, e.active = false

theorem TailWaits.of_suffix {p q : List Entry} (h : TailWaits q) (hp : p <:+ q) : TailWaits p := by
  obtain ⟨front, rfl⟩ := hp
  intro e he
  refine h e ?_
  cases front with
  | nil => exact he
  | cons x front => exact List.mem_append_right _ (List.mem_of_mem_drop he)

theorem activeKind_of_tail {q : List Entry} {e : Entry} (h : TailWaits (e :: q)) {s : State} (hs : s.queue = q)
    (k : QueuedKind) : s.activeKind k = false := by
  have hnone : s.activeEntry = none := by
    unfold State.activeEntry
    rw [hs]
    cases q with
    | nil => rfl
    | cons x rest => exact if_neg (by simp [h x (by simp)])
  rw [State.activeKind, hnone]

theorem endActiveOf_ends (k : QueuedKind) (o : AnswerOutcome) {s : State} (h : TailWaits s.queue) :
    (endActiveOf k o s).activeKind k = false ∧
      ∀ k', s.activeKind k' = false → (endActiveOf k o s).activeKind k' = false := by
  cases hk : s.activeKind k with
  | false =>
    have hsame : endActiveOf k o s = s := if_neg (by simp [hk])
    rw [hsame]
    exact ⟨hk, fun _ h => h⟩
  | true =>
    cases hq : s.queue with
    | nil => simp [State.activeKind, State.activeEntry, hq] at hk
    | cons e rest =>
      have ha : e.active = true := by
        by_contra hwait
        simp [State.activeKind, State.activeEntry, hq, hwait] at hk
      have hend : (endActiveOf k o s).queue = rest := by
        rw [endActiveOf, if_pos hk, endActive_of_active o hq ha]
      exact ⟨activeKind_of_tail (hq ▸ h) hend _, fun _ _ => activeKind_of_tail (hq ▸ h) hend _⟩

/-- A detection leaves no SET_GAP and no CALIBRATE ACTIVE (R135). -/
theorem detectTramp_ends {s : State} (h : TailWaits s.queue) :
    (detectTramp s).activeKind .setGap = false ∧ (detectTramp s).activeKind .calibrate = false := by
  obtain ⟨hsetGap, -⟩ := endActiveOf_ends .setGap (.stopped .tramp) (s := detected s) h
  have htail : TailWaits (endActiveOf .setGap (.stopped .tramp) (detected s)).queue :=
    h.of_suffix (endActiveOf_shortens (List.suffix_refl _) _ _)
  obtain ⟨hcalibrate, hother⟩ := endActiveOf_ends .calibrate (.stopped .tramp) htail
  have hended : ∀ t : State, t.queue = (trampEnded s).queue ∨ t.queue = [] →
      t.activeKind .setGap = false ∧ t.activeKind .calibrate = false := fun t ht => by
    rcases ht with ht | ht
    · have hsame : ∀ k, t.activeKind k = (trampEnded s).activeKind k := fun k => by
        rw [State.activeKind, State.activeKind, State.activeEntry, State.activeEntry, ht]
      exact ⟨(hsame _).trans (hother _ hsetGap), (hsame _).trans hcalibrate⟩
    · simp [State.activeKind, State.activeEntry, ht]
  refine hended _ ?_
  have hset : (setActivity (.relieved none) (trampEnded s)).queue = (trampEnded s).queue := setActivity_queue _ _
  rw [detectTramp_eq]
  split
  · unfold report
    split
    · exact .inr (trip_queue _)
    · rw [noteFault_queue]
      exact .inl hset
  · exact .inl hset

/-! ### The tramp list (R136) -/

theorem trampListWith_eq (window t : Nat) (l : List Nat) :
    trampListWith window t l =
      (if (l.filter (fun e => t - e ≤ window)).length = 3 then (l.filter (fun e => t - e ≤ window)).drop 1
       else l.filter (fun e => t - e ≤ window)) ++ [t] := by
  unfold trampListWith
  dsimp only
  generalize l.filter _ = kept
  by_cases h : kept.length = 3
  · rw [if_pos (by simp [h]), if_pos h, List.drop_append_of_le_length (by omega)]
  · rw [if_neg (by simpa using h), if_neg h]

/-- The third detection of the window trips an active station (R136). -/
theorem detectTramp_repeats {s : State} (ha : s.active = true)
    (h : (trampListWith (s.settings.trampWindow * 60) s.seconds s.gap.trampList).length = 3) :
    (detectTramp s).run.state = .tripped ∧ .trampRepeat ∈ (detectTramp s).faults.seen := by
  have hstate : (setActivity (.relieved none) (trampEnded s)).run.state = s.run.state := by
    rw [setActivity_state, trampEnded_frame]
    rfl
  rw [detectTramp_eq, if_pos h]
  refine ⟨?_, report_noted _ _ _⟩
  rw [report_state, hstate]
  split
  · rfl
  · next hnot =>
    by_contra ht
    exact hnot ⟨rfl, RunState.trippable_of_active ha ht⟩

end Sys2Proof.Machine

namespace Sys2Proof.Machine

/-! ### The entry that the activity's own test does not end (R131) -/

/-- Nothing is ended or set: queue, line, G and W stand. -/
structure Unended (u a : State) : Prop where
  queue    : a.queue = u.queue
  line     : a.line = u.line
  estimate : a.gapEstimate = u.gapEstimate
  setpoint : a.gap.setpoint = u.gap.setpoint

@[refl] theorem Unended.refl (u : State) : Unended u u := ⟨rfl, rfl, rfl, rfl⟩

theorem updateActivity_unended (act : Activity) (u : State) : Unended u (updateActivity act u) := by
  rw [updateActivity_frame]
  exact ⟨rfl, rfl, rfl, rfl⟩

section
variable {u : State} {pressure : Option Nat} {x : Nat}

theorem activityReading_unended_of_moving {m : Move} (hact : u.gap.activity = .moving m)
    (h : ∀ g, u.gapEstimate = some g → crossed m.direction g u.gap.setpoint = false) :
    Unended u (activityReading pressure (some x) u) := by
  have hsame : moveCrossing u = u := by
    unfold moveCrossing
    split
    · next m' g hact' hg =>
      obtain rfl : m = m' := Activity.moving.inj (hact.symm.trans hact')
      exact if_neg (by simp [h g hg])
    · rfl
  rw [activityReading_of_moving hact, moveReading, hsame]
  split
  exacts [updateActivity_unended _ u, .refl u]

theorem backingArrival_of_below {u : State} (h : ∀ g, u.gapEstimate = some g → g < u.gap.setpoint) : backingArrival u = u := by
  unfold backingArrival
  split
  · next c g _ hg =>
    split
    · exact if_neg (Nat.not_le.2 (h g hg))
    · rfl
  · rfl

theorem activityReading_unended_of_calibrating {c : Calibration} {p : Nat} (hact : u.gap.activity = .calibrating c)
    (h : match c.phase with
      | .opening _ => True
      | .seeking _ => p ≤ u.settings.contactMark ∧ x ≠ 4095
      | .backing _ _ => ∀ g, u.gapEstimate = some g → g < u.gap.setpoint) :
    Unended u (activityReading (some p) (some x) u) := by
  rw [activityReading_of_calibrating hact, calibrationReading]
  cases hphase : c.phase with
  | opening start =>
    dsimp only
    split
    exacts [updateActivity_unended _ u, .refl u]
  | seeking pulse =>
    rw [hphase] at h
    obtain ⟨hlow, hx⟩ := h
    dsimp only
    rw [if_neg (by simpa using hlow), if_neg hx]
  | backing mark left =>
    rw [hphase] at h
    rw [backingArrival_of_below h]
    dsimp only
    split
    · split
      exacts [updateActivity_unended _ u, .refl u]
    · exact .refl u

theorem contact_answered (k : CalKind) (hx : u.monitor.position = some x) :
    (contact k x u).line = u.line ∧ (contact k x u).gapEstimate = some 0 ∧
      (contact k x u).gap.reference = .referenced x ∧ (contact k x u).gapState = .calibrating := by
  have hframe := contact_frame k hx
  have hestimate := contactReferenced_gapEstimate hx
  have hline : (contactReferenced x u).line = u.line := rfl
  have hreference : (contactReferenced x u).gap.reference = .referenced x := rfl
  generalize contactReferenced x u = v at hframe hestimate hline hreference
  refine ⟨?_, ?_, ?_, congrArg Activity.state (contact_begins k hx).1⟩ <;> rw [hframe]
  exacts [hline, hestimate, hreference]

end

theorem State.seconds_of_fixed {s t : State} (h : t.fixed = s.fixed) : t.seconds = s.seconds := (congrArg State.seconds h :)

theorem activity_of_stuck {s : State} (h : s.gapState = .stuck) : s.gap.activity = .stuck := by
  unfold State.gapState at h
  cases hact : s.gap.activity <;> simp [hact, Activity.state] at h ⊢

theorem sensed_trampList (r : Readings) (s : State) : (sensed r s).gap.trampList = s.gap.trampList := by
  obtain ⟨-, -, hlist⟩ := State.marks_of_fixed (State.fixed_of_still (sensed_still r s))
  exact hlist

/-! ### The detection in the terms of the state before the reading -/

section
variable {r : Readings} {s a : State} {p : Nat} {pressure : Option Nat} (output : Nat)
  (h : a = activityReading pressure (positionReading r) (sensed r s))
include h

theorem reading_fixed : a.fixed = (sensed r s).fixed := by rw [h, activityReading_fixed]

theorem reading_marks : a.gap.armed = s.gap.armed ∧ a.settings = s.settings ∧ a.seconds = s.seconds ∧
    a.gap.trampList = s.gap.trampList := by
  have hread := reading_fixed h
  obtain ⟨hsettings, harmed, -⟩ := sensed_fields r s
  exact ⟨(State.marks_of_fixed hread).1.trans harmed, (State.detection_of_fixed hread).2.2.1.trans hsettings,
    (State.seconds_of_fixed hread).trans (sensed_seconds r s), (State.marks_of_fixed hread).2.2.trans (sensed_trampList r s)⟩

/-- STUCK makes no test of its own: W is set afresh from the G_t before the reading (R105). -/
theorem reading_setpoint_of_stuck (hs : s.gapState = .stuck) :
    (if a.gapState = .stuck then a.heldInWindow a.gap.target else a.gap.setpoint) = s.heldInWindow s.gap.target := by
  have hkept : (sensed r s).gap.activity = .stuck :=
    (sensed_activity_kept r (by simp [hs]) (by simp [hs])).trans (activity_of_stuck hs)
  have hsame : a = sensed r s := h.trans (activityReading_of_stuck hkept)
  have hstuck : (sensed r s).gapState = .stuck := congrArg Activity.state hkept
  have hstill := sensed_still r s
  have hheld : (sensed r s).heldInWindow (sensed r s).gap.target = s.heldInWindow s.gap.target := by
    rw [State.heldInWindow_of_still hstill, State.target_of_still hstill]
    rfl
  rw [hsame, if_pos hstuck, hheld]

end

theorem weighed_kept (output : Nat) (s : State) :
    (estimateTonnage output s).faults = s.faults ∧ (estimateTonnage output s).gap.readingClock = s.gap.readingClock ∧
      (∀ k, (estimateTonnage output s).activeKind k = s.activeKind k) := by
  rw [estimateTonnage_frame]
  exact ⟨rfl, rfl, fun _ => rfl⟩

theorem detectTramp_readingClock (s : State) : (detectTramp s).gap.readingClock = s.gap.readingClock :=
  (State.detection_of_fixed (State.fixed_of_still (detectTramp_still s))).2.1

/-- What a detection leaves at the end of its event, whatever was going on (R135, R136). -/
theorem afterTest_detected (output : Nat) {p : Nat} {a : State} (harmed : a.gap.armed = true) (hd : a.detects p)
    (hactive : a.active = true) (htail : TailWaits a.queue) :
    let t := afterTest output p a
    Relieved a t ∧ t.valve = .off ∧ t.gap.lastDetection = t.gap.readingClock ∧ t.activeKind .setGap = false ∧
      t.activeKind .calibrate = false ∧
      (t.gap.trampList.length = 3 → t.run.state = .tripped ∧ .trampRepeat ∈ t.faults.seen) := by
  intro t
  have ht : t = estimateTonnage output (detectTramp a) := afterTest_of_detection output harmed hd
  have hrelieved : Relieved a t := ht ▸ estimateTonnage_relieved output (detectTramp_relieved a)
  obtain ⟨hfaults, hclock, hkind⟩ := weighed_kept output (detectTramp a)
  obtain ⟨hsetGap, hcalibrate⟩ := detectTramp_ends htail
  have hrun := (estimateTonnage_weighed output (detectTramp a)).run
  rw [← ht] at hfaults hclock hkind hrun
  refine ⟨hrelieved, ?_, hrelieved.lastDetection.trans ((hclock.trans (detectTramp_readingClock a)).symm),
    (hkind _).trans hsetGap, (hkind _).trans hcalibrate, fun hlength => ?_⟩
  · rw [State.valve, hrelieved.activity]
    exact ite_self _
  · rw [hrelieved.trampList] at hlength
    obtain ⟨hstate, hseen⟩ := detectTramp_repeats hactive hlength
    rw [hrun, hfaults]
    exact ⟨hstate, hseen⟩

/-- The request that the activity's own test leaves is answered with the G and W of before the reading (R112, R126). -/
theorem Unended.answered {s u a : State} {x p : Nat} {e : Entry} (h : Unended u a) (hs : Sensed s u x)
    (harmed : a.gap.armed = true) (hd : a.detects p) (hq : s.queue = [e]) (ha : e.active = true)
    (hk : e.kind = .setGap ∨ e.kind = .calibrate) (output : Nat) :
    (afterTest output p a).queue = [] ∧ (afterTest output p a).line = s.line.push
      (trampAnswer e (s.gap.reference.contact?.map (fun k => (k + s.gap.wearAcc / 100) - x)) s.gap.setpoint) := by
  have hend := afterTest_answers output harmed hd (h.queue.trans (hs.queue.trans hq)) ha hk
  rwa [h.line, hs.line, h.estimate, hs.gapEstimate, h.setpoint, hs.gap] at hend

/-- A contact at the detecting reading is measured from (R123, R126). -/
theorem Sensed.contact_tramp {s u : State} {x p : Nat} {k : CalKind} {e : Entry} (hs : Sensed s u x)
    (harmed : (contact k x u).gap.armed = true) (hd : (contact k x u).detects p) (hq : s.queue = [e]) (ha : e.active = true)
    (hk : e.kind = .calibrate) (output : Nat) :
    let t := afterTest output p (contact k x u)
    t.queue = [] ∧ t.gap.reference = .referenced x ∧ t.line = s.line.push (trampAnswer e (some 0) t.gap.setpoint) := by
  obtain ⟨hline, hestimate, hreference, hstate⟩ := contact_answered k hs.position
  have hqueue : (contact k x u).queue = [e] := (contact_begins k hs.position).2.2.trans (hs.queue.trans hq)
  generalize contact k x u = a at *
  have hrelieved := estimateTonnage_relieved output (detectTramp_relieved a)
  rw [← afterTest_of_detection output harmed hd] at hrelieved
  obtain ⟨hend, hanswer⟩ := afterTest_answers output harmed hd hqueue ha (.inr hk)
  have hsetpoint := hrelieved.setpoint.trans (if_neg (by simp [hstate]))
  refine ⟨hend, hrelieved.reference.trans hreference, ?_⟩
  rw [hanswer, hestimate, hline, hs.line, hsetpoint]

/-- Settles O39: the activity's own test comes first and keeps the queue's tail waiting; a detection then follows whatever it left. -/
theorem trampRelievesTheCrusher : Obligations.TrampRelievesTheCrusher := by
  intro r s hactive harmed h1 h2 hmark htail kept p here answered
  have hexec := exec_reading_of_pressure (r := r) hactive ⟨h1, h2⟩
  have hpressure : pressureOf r s.settings = p := rfl
  rw [hpressure] at hexec
  obtain ⟨a, ha⟩ : ∃ a, a = activityReading (some p) (positionReading r) (sensed r s) := ⟨_, rfl⟩
  rw [← ha] at hexec
  obtain ⟨harmed', hsettings, hseconds, hlist⟩ := reading_marks ha
  have ha_armed := harmed'.trans harmed
  have hdetects : a.detects p := .inl (by rwa [hsettings])
  have hwaits : TailWaits a.queue :=
    TailWaits.of_suffix htail (ha ▸ activityReading_shortens (sensed_shortens r s) (some p) (positionReading r))
  have hreading : a.active = true := ha ▸ activityReading_active _ _ (sensed_active r hactive)
  obtain ⟨hrelieved, hvalve, hlast, hsetGap, hcalibrate, hrepeat⟩ :=
    afterTest_detected s.drive.output ha_armed hdetects hreading hwaits
  refine ⟨_, hexec, hrelieved.activity, hvalve, hrelieved.armed, hlast, hrelieved.jumpWindow, hrelieved.history,
    hrelieved.output, hrelieved.capacity, fun hs => hrelieved.setpoint.trans (reading_setpoint_of_stuck ha hs), hsetGap,
    hcalibrate, ?_, hrepeat, fun e hq hactiveEntry hm hx => ?_⟩
  · rw [hrelieved.trampList, hsettings, hseconds, hlist]
    exact trampListWith_eq _ _ _
  · have hmarked := positionReading_of_marked hm hx
    have hsensed := sensed_inRange (s := s) ⟨h1, h2⟩ hmarked
    rw [hmarked] at ha
    generalize sensed r s = u at ha hsensed
    have hestimate : u.gapEstimate = here := hsensed.gapEstimate
    have hsetpoint : u.gap.setpoint = s.gap.setpoint := by rw [hsensed.gap]
    refine ⟨fun hk hway => ?_, fun c hk hact hphase => ?_, fun c pulse hk hact hphase hcontact => ?_⟩
    · have hkept : Unended u a := by
        rcases hway with hact | ⟨m, hact, hshort⟩
        · rw [ha, activityReading_of_holding (hsensed.activity.trans hact)]
        · rw [ha]
          refine activityReading_unended_of_moving (hsensed.activity.trans hact) fun g hg => ?_
          rw [hsetpoint]
          exact crossed_of_short (hshort g (hestimate.symm.trans hg))
      exact hkept.answered hsensed ha_armed hdetects hq hactiveEntry (.inl hk) s.drive.output
    · have hkept : Unended u a := by
        rw [ha]
        refine activityReading_unended_of_calibrating (hsensed.activity.trans hact) ?_
        rw [hsensed.settings, hsetpoint, hestimate]
        exact hphase
      exact hkept.answered hsensed ha_armed hdetects hq hactiveEntry (.inr hk) s.drive.output
    · have hbegins : a = contact c.kind r.position u := by
        rw [ha, activityReading_of_calibrating (hsensed.activity.trans hact), calibrationReading_seeking hphase,
          if_pos (by rwa [hsensed.settings])]
      rw [hbegins] at ha_armed hdetects ⊢
      exact hsensed.contact_tramp ha_armed hdetects hq hactiveEntry hk s.drive.output

end Sys2Proof.Machine

/-! ## A LINER_CHANGE that starts in IDLE (O46) -/

namespace Sys2Proof.Machine

/-! ### What a LINER_CHANGE clears (R128) -/

/-- The station with what a LINER_CHANGE clears, and without its reference; a running campaign is not the LINER_CHANGE's own. -/
def linerCleared (s : State) : State :=
  { s with gap := { s.gap with
             linerTonnes := 0, linerWear := 0, calCount := 0, wearAcc := 0, wearUnknown := false, lastShift := none
             reference := .unreferenced, jumpWindow := [] }
           monitor.linerKg := 0
           interface.campaign := s.interface.campaign.map (fun c => { c with forLiner := false }) }

/-- With no move to end and no feeder running, the loss of the reference writes W and the jump window only. -/
theorem setReference_of_resting {s : State} (hg : s.gapState ≠ .moving)
    (hr : s.run.state ≠ .running ∧ s.run.state ≠ .held) :
    setReference .unreferenced s = holdW { s with gap.reference := .unreferenced, gap.jumpWindow := [] } := by
  have hgap : (holdW { s with gap.reference := .unreferenced, gap.jumpWindow := [] }).gapState ≠ .moving := by
    rw [holdW_gapState]
    exact hg
  unfold setReference
  rw [if_neg (by simp [Reference.present, Reference.contact?])]
  dsimp only
  rw [if_neg hgap, if_neg (by simp [hr])]

theorem startLinerChange_of_resting {s : State} (hg : s.gapState ≠ .moving)
    (hr : s.run.state ≠ .running ∧ s.run.state ≠ .held) : startLinerChange s = requestRecord (holdW (linerCleared s)) :=
  congrArg requestRecord (setReference_of_resting hg hr)

/-- What such a start leaves, but for W with its mark and for the record it requests. -/
theorem startLinerChange_fields {s : State} (hg : s.gapState ≠ .moving)
    (hr : s.run.state ≠ .running ∧ s.run.state ≠ .held) :
    startLinerChange s = { linerCleared s with
      gap.setpoint := (startLinerChange s).gap.setpoint, gap.approach := (startLinerChange s).gap.approach
      interface := (startLinerChange s).interface, memory := (startLinerChange s).memory } := by
  rw [startLinerChange_of_resting hg hr, requestRecord_frame, holdW_frame]

/-- The record that a LINER_CHANGE requests: no contact, and every total 0 (R129). -/
def clearedRecord : WearRecord := { contact := none, linerTonnes := 0, linerWear := 0, wearAcc := 0, calCount := 0 }

theorem wearRecord_of_cleared (s : State) : (holdW (linerCleared s)).wearRecord = clearedRecord := by
  rw [holdW_frame]
  rfl

/-- The record is the LINER_CHANGE's own campaign, or the pending one (R128, R164). -/
theorem startLinerChange_record {s : State} (hg : s.gapState ≠ .moving)
    (hr : s.run.state ≠ .running ∧ s.run.state ≠ .held) :
    if s.interface.campaign = none ∧ s.supplyLow = false then
      ∃ c, (startLinerChange s).interface.campaign = some c ∧ c.record = clearedRecord ∧ c.word = 64 ∧ c.forLiner = true
    else (startLinerChange s).interface.pending = some clearedRecord := by
  have hidle : (holdW (linerCleared s)).interface.campaign = none ∧ (holdW (linerCleared s)).supplyLow = false ↔
      s.interface.campaign = none ∧ s.supplyLow = false := by
    rw [holdW_frame]
    simp [linerCleared]
  rw [startLinerChange_of_resting hg hr, requestRecord, wearRecord_of_cleared, recordArrives, ← if_congr hidle rfl rfl]
  split
  · exact ⟨_, (startCampaign_effect clearedRecord _).1, rfl, rfl, rfl⟩
  · rfl

/-! ### The statement (O46) -/

theorem exec_linerChange_arrived {header : Address} {tag : BitVec 3} {noRetry : Bool} {s : State}
    (haddr : s.addressedAlone header = true) (hr : s.line.receiver ≠ .waitingIdle) (hrun : s.run.state = .idle)
    (hq : s.queue = []) :
    exec (.linerChange header tag noRetry) s = .next (settle (arrived (entryOf header tag .linerChange none noRetry) s)) := by
  have hactive : s.active = true := by simp [State.active, hrun, RunState.active]
  have hallowed : stateRefusal .linerChange s = none := if_pos hrun
  exact congrArg Host.Outcome.next ((onRequest_taken _ haddr hactive hr).trans
    (enqueue_of_nil (e := entryOf header tag .linerChange none noRetry) hallowed hq))

/-- A LINER_CHANGE that starts alone in IDLE: no calibration, move or run follows in its event. -/
theorem settle_linerChange_idle {s : State} {e : Entry} (hrun : s.run.state = .idle)
    (hg : s.gapState = .holding ∨ s.gapState = .stuck) (hq : s.queue = [e]) (he : e.active = false)
    (hk : e.kind = .linerChange) : settle s = startLinerChange (activated e s) := by
  have hactive : s.active = true := by simp [State.active, hrun, RunState.active]
  have hhead : startHead s = startLinerChange (activated e s) := by
    rw [startHead_of_single hq, hk]
  have hstate : (startLinerChange (activated e s)).run.state = .idle :=
    (startLinerChange_state (s := activated e s) (by simp [activated, hrun])).trans hrun
  have hestimate : (startLinerChange (activated e s)).gapEstimate = none :=
    gapEstimate_of_absent (.inl (startLinerChange_reference _))
  rw [settle_of_single hactive hg hq he, hhead, internalCalibrationTest_of_state (by simp [hstate]),
    moveTest_of_noEstimate hestimate, primingTest_of_not fun hp => by simpa [hstate] using hp.1]

/-- Settles O46: the entry starts in its own event, which then has nothing left to test. -/
theorem linerChangeClearsTheTotals : Obligations.LinerChangeClearsTheTotals := by
  intro header tag noRetry s haddr hreceiver hrun hgap hqueue
  obtain ⟨e, he⟩ : ∃ e, e = entryOf header tag .linerChange none noRetry := ⟨_, rfl⟩
  have hexec := exec_linerChange_arrived (tag := tag) (noRetry := noRetry) haddr hreceiver hrun hqueue
  rw [← he, settle_linerChange_idle (s := arrived e s) hrun hgap rfl (he ▸ rfl) (he ▸ rfl)] at hexec
  have hmoving : (activated e (arrived e s)).gapState ≠ .moving := by
    change s.gapState ≠ .moving
    rcases hgap with h | h <;> simp [h]
  have hfeeding : (activated e (arrived e s)).run.state ≠ .running ∧ (activated e (arrived e s)).run.state ≠ .held := by
    change s.run.state ≠ .running ∧ s.run.state ≠ .held
    simp [hrun]
  have hreference := startLinerChange_reference (activated e (arrived e s))
  have hestimate := gapEstimate_of_absent (.inl hreference)
  have hrecord := startLinerChange_record hmoving hfeeding
  have hfields := startLinerChange_fields hmoving hfeeding
  refine ⟨_, hexec, ?_⟩
  generalize startLinerChange (activated e (arrived e s)) = t at *
  refine ⟨?_, ?_, ?_, ?_, ?_, ?_, ?_, ?_, hreference, hestimate, ?_, ?_, ?_, ?_, ?_, hrecord⟩
  all_goals
    rw [hfields, he]
    rfl

end Sys2Proof.Machine

/-! ## The end of a campaign is handed on (O59) -/

namespace Sys2Proof.Machine

/-! ### What the end of a campaign hands on (R128, R164) -/

/-- The Fault Record after the end of a campaign: only a time-out is reported, and it trips nothing. -/
def CampaignEnd.faultsOf (e : CampaignEnd) (s : State) : FaultRecord :=
  if e = .timedOut then (noteFault .memoryTimeout s).faults else s.faults

/-- A campaign has ended: the memory is disabled and a time-out reported. -/
def campaignNoted (e : CampaignEnd) (s : State) : State :=
  { s with memory := s.memory.setEnabled false, faults := e.faultsOf s }

theorem campaignEnds_eq (e : CampaignEnd) (c : Campaign) (s : State) :
    campaignEnds e c s =
      settle (startPending { linerChangeTakes e c.forLiner (campaignNoted e s) with interface.campaign := none }) := by
  cases e <;> rfl

/-- With no request queued, nothing awaits the end of a campaign. -/
theorem linerChangeTakes_of_nil (e : CampaignEnd) (own : Bool) {s : State} (hq : s.queue = []) :
    linerChangeTakes e own s = s := by
  unfold linerChangeTakes
  split
  · split
    exacts [endActiveOf_of_nil _ _ hq, rfl]
  · rfl

/-- The LINER_CHANGE that awaits the end of its campaign ends with it. -/
theorem linerChangeTakes_of_awaited {e : CampaignEnd} {o : AnswerOutcome} {s : State} {x : Entry} (ho : e.outcome = some o)
    (hq : s.queue = [x]) (ha : x.active = true) (hk : x.kind = .linerChange) :
    linerChangeTakes e true s = { s with queue := [], line := s.line.push (s.entryAnswer x o) } := by
  have hend := endActiveOf_of_active o hq ha hk
  simp only [linerChangeTakes, ho, if_true, hend]

/-! ### The end of the event -/

/-- Out of PRIMING and with no request queued the end of an event leaves all that a campaign's end has written. -/
theorem settle_unqueued {s : State} (hp : s.run.state ≠ .priming) (hq : s.queue = []) :
    (settle s).queue = [] ∧ (settle s).line = s.line ∧ (settle s).interface = s.interface ∧ (settle s).memory = s.memory ∧
      (settle s).faults = s.faults ∧ (settle s).run = s.run := by
  have hrests := settle_rests hq
  have hstands := settle_stands hp fun _ => by simp [NoneWaits, hq]
  exact ⟨hrests.queue.trans hq, hrests.line, State.interface_of_still hrests.still, State.memory_of_still hrests.still,
    hstands.faults, hstands.run⟩

/-- With nothing pending, an end that leaves no request queued leaves the interface idle. -/
theorem campaignEnds_idle {e : CampaignEnd} {c : Campaign} {s : State} {l : LinePort} (hp : s.run.state ≠ .priming)
    (hn : s.interface.pending = none)
    (ht : linerChangeTakes e c.forLiner (campaignNoted e s) = { campaignNoted e s with queue := [], line := l }) :
    let t := campaignEnds e c s
    t.queue = [] ∧ t.line = l ∧ t.interface = { campaign := none, pending := none } ∧
      t.memory = s.memory.setEnabled false ∧ t.faults = e.faultsOf s ∧ t.run = s.run := by
  have hend : campaignEnds e c s = settle { campaignNoted e s with
      queue := [], line := l, interface := { campaign := none, pending := none } } := by
    rw [campaignEnds_eq, ht, startPending_of_none (by exact hn)]
    simp only [campaignNoted, hn]
  rw [hend]
  exact settle_unqueued hp rfl

theorem campaignEnds_of_nil (e : CampaignEnd) (c : Campaign) {s : State} (hp : s.run.state ≠ .priming)
    (hn : s.interface.pending = none) (hq : s.queue = []) :
    let t := campaignEnds e c s
    t.interface = { campaign := none, pending := none } ∧ t.memory = s.memory.setEnabled false ∧ t.faults = e.faultsOf s ∧
      t.run = s.run := by
  have hnoted : { campaignNoted e s with queue := [] } = campaignNoted e s := by
    simp only [campaignNoted, hq]
  have htakes := (linerChangeTakes_of_nil e c.forLiner (s := campaignNoted e s) hq).trans hnoted.symm
  obtain ⟨-, -, hends⟩ := campaignEnds_idle hp hn (l := s.line) htakes
  exact hends

/-- The LINER_CHANGE that awaits the end is answered by it (R128). -/
theorem campaignEnds_of_awaited {e : CampaignEnd} {o : AnswerOutcome} {c : Campaign} {s : State} {x : Entry}
    (hp : s.run.state ≠ .priming) (hn : s.interface.pending = none) (ho : e.outcome = some o) (hq : s.queue = [x])
    (ha : x.active = true) (hk : x.kind = .linerChange) (hown : c.forLiner = true) :
    let t := campaignEnds e c s
    t.queue = [] ∧ t.line = s.line.push (s.entryAnswer x o) ∧ t.interface = { campaign := none, pending := none } ∧
      t.memory = s.memory.setEnabled false ∧ t.faults = e.faultsOf s ∧ t.run = s.run := by
  refine campaignEnds_idle hp hn ?_
  rw [hown, linerChangeTakes_of_awaited (s := campaignNoted e s) ho hq ha hk]
  cases o <;> rfl

/-- A pending record starts the next campaign while the supply is good (R164). -/
theorem campaignEnds_of_pending (e : CampaignEnd) (c : Campaign) {s : State} {r : WearRecord} (hp : s.run.state ≠ .priming)
    (hr : s.interface.pending = some r) (hl : s.supplyLow = false) (hq : s.queue = []) :
    let t := campaignEnds e c s
    t.interface.pending = none ∧ t.memory.enabled = true ∧
      ∃ c', t.interface.campaign = some c' ∧ c'.record = r ∧ c'.word = 64 ∧ c'.ready = 25 ∧ c'.cutOff = false := by
  obtain ⟨u, hu⟩ : ∃ u : State, u = { campaignNoted e s with interface := { campaign := none, pending := none } } := ⟨_, rfl⟩
  have hend : campaignEnds e c s = settle (startCampaign r u) := by
    rw [campaignEnds_eq, linerChangeTakes_of_nil e c.forLiner (s := campaignNoted e s) hq,
      startPending_of_idle (r := r) (by exact hr) rfl (by exact hl), hu]
  obtain ⟨hcampaign, hpending, henabled, -⟩ := startCampaign_effect r u
  obtain ⟨-, -, hinterface, hmemory, -⟩ :=
    settle_unqueued (s := startCampaign r u) (by subst hu; exact hp) (by subst hu; exact hq)
  intro t
  rw [show t = settle (startCampaign r u) from hend, hinterface, hmemory]
  exact ⟨hpending.trans (hu ▸ rfl), henabled, _, hcampaign, rfl, rfl, rfl, rfl⟩

/-! ### The statement (O59) -/

section
variable {s : State} {c : Campaign} (hc : s.interface.campaign = some c)
include hc

theorem exec_wordReady_of_last (hw : c.word = 71) :
    exec .wordReady s = .next (campaignEnds .completed c { s with memory := s.memory.finish }) := by
  have hready : wordReady c { s with memory := s.memory.finish } =
      campaignEnds .completed c { s with memory := s.memory.finish } := if_pos hw
  rw [← hready]
  simp only [exec, execWordReady, hc]

theorem exec_wordReady_of_cut (hw : c.word ≠ 71) (hcut : c.cutOff = true) :
    exec .wordReady s =
      .next (campaignEnds .cutShort c (cutShort c { s with memory := s.memory.finish })) := by
  have hready : wordReady c { s with memory := s.memory.finish } =
      campaignEnds .cutShort c (cutShort c { s with memory := s.memory.finish }) := (if_neg hw).trans (if_pos hcut)
  rw [← hready]
  simp only [exec, execWordReady, hc]

theorem exec_readyTimerExpiry_of_campaign :
    exec .readyTimerExpiry s = .next (campaignEnds .timedOut c (giveUpWord c s)) := by
  simp only [exec, execReadyTimerExpiry, hc]

end

theorem timedOut_noted (s : State) : .memoryTimeout ∈ (CampaignEnd.timedOut.faultsOf s).seen :=
  (noteFault_seen .memoryTimeout .memoryTimeout s).2 (.inl rfl)

/-- Settles O59: each event ends the campaign in its own way, and `campaignEnds_of_awaited`, `campaignEnds_of_nil` and
`campaignEnds_of_pending` say what the end leaves. -/
theorem campaignEndIsHandedOn : Obligations.CampaignEndIsHandedOn := by
  intro s c hc hp
  refine ⟨fun hw hn e hq ha hk hown => ?done, fun hn e hq ha hk hown => ?memory, fun hn hq hwf h64 h71 => ?timedOut,
    fun r hend hr hl hq => ?pending, fun hw hcut hn hq => ?cut⟩
  case done =>
    obtain ⟨hqueue, hline, hinterface, hmemory, hfaults, hrun⟩ :=
      campaignEnds_of_awaited (e := .completed) (o := .done) (c := c) (s := { s with memory := s.memory.finish }) hp hn rfl hq
        ha hk hown
    refine ⟨_, exec_wordReady_of_last hc hw, hqueue, hinterface, by rw [hmemory]; rfl, hfaults, by rw [hrun], ?_⟩
    rw [hline]
    simp [State.entryAnswer, hk, QueuedKind.request]
  case memory =>
    obtain ⟨hqueue, hline, hinterface, hmemory, hfaults, hrun⟩ :=
      campaignEnds_of_awaited (e := .timedOut) (o := .stopped .memory) (c := c) (s := giveUpWord c s) hp hn rfl hq ha hk hown
    refine ⟨_, exec_readyTimerExpiry_of_campaign hc, hqueue, hinterface, by rw [hmemory]; rfl, ?_, by rw [hrun]; rfl, ?_⟩
    · rw [hfaults]
      exact timedOut_noted _
    · rw [hline, State.entryAnswer, hk]
      rfl
  case timedOut =>
    obtain ⟨hinterface, hmemory, hfaults, -⟩ := campaignEnds_of_nil .timedOut c (s := giveUpWord c s) hp hn hq
    refine ⟨_, exec_readyTimerExpiry_of_campaign hc, hinterface, ?_⟩
    rw [hmemory, hfaults]
    exact ⟨rfl, rfl, timedOut_noted _, fun a ha => Memory.spoil_read_other _ _ ha,
      fun straps => Memory.spoil_invalid _ straps hwf h64 h71⟩
  case pending =>
    by_cases hw : c.word = 71
    · exact ⟨_, exec_wordReady_of_last hc hw, campaignEnds_of_pending .completed c hp hr hl hq⟩
    · refine ⟨_, exec_wordReady_of_cut hc hw (hend.resolve_left hw), ?_⟩
      rw [cutShort_frame]
      exact campaignEnds_of_pending .cutShort c hp hr hl hq
  case cut =>
    obtain ⟨u, hu⟩ : ∃ u, u = cutShort c { s with memory := s.memory.finish } := ⟨_, rfl⟩
    have hframe := hu.trans (cutShort_frame c _)
    obtain ⟨hinterface, hmemory, hfaults, hrun⟩ := campaignEnds_of_nil .cutShort c (s := u) (by rw [hframe]; exact hp)
      (by rw [hframe]; exact hn) (by rw [hframe]; exact hq)
    refine ⟨_, exec_wordReady_of_cut hc hw hcut, ?_⟩
    rw [← hu, hrun, hmemory]
    refine ⟨hinterface, rfl, hfaults.trans ?_, ?_, fun a ha => ?_, fun hwf h64 h71 straps => ?_⟩
    · rw [hframe]
      rfl
    · rw [hframe]
    · rw [hu]
      exact cutShort_read_other c _ ha
    · rw [hu]
      exact cutShort_invalid straps (Memory.finish_wf hwf) h64 h71

end Sys2Proof.Machine

/-! ## The Request Queue stays consistent (O50) -/

namespace Sys2Proof.Machine

/-! ### The queue at the operations of an event: entries only leave at its head (R145, R150) -/

section
variable {q : List Entry} {s : State} (h : s.queue <:+ q)
include h

theorem restW_shortens : (restW s).queue <:+ q := by rwa [restW_frame]

theorem holdW_shortens : (holdW s).queue <:+ q := by
  unfold holdW
  split <;> exact h

theorem reversalTest_shortens : (reversalTest s).queue <:+ q := by
  rcases reversalTest_cases s with h' | ⟨m, -, m', h'⟩ <;> rw [h']
  exacts [h, updateActivity_shortens h _]

theorem wearChanged_shortens : (wearChanged s).queue <:+ q := by
  unfold wearChanged
  split
  exacts [reversalTest_shortens (moveCrossing_shortens h), h]

theorem trampEnded_shortens : (trampEnded s).queue <:+ q :=
  endActiveOf_shortens (endActiveOf_shortens (s := detected s) h _ _) _ _

theorem detectTramp_shortens : (detectTramp s).queue <:+ q := by
  have hrelieved := setActivity_shortens (trampEnded_shortens h) (.relieved none)
  rw [detectTramp_eq]
  split
  exacts [report_shortens hrelieved _ _, hrelieved]

theorem trampReading_shortens (pressure : Option Nat) : (trampReading pressure s).queue <:+ q := by
  unfold trampReading
  extract_lets now kept added
  split
  · split
    exacts [detectTramp_shortens h, h]
  · split <;> exact h

theorem estimateTonnage_shortens (output : Nat) : (estimateTonnage output s).queue <:+ q := by
  unfold estimateTonnage
  split <;> exact h

theorem requestRecord_shortens : (requestRecord s).queue <:+ q := by rwa [requestRecord_frame]

theorem finishStopping_shortens : (finishStopping s).queue <:+ q :=
  requestRecord_shortens (by rwa [changeRun_queue])

theorem enterRun_shortens (r : RunState) : (enterRun r s).queue <:+ q := by
  have hchanged : (changeRun r s).queue <:+ q := by rwa [changeRun_queue]
  unfold enterRun
  split
  exacts [report_shortens hchanged _ _, hchanged]

theorem setReference_shortens (r : Reference) : (setReference r s).queue <:+ q := by
  unfold setReference
  extract_lets _ u v
  have hu : u.queue <:+ q := holdW_shortens h
  have hv : v.queue <:+ q := by
    unfold v
    split
    exacts [setActivity_shortens hu _, hu]
  split
  · exact hu
  · split
    · rwa [changeRun_queue]
    · exact hv

/-! #### The arrivals of a demand, and its command -/

theorem targetChanged_shortens : (targetChanged s).queue <:+ q := by
  have hmoved : (targetMoved s).queue <:+ q := by
    unfold targetMoved
    split
    exacts [holdW_shortens h, h]
  rw [targetChanged_eq]
  unfold testW
  split
  exacts [moveCrossing_shortens hmoved, backingArrival_shortens hmoved, reclosingArrival_shortens hmoved, hmoved]

theorem flagDropped_shortens : (flagDropped s).queue <:+ q := by
  unfold flagDropped
  split
  exacts [updateActivity_shortens h _, h]

theorem gapStored_shortens (p : DemandPayload) : (gapStored p s).queue <:+ q := by
  unfold gapStored
  split
  · split
    · rw [gapTargetArrives_eq]
      exact targetChanged_shortens (s := targetTaken _ _) (flagDropped_shortens (endActiveOf_shortens h _ _))
    · exact h
  · exact h

theorem spanStored_shortens (p : DemandPayload) : (spanStored p s).queue <:+ q := by
  unfold spanStored
  split
  · split
    · unfold spanArrives
      split
      · exact h
      · next a _ _ _ => exact targetChanged_shortens (s := { s with gap.span := a }) h
    · exact h
  · exact h

theorem storeDemand_shortens (p : DemandPayload) : (storeDemand p s).queue <:+ q := by
  rw [storeDemand_eq]
  exact spanStored_shortens (gapStored_shortens (s := sequenceStored p s) h p) p

theorem beginRun_shortens : (beginRun s).queue <:+ q := by
  unfold beginRun
  split
  · exact enterRun_shortens h _
  · rwa [changeRun_queue]

theorem abortInternal_shortens : (abortInternal s).queue <:+ q := by
  unfold abortInternal
  split
  · split
    exacts [setActivity_shortens h _, h]
  · exact h

theorem actCommand_shortens (c : Option Command) : (actCommand c s).queue <:+ q := by
  unfold actCommand
  split
  · exact h
  · have hnoted : ({ s with run.lastCommand := some .run } : State).queue <:+ q := h
    unfold actRun
    split
    exacts [beginRun_shortens hnoted, beginRun_shortens hnoted, h]
  · have hnoted : ({ s with run.lastCommand := some .stop } : State).queue <:+ q := h
    unfold actStop
    split
    exacts [enterRun_shortens hnoted _, enterRun_shortens hnoted _, abortInternal_shortens (enterRun_shortens hnoted _), h]

/-! #### Stalls, reliefs and campaigns -/

theorem stickAt_shortens : (stickAt s).queue <:+ q :=
  setActivity_shortens (restW_shortens (report_shortens h _ _)) _

theorem moveStalls_shortens (m : Move) (g : Nat) : (moveStalls m g s).queue <:+ q := by
  unfold moveStalls
  split
  · split
    · exact setActivity_shortens (restW_shortens (endActiveOf_shortens h _ _)) _
    · exact reversalTest_shortens (updateActivity_shortens h _)
  · exact stickAt_shortens (endActiveOf_shortens h _ _)

theorem reliefEnds_shortens : (reliefEnds s).queue <:+ q := by
  unfold reliefEnds
  split
  · split <;> exact setActivity_shortens h _
  · exact setActivity_shortens h _

theorem linerChangeTakes_shortens (e : CampaignEnd) (own : Bool) : (linerChangeTakes e own s).queue <:+ q := by
  unfold linerChangeTakes
  split
  · split
    exacts [endActiveOf_shortens h _ _, h]
  · exact h

/-! #### The start of a head -/

theorem startSetGap_shortens (e : Entry) : (startSetGap e s).queue <:+ q := by
  unfold startSetGap
  extract_lets asked
  split
  · exact endActive_shortens h _
  · split
    · exact holdW_shortens (endActive_shortens h _)
    · split
      · exact endActive_shortens (s := setAfresh { s with gap.target := asked }) h _
      · exact h

theorem startRequestedCalibration_shortens : (startRequestedCalibration s).queue <:+ q := by
  unfold startRequestedCalibration
  split
  exacts [setActivity_shortens h _, endActive_shortens h _]

theorem startLinerChange_shortens : (startLinerChange s).queue <:+ q := by
  have hcleared : ∀ u : State, u.queue = s.queue → (requestRecord (setReference .unreferenced u)).queue <:+ q :=
    fun u hu => requestRecord_shortens (setReference_shortens (hu ▸ h) _)
  exact hcleared _ rfl

end

/-- The head that starts is ACTIVE; it stays so, or ends with what waits behind it in its place. -/
theorem startHead_shortens (s : State) : (startHead s).queue <:+ activateHead s.queue := by
  have hmark : ({ s with queue := activateHead s.queue } : State).queue <:+ activateHead s.queue := List.suffix_refl _
  unfold startHead
  split
  · next hq =>
    rw [hq]
    exact List.suffix_refl _
  · dsimp only
    split
    exacts [startSetGap_shortens hmark _, startRequestedCalibration_shortens hmark, startLinerChange_shortens hmark]

/-! ### No head is left waiting that could be started (R144) -/

theorem State.headStartable_of_active_head {s : State} {e : Entry} {rest : List Entry} (hq : s.queue = e :: rest)
    (he : e.active = true) : s.headStartable = false := by
  simp [State.headStartable, hq, he]

/-- What an event keeps of the queue: nothing behind its head is ACTIVE (R142), and no head that may start is left (R144). -/
structure KeepsHead (s t : State) : Prop where
  tail  : TailWaits s.queue → TailWaits t.queue
  taken : TailWaits s.queue → s.headStartable = false → t.headStartable = false

@[refl] theorem KeepsHead.refl (s : State) : KeepsHead s s := ⟨id, fun _ => id⟩

theorem KeepsHead.trans {s t u : State} (h : KeepsHead s t) (h' : KeepsHead t u) : KeepsHead s u where
  tail := h'.tail ∘ h.tail
  taken ht hs := h'.taken (h.tail ht) (h.taken ht hs)

/-- Queue, gap state and activity of the station are as they were. -/
theorem KeepsHead.plain {s t : State} (hq : t.queue = s.queue := by rfl) (hg : t.gapState = s.gapState := by rfl)
    (ha : t.active = s.active := by rfl) : KeepsHead s t where
  tail := by rw [hq]; exact id
  taken _ hs := by rwa [State.headStartable, ha, hg, hq]

/-- No head is left that could be started. -/
theorem KeepsHead.of_taken {s t : State} (hq : TailWaits s.queue → TailWaits t.queue) (h : t.headStartable = false) :
    KeepsHead s t :=
  ⟨hq, fun _ _ => h⟩

theorem KeepsHead.of_nil {s t : State} (h : t.queue = []) : KeepsHead s t :=
  .of_taken (fun _ => h ▸ fun _ he => absurd he (List.not_mem_nil)) (State.headStartable_of_nil h)

/-- A gap state in which no request starts. -/
theorem KeepsHead.of_gapState {s t : State} (hq : t.queue = s.queue) (h1 : t.gapState ≠ .holding) (h2 : t.gapState ≠ .stuck) :
    KeepsHead s t :=
  .of_taken (by rw [hq]; exact id) (State.headStartable_of_gapState h1 h2)

/-- A report empties the queue, or leaves all but the Fault Record (R150, R166). -/
theorem report_keepsHead (k : FaultKind) (trips : Bool) (s : State) : KeepsHead s (report k trips s) := by
  unfold report
  split
  exacts [.of_nil (trip_queue _), .plain]

/-- A run state in which the station is active, entered from another such state. -/
theorem changeRun_keepsHead {r : RunState} {s : State} (hr : r.active = true) (hs : s.active = true) :
    KeepsHead s (changeRun r s) :=
  .plain (changeRun_queue r s) (changeRun_gapState r s) ((changeRun_active hr s).trans hs.symm)

theorem enterRun_keepsHead {r : RunState} {s : State} (hr : r.active = true) (hs : s.active = true) :
    KeepsHead s (enterRun r s) := by
  unfold enterRun
  split
  exacts [(changeRun_keepsHead hr hs).trans (report_keepsHead _ _ _), changeRun_keepsHead hr hs]

theorem internalCalibrationTest_keepsHead (s : State) : KeepsHead s (internalCalibrationTest s) := by
  unfold internalCalibrationTest
  split
  · exact .of_gapState (setActivity_queue _ s) (by simp [startCalibration, Activity.state])
      (by simp [startCalibration, Activity.state])
  · exact .refl s

theorem moveTest_keepsHead (s : State) : KeepsHead s (moveTest s) := by
  unfold moveTest
  split
  · split
    · exact .of_gapState (setActivity_queue _ s) (by simp [startMove, Activity.state]) (by simp [startMove, Activity.state])
    · exact .refl s
  · exact .refl s

theorem primingTest_keepsHead (s : State) : KeepsHead s (primingTest s) := by
  unfold primingTest
  split
  · next hp => exact enterRun_keepsHead rfl (by simp [State.active, hp.1, RunState.active])
  · exact .refl s

theorem finishStopping_keepsHead {s : State} (hs : s.active = true) : KeepsHead s (finishStopping s) := by
  have hrecord : KeepsHead (changeRun .idle s) (finishStopping s) := by
    rw [finishStopping, requestRecord_frame]
    exact .plain
  exact (changeRun_keepsHead rfl hs).trans hrecord

/-! ### The heads that start at the end of an event (R144) -/

theorem TailWaits.activateHead {q : List Entry} (h : TailWaits q) : TailWaits (activateHead q) := by
  cases q with
  | nil => exact h
  | cons e rest => exact h

theorem startHead_tail {s : State} (h : TailWaits s.queue) : TailWaits (startHead s).queue :=
  h.activateHead.of_suffix (startHead_shortens s)

/-- A start leaves its own entry ACTIVE at the head, or a shorter queue. -/
theorem startHead_taken {s : State} (hs : s.headStartable = true) :
    (startHead s).headStartable = false ∨ (startHead s).queue.length < s.queue.length := by
  obtain ⟨-, -, e, rest, hq, -⟩ := State.headStartable_iff.1 hs
  have hshorter := startHead_shortens s
  rw [hq, activateHead, List.suffix_cons_iff] at hshorter
  rcases hshorter with hsame | hrest
  · exact .inl (State.headStartable_of_active_head hsame rfl)
  · refine .inr ?_
    rw [hq, List.length_cons]
    exact Nat.lt_succ_of_le hrest.length_le

/-- As many starts as entries wait leave no head that could be started. -/
theorem startHeads_taken {n : Nat} {s : State} (hn : s.queue.length ≤ n) : (startHeads n s).headStartable = false := by
  induction n generalizing s with
  | zero => exact State.headStartable_of_nil (List.length_eq_zero_iff.1 (Nat.le_zero.1 hn))
  | succ n ih =>
    unfold startHeads
    split
    · next hs =>
      rcases startHead_taken hs with htaken | hshorter
      · cases n with
        | zero => exact htaken
        | succ n => rwa [startHeads, if_neg (by simp [htaken])]
      · exact ih (Nat.le_of_lt_succ (hshorter.trans_le hn))
    · next hs => simpa using hs

theorem startHeads_tail (n : Nat) {s : State} (h : TailWaits s.queue) : TailWaits (startHeads n s).queue := by
  induction n generalizing s with
  | zero => exact h
  | succ n ih =>
    unfold startHeads
    split
    exacts [ih (startHead_tail h), h]

/-- The end of an event, whatever came before it left nothing ACTIVE behind the head. -/
theorem settle_keepsHead {s u : State} (h : TailWaits s.queue → TailWaits u.queue) : KeepsHead s (settle u) := by
  have hheads : KeepsHead s (startHeads u.queue.length u) :=
    .of_taken (fun ht => startHeads_tail _ (h ht)) (startHeads_taken (Nat.le_refl _))
  exact hheads.trans ((internalCalibrationTest_keepsHead _).trans ((moveTest_keepsHead _).trans (primingTest_keepsHead _)))

/-- The end of an event in which entries only left the queue at its head. -/
theorem settle_keepsHead_of_suffix {s u : State} (h : u.queue <:+ s.queue) : KeepsHead s (settle u) :=
  settle_keepsHead fun ht => ht.of_suffix h

end Sys2Proof.Machine

/-! ## Every command keeps the Request Queue consistent (O50) -/

namespace Sys2Proof.Machine

/-! ### Readings, demands and requests -/

theorem readingEvent_keepsHead (r : Readings) (s : State) : KeepsHead s (readingEvent r s) := by
  rw [readingEvent_eq]
  exact settle_keepsHead_of_suffix (wearChanged_shortens (estimateTonnage_shortens
    (trampReading_shortens (activityReading_shortens (sensed_shortens r s) _ _) _) _))

theorem pulse_keepsHead (s : State) : KeepsHead s (settle (wearChanged (pulsed s))) := by
  have hpulsed : (pulsed s).queue <:+ s.queue := List.suffix_refl _
  exact settle_keepsHead_of_suffix (wearChanged_shortens hpulsed)

theorem windowClose_keepsHead (s : State) : KeepsHead s (windowClose s) := by
  have htaken : (historyTakes (closingSample s) (reopened s)).queue <:+ s.queue := by
    rw [historyTakes_frame]
    exact List.suffix_refl _
  rw [windowClose_eq]
  refine settle_keepsHead_of_suffix ?_
  unfold clearTakes
  split
  exacts [finishStopping_shortens htaken, htaken]

theorem takeStatus_keepsHead (source : Nat) (p : StatusPayload) (s : State) : KeepsHead s (takeStatus source p s) := by
  unfold takeStatus
  split
  · exact .refl s
  · split
    · have hnoted : KeepsHead s { s with peers.lastDuplicate := some s.seconds } := .plain
      exact hnoted.trans (report_keepsHead _ _ _)
    · split <;> exact .plain

theorem actDemand_keepsHead (p : DemandPayload) (c : Option Command) (s : State) : KeepsHead s (actDemand p c s) := by
  have hacted : (actCommand c (storeDemand p s)).queue <:+ s.queue :=
    actCommand_shortens (storeDemand_shortens (List.suffix_refl _) p) c
  unfold actDemand
  dsimp only
  split
  · exact settle_keepsHead_of_suffix hacted
  · next ha => exact .of_taken (·.of_suffix hacted) (Bool.eq_false_iff.2 fun hs => ha (State.headStartable_iff.1 hs).1)

theorem frameEnds_keepsHead (s : State) : KeepsHead s (frameEnds s) := .plain

theorem takeDemand_keepsHead (header : Address) (p : DemandPayload) (c : Option Command) (s : State) :
    KeepsHead s (takeDemand header p c s) :=
  takeDemand_of (.refl s) (frameEnds_keepsHead s) ((frameEnds_keepsHead s).trans (actDemand_keepsHead p c _))

theorem onRequest_keepsHead {header : Address} {act : State → State} {s : State}
    (h : s.active = true → KeepsHead (frameEnds s) (act (frameEnds s))) : KeepsHead s (onRequest header act s) := by
  by_cases ha : s.active = true
  · exact onRequest_of (.refl s) (frameEnds_keepsHead s) ((frameEnds_keepsHead s).trans (h ha))
  · rw [onRequest_discarded act (.inr (by simpa using ha))]
    exact frameEnds_keepsHead s

theorem answer_keepsHead (a : Answer) (s : State) : KeepsHead s (State.answer a s) := .plain

/-- An entry that arrives WAITING, behind whatever the queue holds. -/
theorem TailWaits.append {q : List Entry} {e : Entry} (h : TailWaits q) (he : e.active = false) : TailWaits (q ++ [e]) := by
  cases q with
  | nil => simp [TailWaits]
  | cons x rest =>
    intro f hf
    rcases List.mem_append.1 hf with hf | hf
    exacts [h f hf, List.mem_singleton.1 hf ▸ he]

theorem enqueue_keepsHead {e : Entry} (he : e.active = false) (s : State) : KeepsHead s (enqueue e s) := by
  rcases enqueue_cases e s with ⟨a, h⟩ | ⟨-, a, h⟩ <;> rw [h]
  · exact answer_keepsHead a s
  · exact settle_keepsHead (u := State.answer a (appended e s)) fun ht => ht.append he

/-- Entries that leave the queue from anywhere put nothing ACTIVE behind its head. -/
theorem TailWaits.filter {q : List Entry} (h : TailWaits q) (keep : Entry → Bool) : TailWaits (q.filter keep) := by
  cases q with
  | nil => exact h
  | cons e rest =>
    have hrest : ∀ f ∈ rest.filter keep, f.active = false := fun f hf => h f (List.mem_of_mem_filter hf)
    rw [List.filter_cons]
    split
    exacts [hrest, fun f hf => hrest f (List.mem_of_mem_drop hf)]

theorem cancelEntry_keepsHead (header : Address) (tag : BitVec 3) (argument : Word) (s : State) :
    KeepsHead s (cancelEntry header tag argument s) := by
  unfold cancelEntry
  split
  · exact answer_keepsHead _ s
  · refine settle_keepsHead fun ht => ?_
    split
    · rw [cancelActive_eq, answerNow, State.answer_queue, (cancelEffect_waiting _ _).1]
      exact ht.of_suffix (endActive_shortens (List.suffix_refl _) _)
    · exact ht.filter _

theorem holdFeed_keepsHead (header : Address) (tag : BitVec 3) {s : State} (hs : s.active = true) :
    KeepsHead s (holdFeed header tag s) := by
  unfold holdFeed
  split
  exacts [(enterRun_keepsHead rfl hs).trans (answer_keepsHead _ _), answer_keepsHead _ s]

theorem releaseFeed_keepsHead (header : Address) (tag : BitVec 3) {s : State} (hs : s.active = true) :
    KeepsHead s (releaseFeed header tag s) := by
  unfold releaseFeed
  split
  exacts [(enterRun_keepsHead rfl hs).trans (answer_keepsHead _ _), answer_keepsHead _ s]

theorem clearFault_keepsHead (header : Address) (tag : BitVec 3) (s : State) : KeepsHead s (clearFault header tag s) := by
  obtain ⟨-, -, -, hqueue, -⟩ := clearAccepted_fields s
  unfold clearFault
  split
  · exact answer_keepsHead _ s
  · exact settle_keepsHead_of_suffix (u := answerNow header tag (some .clearFault) .done (clearAccepted s))
      (hqueue ▸ List.suffix_refl s.queue)

/-! ### Timers, campaigns and the start sequence -/

theorem rampInterval_keepsHead (s : State) : KeepsHead s (rampInterval s) := by
  have hout : KeepsHead s (setOutput (rampOutput s) { s with drive.timer := some rampPeriod }) := .plain
  unfold rampInterval
  dsimp only
  split
  exacts [hout.trans (internalCalibrationTest_keepsHead _), hout]

theorem stall_keepsHead (s : State) : KeepsHead s (stall s) := by
  have hsame := List.suffix_refl s.queue
  unfold stall
  split
  · split
    exacts [.refl s, settle_keepsHead_of_suffix (moveStalls_shortens hsame _ _)]
  · split
    exacts [settle_keepsHead_of_suffix (stickAt_shortens (endActiveOf_shortens hsame _ _)), .refl s]
  · split
    exacts [.refl s, settle_keepsHead_of_suffix (stickAt_shortens hsame)]
  · exact .refl s

theorem seekLimitExpires_keepsHead (s : State) : KeepsHead s (seekLimitExpires s) := by
  unfold seekLimitExpires
  split
  · split
    exacts [settle_keepsHead_of_suffix (calibrationFails_shortens (List.suffix_refl _) _), .refl s]
  · exact .refl s

theorem updateActivity_calibrating_keepsHead (c : Calibration) (s : State) :
    KeepsHead s (updateActivity (.calibrating c) s) := by
  have hgap : (updateActivity (.calibrating c) s).gapState = .calibrating :=
    congrArg Activity.state (updateActivity_activity _ s)
  exact .of_gapState (by rw [updateActivity_frame]) (by simp [hgap]) (by simp [hgap])

theorem pulseOnEnds_keepsHead (s : State) : KeepsHead s (pulseOnEnds s) := by
  unfold pulseOnEnds
  split
  · split
    · split
      exacts [updateActivity_calibrating_keepsHead _ s, .refl s]
    · exact .refl s
  · exact .refl s

theorem pulseOffEnds_keepsHead (s : State) : KeepsHead s (pulseOffEnds s) := by
  unfold pulseOffEnds
  split
  · split
    · dsimp only
      split
      · exact .refl s
      · split
        exacts [settle_keepsHead_of_suffix (contact_shortens (List.suffix_refl _) _ _), updateActivity_calibrating_keepsHead _ s]
    · exact .refl s
  · exact .refl s

theorem campaignEnds_keepsHead (e : CampaignEnd) (c : Campaign) (s : State) : KeepsHead s (campaignEnds e c s) := by
  unfold campaignEnds
  extract_lets u v w
  have hu : u.queue <:+ s.queue := List.suffix_refl _
  have hv : v.queue <:+ s.queue := by
    unfold v
    split
    exacts [report_shortens hu _ _, hu]
  have hw : w.queue <:+ s.queue := linerChangeTakes_shortens hv _ _
  refine settle_keepsHead_of_suffix ?_
  rw [startPending_frame]
  exact hw

theorem wordReady_keepsHead (c : Campaign) (s : State) : KeepsHead s (wordReady c s) := by
  unfold wordReady
  split
  · exact campaignEnds_keepsHead _ _ _
  · split
    · have hcut : KeepsHead s (cutShort c s) := by
        rw [cutShort_frame]
        exact .plain
      exact hcut.trans (campaignEnds_keepsHead _ _ _)
    · exact .plain

/-! ### Every command -/

/-- Every command of an active station keeps the order of the queue's head. -/
theorem exec_keepsHead {c : Instr} {s t : State} (h : exec c s = .next t) (hs : s.active = true) : KeepsHead s t := by
  cases c with
  | reset =>
    cases h
    exact .of_nil rfl
  | startSequenceEnd straps memory =>
    cases h
    rw [if_neg fun hstart => by simp [State.active, hstart, RunState.active] at hs]
  | readingEvent r =>
    cases h
    rw [if_pos hs]
    exact readingEvent_keepsHead r s
  | beltScalePulse =>
    cases h
    split
    exacts [pulse_keepsHead s, .refl s]
  | windowClose =>
    cases h
    rw [if_pos hs]
    exact windowClose_keepsHead s
  | statusArrival header own p =>
    cases h
    refine onFrame_of (.refl s) ?_
    split
    exacts [(frameEnds_keepsHead s).trans (takeStatus_keepsHead _ _ _), frameEnds_keepsHead s]
  | demand header p | run header p | stop header p =>
    cases h
    exact takeDemand_keepsHead _ _ _ s
  | setGap | calibrate | linerChange =>
    cases h
    exact onRequest_keepsHead fun _ => enqueue_keepsHead rfl _
  | cancel header tag argument =>
    cases h
    exact onRequest_keepsHead fun _ => cancelEntry_keepsHead _ _ _ _
  | holdFeed header tag =>
    cases h
    exact onRequest_keepsHead fun ha => holdFeed_keepsHead _ _ (s := frameEnds s) ha
  | releaseFeed header tag =>
    cases h
    exact onRequest_keepsHead fun ha => releaseFeed_keepsHead _ _ (s := frameEnds s) ha
  | clearFault header tag =>
    cases h
    exact onRequest_keepsHead fun _ => clearFault_keepsHead _ _ _
  | queryFault | queryWear | queryShare | queryQueue | badKind =>
    cases h
    exact onRequest_keepsHead fun _ => answer_keepsHead _ _
  | answerFrameReceived | frameDiscarded =>
    cases h
    exact onFrame_of (.refl s) (frameEnds_keepsHead s)
  | rampInterval =>
    cases h
    rw [if_pos hs]
    exact rampInterval_keepsHead s
  | motorRunningFall =>
    cases h
    have hfallen : KeepsHead s { s with motorRunning := false } := .plain
    dsimp only
    split
    exacts [hfallen.trans (report_keepsHead _ _ _), hfallen]
  | motorRunningRise =>
    cases h
    have hrisen : KeepsHead s { s with motorRunning := true } := .plain
    exact hrisen.trans (internalCalibrationTest_keepsHead _)
  | primingTimerExpiry =>
    cases h
    have hstopped : KeepsHead s { s with run.primingTimer := none } := .plain
    split
    exacts [hstopped.trans (report_keepsHead _ _ _), .refl s]
  | clearTimerExpiry =>
    cases h
    split
    exacts [finishStopping_keepsHead hs, .refl s]
  | stallTimerExpiry =>
    cases h
    split
    exacts [stall_keepsHead s, .refl s]
  | seekLimitExpiry =>
    cases h
    split
    exacts [seekLimitExpires_keepsHead s, .refl s]
  | seekPulseOnEnd =>
    cases h
    split
    exacts [pulseOnEnds_keepsHead s, .refl s]
  | seekPulseOffEnd =>
    cases h
    split
    exacts [pulseOffEnds_keepsHead s, .refl s]
  | settleTimerExpiry =>
    cases h
    split
    · rw [if_pos hs]
      exact settle_keepsHead_of_suffix (reliefEnds_shortens (List.suffix_refl _))
    · exact .refl s
  | readyTimerExpiry =>
    cases h
    split
    · next c _ =>
      have hgiven : KeepsHead s (giveUpWord c s) := .plain
      exact hgiven.trans (campaignEnds_keepsHead _ _ _)
    · exact .refl s
  | wordReady =>
    cases h
    have hfinished : KeepsHead s { s with memory := s.memory.finish } := .plain
    dsimp only
    split
    exacts [hfinished.trans (wordReady_keepsHead _ _), hfinished]
  | supplyLowRise =>
    cases h
    dsimp only
    split
    · exact .plain
    · have hcut : KeepsHead s { s with
          supplyLow := true, interface.campaign := s.interface.campaign.map (fun c => { c with cutOff := true }) } := .plain
      exact hcut.trans (report_keepsHead _ _ _)
  | supplyLowFall =>
    cases h
    rw [startPending_frame]
    exact .plain
  | ageingEvent | sharePeriodExpiry =>
    cases h
    rw [if_pos hs]
    exact .plain
  | reportTimerExpiry | transmitAttempt =>
    cases h
    split <;> exact .plain
  | frameSent | collision =>
    cases h
    split
    · split <;> exact .plain
    · exact .refl s
  | lineIdle =>
    cases h
    exact .plain

/-! ### The entries of the queue (R142, R143) -/

/-- The queue's entries alone: at most 4, no two of one requester and tag (R142, R143). -/
def QueueFits (q : List Entry) : Prop := q.length ≤ 4 ∧ (q.map Entry.key).Nodup

/-- Entries that only leave the queue, or become ACTIVE. -/
theorem QueueFits.of_keys {p q : List Entry} (h : QueueFits q) (hp : (p.map Entry.key).Sublist (q.map Entry.key)) :
    QueueFits p :=
  ⟨by simpa using hp.length_le.trans (by simpa using h.1), h.2.sublist hp⟩

theorem holdsTag_iff {requester : Byte} {tag : BitVec 3} {q : List Entry} :
    holdsTag requester tag q = true ↔ ∃ e ∈ q, e.requester = requester ∧ e.tag = tag := by
  simp [holdsTag]

/-- An arrival that is not refused finds room in the queue and no entry of its requester and tag (R143). -/
theorem queuedRefusal_none {k : QueuedKind} {requester : Byte} {tag : BitVec 3} {s : State}
    (h : queuedRefusal k requester tag s = none) :
    holdsTag requester tag s.queue = false ∧ s.queue.length < 4 := by
  unfold queuedRefusal at h
  split at h
  · cases h
  · split at h
    · cases h
    · next htag =>
      split at h
      · cases h
      · next hroom => exact ⟨by simpa using htag, by omega⟩

theorem QueueFits.append {q : List Entry} {e : Entry} (h : QueueFits q) (htag : holdsTag e.requester e.tag q = false)
    (hroom : q.length < 4) : QueueFits (q ++ [e]) := by
  have hfresh : e.key ∉ q.map Entry.key := fun hmem => by
    obtain ⟨f, hf, hkey⟩ := List.mem_map.1 hmem
    obtain ⟨hrequester, hsame⟩ := Prod.ext_iff.1 hkey
    exact Bool.eq_false_iff.1 htag (holdsTag_iff.2 ⟨f, hf, hrequester, hsame⟩)
  refine ⟨by simpa using hroom, ?_⟩
  rw [List.map_append]
  exact List.nodup_append.2 ⟨h.2, List.nodup_singleton _, fun a ha b hb hab =>
    hfresh (List.mem_singleton.1 hb ▸ hab ▸ ha)⟩

theorem enqueue_fits (e : Entry) {s : State} (h : QueueFits s.queue) : QueueFits (enqueue e s).queue := by
  unfold enqueue
  dsimp only
  split
  · exact h
  · next hr =>
    obtain ⟨htag, hroom⟩ := queuedRefusal_none hr
    have happended : QueueFits (State.answer (plainAnswer e.requester e.tag (some e.kind.request) .queued) (appended e s)).queue :=
      h.append htag hroom
    exact happended.of_keys (settle_tame (.refl _)).keys

/-- Every command leaves at most 4 entries, no two of one requester and tag. -/
theorem exec_fits {c : Instr} {s t : State} (h : exec c s = .next t) (hs : QueueFits s.queue) : QueueFits t.queue := by
  cases c with
  | reset =>
    cases h
    exact hs.of_keys (List.nil_sublist _)
  | setGap | calibrate | linerChange =>
    cases h
    exact onRequest_of (P := fun t => QueueFits t.queue) hs hs (enqueue_fits _ (s := frameEnds s) hs)
  | rampInterval =>
    obtain ⟨a, he⟩ := exec_rampInterval_eases h
    exact hs.of_keys he.keys
  | sharePeriodExpiry =>
    obtain ⟨r, he⟩ := exec_sharePeriodExpiry_eases h
    exact hs.of_keys he.keys
  | frameSent =>
    rw [exec_frameSent_frame h]
    exact hs
  | _ => exact hs.of_keys (exec_eases h rfl).keys

/-- Before the queue is active it takes no request, so it stays empty (R142). -/
theorem exec_queue_nil {c : Instr} {s t : State} (h : exec c s = .next t) (hs : s.active = false) (hq : s.queue = []) :
    t.queue = [] := by
  cases c with
  | reset =>
    cases h
    rfl
  | setGap | calibrate | linerChange =>
    cases h
    rw [onRequest_discarded _ (.inr hs)]
    exact hq
  | rampInterval =>
    obtain ⟨a, he⟩ := exec_rampInterval_eases h
    exact he.queue_nil hq
  | sharePeriodExpiry =>
    obtain ⟨r, he⟩ := exec_sharePeriodExpiry_eases h
    exact he.queue_nil hq
  | frameSent =>
    rw [exec_frameSent_frame h]
    exact hq
  | _ => exact (exec_eases h rfl).queue_nil hq

/-! ### The invariant (O50) -/

theorem queueSafe_of_nil {s : State} (h : s.queue = []) : QueueSafe s := by
  simp [QueueSafe, h, State.headStartable_of_nil]

theorem exec_queueSafe {c : Instr} {s t : State} (h : exec c s = .next t) (hs : QueueSafe s) : QueueSafe t := by
  obtain ⟨hlength, htail, hkeys, hinactive, hhead⟩ := hs
  by_cases ha : s.active = true
  · by_cases hr : c = .reset
    · subst hr
      cases h
      exact queueSafe_of_nil rfl
    · have hkeeps := exec_keepsHead h ha
      obtain ⟨hlength', hkeys'⟩ := exec_fits h ⟨hlength, hkeys⟩
      refine ⟨hlength', hkeeps.tail htail, hkeys', fun hoff => ?_, hkeeps.taken htail hhead⟩
      simp [exec_active h hr ha] at hoff
  · have hoff : s.active = false := by simpa using ha
    exact queueSafe_of_nil (exec_queue_nil h hoff (hinactive hoff))

/-- A millisecond leaves the queue and the gap state (log entry 2). -/
theorem tick_queueSafe {s : State} (h : QueueSafe s) : QueueSafe (tick s) := by
  obtain ⟨hlength, htail, hkeys, hinactive, hhead⟩ := h
  exact ⟨hlength, htail, hkeys, hinactive, (KeepsHead.plain (hg := tick_gapState s)).taken htail hhead⟩

/-- Settles O50: a millisecond leaves the queue, and every command keeps its entries (`exec_fits`) and the order of its head
(`exec_keepsHead`). -/
theorem requestQueueStaysConsistent : Obligations.RequestQueueStaysConsistent := by
  unfold Obligations.RequestQueueStaysConsistent
  intro s t hs h
  unfold step at h
  split at h
  · cases h
    exact tick_queueSafe hs
  · exact exec_queueSafe h hs

end Sys2Proof.Machine

/-! ## Immediate answers: HOLD_FEED, RELEASE_FEED, queued kinds at their arrival, QUERY and BAD_KIND (O23, O43, O49) -/

namespace Sys2Proof.Machine

/-! ### HOLD_FEED and RELEASE_FEED (R47, R147) -/

section
variable (header : Address) (tag : BitVec 3) {s : State}

theorem holdFeed_of_running (h : s.run.state = .running) :
    holdFeed header tag s = answerNow header tag (some .holdFeed) .done (changeRun .held s) := by
  rw [holdFeed, if_pos h, enterRun_of_required _ (by rw [h]; rfl)]

theorem holdFeed_of_not_running (h : s.run.state ≠ .running) :
    holdFeed header tag s = answerNow header tag (some .holdFeed) (.refused .notRunning) s := if_neg h

theorem releaseFeed_of_held (h : s.run.state = .held) :
    releaseFeed header tag s = answerNow header tag (some .releaseFeed) .done (changeRun .running s) := by
  rw [releaseFeed, if_pos h, enterRun_of_required _ (by rw [h]; rfl)]

theorem releaseFeed_of_not_held (h : s.run.state ≠ .held) :
    releaseFeed header tag s = answerNow header tag (some .releaseFeed) (.refused .notHeld) s := if_neg h

end

/-- Between RUNNING and HELD the feeder's setpoint stays, and its output wherever the gap state feeds (R47, R84). -/
theorem changeRun_feeder_of_motor {r : RunState} (hr : r = .running ∨ r = .held) (s : State) :
    (changeRun r s).drive.setpoint = s.drive.setpoint ∧
      (s.gapState.feeds = true → (changeRun r s).drive.output = s.drive.output) := by
  refine ⟨?_, fun hf => changeRun_output_of_feeding ?_⟩ <;> rcases hr with rfl | rfl
  exacts [by simp, by simp, by simp [driveModeOf, hf], by simp [driveModeOf, hf]]

/-- Settles O23: a request that is taken changes the run state between RUNNING and HELD, and any other is only answered. -/
theorem holdAndReleaseFeed : Obligations.HoldAndReleaseFeed := by
  unfold Obligations.HoldAndReleaseFeed
  intro header tag s haddressed hactive hreceiver reply
  have hhold : exec (.holdFeed header tag) s = .next (holdFeed header tag (frameEnds s)) :=
    congrArg Host.Outcome.next (onRequest_taken _ haddressed hactive hreceiver)
  have hrelease : exec (.releaseFeed header tag) s = .next (releaseFeed header tag (frameEnds s)) :=
    congrArg Host.Outcome.next (onRequest_taken _ haddressed hactive hreceiver)
  have hline : ∀ r k o, (answerNow header tag (some k) o (changeRun r (frameEnds s))).line = reply k o := fun r k o =>
    congrArg (fun l => LinePort.push l _) (changeRun_line r (frameEnds s))
  refine ⟨fun hrun => ?_, fun hrun => ?_, fun hrun => ?_, fun hrun => ?_⟩
  · obtain ⟨hsetpoint, houtput⟩ := changeRun_feeder_of_motor (.inr rfl) (frameEnds s)
    have hhistory : (changeRun .held (frameEnds s)).gap.history = [] := by
      rw [changeRun_frame]
      exact if_pos hrun
    refine ⟨_, hhold.trans (congrArg _ (holdFeed_of_running header tag (s := frameEnds s) hrun)), changeRun_state _ _,
      hline _ _ _, changeRun_queue _ _, changeRun_capacity (by simp) _, hhistory, hsetpoint, houtput⟩
  · rw [hhold, holdFeed_of_not_running header tag (s := frameEnds s) hrun]
    rfl
  · obtain ⟨hsetpoint, houtput⟩ := changeRun_feeder_of_motor (.inl rfl) (frameEnds s)
    exact ⟨_, hrelease.trans (congrArg _ (releaseFeed_of_held header tag (s := frameEnds s) hrun)), changeRun_state _ _,
      hline _ _ _, changeRun_queue _ _, hsetpoint, houtput⟩
  · rw [hrelease, releaseFeed_of_not_held header tag (s := frameEnds s) hrun]
    rfl

/-! ### A queued kind at its arrival (R143, R144) -/

theorem enqueue_of_refused {e : Entry} {s : State} {r : RefuseCode}
    (h : queuedRefusal e.kind e.requester e.tag s = some r) :
    enqueue e s = State.answer (plainAnswer e.requester e.tag (some e.kind.request) (.refused r)) s := by
  rw [enqueue, h]

theorem enqueue_of_accepted {e : Entry} {s : State} (h : queuedRefusal e.kind e.requester e.tag s = none) :
    enqueue e s = settle (State.answer (plainAnswer e.requester e.tag (some e.kind.request) .queued) (appended e s)) := by
  rw [enqueue, h]
  rfl

/-- While the gap is neither HOLDING nor STUCK an entry that is accepted waits at the tail (R144). -/
theorem enqueue_of_busy {e : Entry} {s : State} (h : queuedRefusal e.kind e.requester e.tag s = none)
    (h1 : s.gapState ≠ .holding) (h2 : s.gapState ≠ .stuck) :
    enqueue e s = State.answer (plainAnswer e.requester e.tag (some e.kind.request) .queued) (appended e s) := by
  rw [enqueue_of_accepted h]
  exact settle_of_busy h1 h2

section
variable {k : QueuedKind} {requester : Byte} {tag : BitVec 3} {s : State}

theorem queuedRefusal_of_state {r : RefuseCode} (h : stateRefusal k s = some r) :
    queuedRefusal k requester tag s = some r := by
  rw [queuedRefusal, h]

/-- A kind that the station's state allows is tested for its tag, then for room (R143). -/
theorem queuedRefusal_of_allowed (h : stateRefusal k s = none) :
    queuedRefusal k requester tag s =
      if ∃ e ∈ s.queue, e.requester = requester ∧ e.tag = tag then some .duplicateTag
      else if 4 ≤ s.queue.length then some .queueFull
      else none := by
  rw [queuedRefusal, h]
  exact if_congr holdsTag_iff rfl rfl

end

theorem Reference.present_iff {r : Reference} : r.present = true ↔ r ≠ .unreferenced := by
  cases r <;> simp [Reference.present, Reference.contact?]

/-- Settles O43: the tests of R143 in their order (`queuedRefusal_of_state`, `queuedRefusal_of_allowed`), and an entry that is
accepted while nothing may start. -/
theorem queuedRequestsAtArrival : Obligations.QueuedRequestsAtArrival := by
  unfold Obligations.QueuedRequestsAtArrival
  intro header tag noRetry argument s haddressed hactive hreceiver command forbidden answered entry k
  have hkind : (entry k).kind = k := rfl
  have hexec : exec (command k) s = .next (enqueue (entry k) (frameEnds s)) := by
    cases k <;> exact congrArg Host.Outcome.next (onRequest_taken _ haddressed hactive hreceiver)
  have hforbidden : forbidden k = stateRefusal k (frameEnds s) := by
    cases k with
    | setGap =>
      refine if_congr Iff.rfl rfl ?_
      rw [← ite_not]
      exact if_congr Reference.present_iff.symm rfl rfl
    | calibrate | linerChange => rfl
  have hrefused : ∀ code, queuedRefusal (entry k).kind (entry k).requester (entry k).tag (frameEnds s) = some code →
      exec (command k) s = .next { s with line := answered k (.refused code) } := fun code hcode => by
    rw [hexec, enqueue_of_refused hcode]
    rfl
  refine ⟨fun code hcode => hrefused code (queuedRefusal_of_state (hforbidden.symm.trans hcode)), fun hallowed => ?_⟩
  have htests := queuedRefusal_of_allowed (k := (entry k).kind) (requester := header.source) (tag := tag)
    (hforbidden.symm.trans hallowed)
  split
  · next hheld => exact hrefused _ (htests.trans (if_pos hheld))
  · next hfree =>
    split
    · next hfull => exact hrefused _ (htests.trans ((if_neg hfree).trans (if_pos hfull)))
    · next hroom =>
      intro hholding hstuck
      have haccepted := htests.trans ((if_neg hfree).trans (if_neg hroom))
      rw [hexec, enqueue_of_busy (e := entry k) haccepted hholding hstuck]
      rfl

/-! ### QUERY and BAD_KIND (R143, R149) -/

/-- Each of the codes 1..8 names a kind (section 12.6). -/
theorem requestCode_onto {n : Nat} (h1 : 1 ≤ n) (h8 : n ≤ 8) : ∃ k, requestCode (some k) = n := by
  interval_cases n
  exacts [⟨.setGap, rfl⟩, ⟨.calibrate, rfl⟩, ⟨.linerChange, rfl⟩, ⟨.cancel, rfl⟩, ⟨.holdFeed, rfl⟩, ⟨.releaseFeed, rfl⟩,
    ⟨.clearFault, rfl⟩, ⟨.query, rfl⟩]

/-- The kind that a byte names has the byte as its code; a byte outside 1..8 names none, and none has code 0 (section 12.6). -/
theorem requestCode_requestKindOf (b : Byte) :
    requestCode (requestKindOf b) = if 1 ≤ b.toNat ∧ b.toNat ≤ 8 then b.toNat else 0 := by
  cases hk : requestKindOf b with
  | some k =>
    have hcode : requestCode (some k) = b.toNat := by simpa using List.find?_some hk
    have hrange : 1 ≤ requestCode (some k) ∧ requestCode (some k) ≤ 8 := by cases k <;> decide
    rw [if_pos (hcode ▸ hrange), hcode]
  | none =>
    refine (if_neg fun hrange => ?_).symm
    obtain ⟨k, hcode⟩ := requestCode_onto hrange.1 hrange.2
    have hnone := List.find?_eq_none.1 hk k (by cases k <;> simp)
    exact hnone (decide_eq_true hcode)

/-- Settles O49: a QUERY is answered with its record, and a kind that is none of the eight under its own code. -/
theorem queriesAndBadKindsAreAnsweredOnce : Obligations.QueriesAndBadKindsAreAnsweredOnce := by
  unfold Obligations.QueriesAndBadKindsAreAnsweredOnce
  intro header tag code argument s haddressed hactive hreceiver l returned
  have htaken : ∀ act : State → State, Host.Outcome.next (φ := Fault) (ρ := Refusal) (onRequest header act s) =
      .next (act (frameEnds s)) := fun act => congrArg Host.Outcome.next (onRequest_taken act haddressed hactive hreceiver)
  have hworn : (frameEnds s).linerWorn = decide (s.settings.linerWearLimit ≤ s.gap.linerWear) := by
    change (s.active && _) = _
    rw [hactive]
    rfl
  refine ⟨htaken _, ?_, htaken _, htaken _, requestKindOf code, requestCode_requestKindOf code, htaken _⟩
  rw [← hworn]
  exact htaken _

end Sys2Proof.Machine

/-! ## The Line Port in its bounds (O52) -/

namespace Sys2Proof.Machine

/-! ### The bounds of a Line Port (R153, R155, R157) -/

/-- The bounds of `LineSafe`, of the Line Port alone: the answers have room, none waits while the transmitter is idle, and backoff
and collision count are in their ranges. -/
structure LinePort.Safe (l : LinePort) : Prop where
  room       : l.answers.length ≤ 6
  carried    : l.inFlight = none → l.answers = [] ∧ l.slot = none
  backoff    : l.backoff ≤ 15
  collisions : l.inFlight ≠ none → l.collisions ≤ 7

theorem lineSafe_iff {s : State} : LineSafe s ↔ s.line.Safe :=
  ⟨fun ⟨hroom, hcarried, hbackoff, hcollisions⟩ => ⟨hroom, hcarried, hbackoff, hcollisions⟩,
    fun ⟨hroom, hcarried, hbackoff, hcollisions⟩ => ⟨hroom, hcarried, hbackoff, hcollisions⟩⟩

/-- The bounds say nothing of the receiver, the report timer and the congestion flag. -/
theorem LinePort.Safe.plain {l m : LinePort} (h : l.Safe) (hi : m.inFlight = l.inFlight := by rfl)
    (hc : m.collisions = l.collisions := by rfl) (hb : m.backoff = l.backoff := by rfl) (hs : m.slot = l.slot := by rfl)
    (ha : m.answers = l.answers := by rfl) : m.Safe where
  room := ha ▸ h.room
  carried hn := ha ▸ hs ▸ h.carried (hi ▸ hn)
  backoff := hb ▸ h.backoff
  collisions hn := hc ▸ h.collisions (hi ▸ hn)

/-- A transmitter takes nothing, or a frame that starts with its counts at 0 (R153). -/
theorem LinePort.takeNext_cases (l : LinePort) :
    l.takeNext = l ∨ (l.takeNext.collisions = 0 ∧ l.takeNext.backoff = 0) := by
  unfold LinePort.takeNext
  split
  exacts [.inr ⟨rfl, rfl⟩, .inr ⟨rfl, rfl⟩, .inl rfl]

/-- The next frame taken leaves the bounds, whatever waited for an idle transmitter. -/
theorem LinePort.takeNext_safe {l : LinePort} (hroom : l.answers.length ≤ 6) (hbackoff : l.backoff ≤ 15)
    (hcollisions : l.inFlight ≠ none → l.collisions ≤ 7) : l.takeNext.Safe where
  room := l.takeNext_answers_length.trans hroom
  carried := l.takeNext_conserves
  backoff := by
    rcases l.takeNext_cases with h | ⟨-, h⟩ <;> rw [h]
    exacts [hbackoff, Nat.zero_le _]
  collisions hn := by
    rcases l.takeNext_cases with h | ⟨h, -⟩ <;> rw [h]
    exacts [hcollisions (h ▸ hn), Nat.zero_le _]

theorem LinePort.lose_safe {l : LinePort} (h : l.Safe) : l.lose.Safe where
  room := h.room
  carried hn := by
    obtain ⟨hanswers, hslot⟩ := h.carried (by simpa [LinePort.lose] using hn)
    exact ⟨hanswers, by simp [LinePort.lose, hslot]⟩
  backoff := h.backoff
  collisions hn := h.collisions (by simpa [LinePort.lose] using hn)

theorem LinePort.push_safe {l : LinePort} (a : Answer) (h : l.Safe) : (l.push a).Safe := by
  by_cases hroom : l.answers.length < 6
  · rw [LinePort.push_room a hroom]
    exact LinePort.takeNext_safe (by simpa using hroom) h.backoff h.collisions
  · rw [LinePort.push_full a (Nat.le_of_not_lt hroom)]
    exact LinePort.lose_safe h

/-! ### An answer handed on (R153, R157, R158) -/

/-- A busy transmitter leaves the answer at the tail of the queue. -/
theorem LinePort.push_busy {l : LinePort} (a : Answer) (hroom : l.answers.length < 6) (hbusy : l.inFlight ≠ none) :
    l.push a = { l with answers := l.answers ++ [a] } := by
  obtain ⟨f, hf⟩ := Option.ne_none_iff_exists'.1 hbusy
  rw [LinePort.push_room a hroom]
  exact LinePort.takeNext_busy (l := { l with answers := l.answers ++ [a] }) hf

/-- An idle transmitter with no answer waiting takes the answer at once. -/
theorem LinePort.push_idle {l : LinePort} (a : Answer) (hidle : l.inFlight = none) (hnone : l.answers = []) :
    l.push a = { l with inFlight := some { frame := .answer a, driving := false }, collisions := 0, backoff := 0 } := by
  rw [LinePort.push_room a (by simp [hnone]),
    LinePort.takeNext_answer (l := { l with answers := l.answers ++ [a] }) (a := a) (rest := []) hidle (by simp [hnone]),
    ← hnone]

/-! ### What an event may hand on -/

/-- The Line Port `m` is `l` after a run of answers, each of which has joined the answer queue or was lost (R157). -/
abbrev HandsOn : LinePort → LinePort → Prop := Relation.ReflTransGen fun l m => ∃ a, m = l.push a

theorem HandsOn.push {l m : LinePort} (h : HandsOn l m) (a : Answer) : HandsOn l (m.push a) := h.tail ⟨a, rfl⟩

theorem HandsOn.pushAll {l m : LinePort} (h : HandsOn l m) (f : Entry → Answer) (es : List Entry) :
    HandsOn l (es.foldl (fun l e => l.push (f e)) m) := by
  induction es generalizing m with
  | nil => exact h
  | cons e rest ih => exact ih (h.push (f e))

/-- A run of answers keeps the bounds. -/
theorem HandsOn.safe {l m : LinePort} (h : HandsOn l m) (hl : l.Safe) : m.Safe := by
  induction h with
  | refl => exact hl
  | tail _ hpush ih =>
    obtain ⟨a, rfl⟩ := hpush
    exact LinePort.push_safe a ih

/-! ### The shared operations do nothing to the Line Port but hand on answers -/

section
variable {l : LinePort} {s : State} (h : HandsOn l s.line)
include h

theorem updateActivity_handsOn (act : Activity) : HandsOn l (updateActivity act s).line := by
  rwa [updateActivity_frame]

theorem setActivity_handsOn (act : Activity) : HandsOn l (setActivity act s).line := by rwa [setActivity_line]

theorem arrive_handsOn : HandsOn l (arrive s).line := by rwa [arrive, setActivity_line]

theorem holdW_handsOn : HandsOn l (holdW s).line := by rwa [holdW_frame]

theorem restW_handsOn : HandsOn l (restW s).line := by rwa [restW_frame]

theorem changeRun_handsOn (r : RunState) : HandsOn l (changeRun r s).line := by rwa [changeRun_line]

theorem requestRecord_handsOn : HandsOn l (requestRecord s).line := by rwa [requestRecord_frame]

theorem finishStopping_handsOn : HandsOn l (finishStopping s).line :=
  requestRecord_handsOn (changeRun_handsOn h .idle)

/-! #### Entries that end (R145, R150) -/

theorem endActive_handsOn (o : AnswerOutcome) : HandsOn l (endActive o s).line := by
  unfold endActive
  split
  · split
    exacts [h.push _, h]
  · exact h

theorem endActiveOf_handsOn (k : QueuedKind) (o : AnswerOutcome) : HandsOn l (endActiveOf k o s).line := by
  unfold endActiveOf
  split
  exacts [endActive_handsOn h o, h]

theorem trip_handsOn : HandsOn l (trip s).line := by
  have hflushed : HandsOn l (flushQueue s).line := h.pushAll _ _
  rw [trip, changeRun_line]
  unfold endForTrip
  split
  exacts [setActivity_handsOn hflushed _, setActivity_handsOn hflushed _, hflushed]

theorem report_handsOn (k : FaultKind) (trips : Bool) : HandsOn l (report k trips s).line := by
  unfold report
  split
  exacts [trip_handsOn (s := noteFault k s) h, h]

theorem enterRun_handsOn (r : RunState) : HandsOn l (enterRun r s).line := by
  have hchanged := changeRun_handsOn h r
  unfold enterRun
  split
  exacts [report_handsOn hchanged _ _, hchanged]

/-! #### Arrivals (R100, R125, R139) -/

theorem endSetGapReached_handsOn : HandsOn l (endSetGapReached s).line := by
  unfold endSetGapReached
  split
  · split
    exacts [endActive_handsOn h _, h]
  · exact h

theorem moveCrossing_handsOn : HandsOn l (moveCrossing s).line := by
  rcases moveCrossing_cases s with h' | ⟨-, h'⟩ <;> rw [h']
  exacts [h, endSetGapReached_handsOn (arrive_handsOn h)]

theorem backingArrival_handsOn : HandsOn l (backingArrival s).line := by
  unfold backingArrival
  split
  · split
    · split
      exacts [endActiveOf_handsOn (arrive_handsOn h) _ _, h]
    · exact h
  · exact h

theorem reclosingArrival_handsOn : HandsOn l (reclosingArrival s).line := by
  unfold reclosingArrival
  split
  · split
    exacts [arrive_handsOn h, h]
  · exact h

theorem reversalTest_handsOn : HandsOn l (reversalTest s).line := by
  rcases reversalTest_cases s with h' | ⟨m, -, m', h'⟩ <;> rw [h']
  exacts [h, updateActivity_handsOn h _]

theorem wearChanged_handsOn : HandsOn l (wearChanged s).line := by
  unfold wearChanged
  split
  exacts [reversalTest_handsOn (moveCrossing_handsOn h), h]

theorem targetChanged_handsOn : HandsOn l (targetChanged s).line := by
  have hmoved : HandsOn l (targetMoved s).line := by
    unfold targetMoved
    split
    exacts [holdW_handsOn h, h]
  rw [targetChanged_eq]
  unfold testW
  split
  exacts [moveCrossing_handsOn hmoved, backingArrival_handsOn hmoved, reclosingArrival_handsOn hmoved, hmoved]

/-! #### Reference, contact and the end of a calibration (R115, R123, R124) -/

theorem setReference_handsOn (r : Reference) : HandsOn l (setReference r s).line := by
  unfold setReference
  extract_lets _ u v
  have hu : HandsOn l u.line := holdW_handsOn h
  have hv : HandsOn l v.line := by
    unfold v
    split
    exacts [setActivity_handsOn hu _, hu]
  split
  · exact hu
  · split
    exacts [changeRun_handsOn hv _, hv]

theorem contact_handsOn (k : CalKind) (p : Nat) : HandsOn l (contact k p s).line := by
  have htaken : HandsOn l (contactTaken p s).line :=
    requestRecord_handsOn (setReference_handsOn (s := contactNoted p s) h _)
  rwa [contact_eq, updateActivity_frame]

theorem calibrationFails_handsOn (k : CalKind) : HandsOn l (calibrationFails k s).line := by
  have hstopped : HandsOn l (stopCalibration s).line := setActivity_handsOn h _
  cases k with
  | internal => exact report_handsOn hstopped _ _
  | requested => exact endActiveOf_handsOn (report_handsOn hstopped _ _) _ _

/-! #### The start of a head and the end of an event (R42, R99, R120, R144) -/

theorem startSetGap_handsOn (e : Entry) : HandsOn l (startSetGap e s).line := by
  unfold startSetGap
  extract_lets asked
  split
  · exact endActive_handsOn h _
  · split
    · exact holdW_handsOn (endActive_handsOn h _)
    · split
      exacts [endActive_handsOn (s := setAfresh { s with gap.target := asked }) h _, h]

theorem startRequestedCalibration_handsOn : HandsOn l (startRequestedCalibration s).line := by
  unfold startRequestedCalibration
  split
  exacts [setActivity_handsOn h _, endActive_handsOn h _]

theorem startLinerChange_handsOn : HandsOn l (startLinerChange s).line := by
  have hcleared : ∀ u : State, u.line = s.line → HandsOn l (requestRecord (setReference .unreferenced u)).line :=
    fun u hu => requestRecord_handsOn (setReference_handsOn (hu ▸ h) _)
  exact hcleared _ rfl

theorem startHead_handsOn : HandsOn l (startHead s).line := by
  unfold startHead
  split
  · exact h
  · dsimp only
    split
    exacts [startSetGap_handsOn (s := { s with queue := activateHead s.queue }) h _,
      startRequestedCalibration_handsOn (s := { s with queue := activateHead s.queue }) h,
      startLinerChange_handsOn (s := { s with queue := activateHead s.queue }) h]

omit h in
theorem startHeads_handsOn (n : Nat) {s : State} (h : HandsOn l s.line) : HandsOn l (startHeads n s).line := by
  induction n generalizing s with
  | zero => exact h
  | succ n ih =>
    unfold startHeads
    split
    exacts [ih (startHead_handsOn h), h]

theorem internalCalibrationTest_handsOn : HandsOn l (internalCalibrationTest s).line := by
  unfold internalCalibrationTest
  split
  exacts [setActivity_handsOn h _, h]

theorem moveTest_handsOn : HandsOn l (moveTest s).line := by
  unfold moveTest
  split
  · split
    exacts [setActivity_handsOn h _, h]
  · exact h

theorem primingTest_handsOn : HandsOn l (primingTest s).line := by
  unfold primingTest
  split
  exacts [enterRun_handsOn h _, h]

theorem settle_handsOn : HandsOn l (settle s).line :=
  primingTest_handsOn (moveTest_handsOn (internalCalibrationTest_handsOn (startHeads_handsOn _ h)))

end

end Sys2Proof.Machine

/-! ## Every event hands on answers only, but for the Line Port's own (O52) -/

namespace Sys2Proof.Machine

section
variable {l : LinePort} {s : State} (h : HandsOn l s.line)
include h

/-! ### Readings and window close -/

theorem calibrationReading_handsOn (pressure : Option Nat) (c : Calibration) (x : Nat) :
    HandsOn l (calibrationReading pressure c x s).line := by
  unfold calibrationReading
  split
  · split
    exacts [updateActivity_handsOn h _, h]
  · split
    · exact contact_handsOn h _ _
    · split
      exacts [calibrationFails_handsOn h _, h]
  · have harrived := backingArrival_handsOn h
    dsimp only
    split
    · split
      exacts [updateActivity_handsOn harrived _, harrived]
    · exact harrived

theorem activityReading_handsOn (pressure position : Option Nat) :
    HandsOn l (activityReading pressure position s).line := by
  unfold activityReading
  split
  · unfold settleReading
    split <;> exact updateActivity_handsOn h _
  · have hcrossed := moveCrossing_handsOn h
    unfold moveReading
    dsimp only
    split
    exacts [updateActivity_handsOn hcrossed _, hcrossed]
  · have harrived := reclosingArrival_handsOn h
    unfold reclosingReading
    dsimp only
    split
    exacts [updateActivity_handsOn harrived _, harrived]
  · exact calibrationReading_handsOn h _ _ _
  · exact h

theorem breakInput_handsOn {u : State} {c : Prop} [Decidable c] (k : FaultKind) (trips : Bool) (hu : u.line = s.line) :
    HandsOn l (if c then report k trips u else s).line := by
  split
  exacts [report_handsOn (hu ▸ h) _ _, h]

theorem breakChecks_handsOn (r : Readings) : HandsOn l (breakChecks r s).line := by
  have hpower : ∀ ok, HandsOn l (breakPower ok s).line := fun _ => by
    unfold breakPower; exact breakInput_handsOn h _ _ rfl
  have hpressure : ∀ ok u, HandsOn l u.line → HandsOn l (breakPressure ok u).line := fun _ _ h => by
    unfold breakPressure; exact breakInput_handsOn h _ _ rfl
  have hcavity : ∀ ok u, HandsOn l u.line → HandsOn l (breakCavity ok u).line := fun _ _ h => by
    unfold breakCavity; exact breakInput_handsOn h _ _ rfl
  have hpile : ∀ ok u, HandsOn l u.line → HandsOn l (breakPile ok u).line := fun _ _ h => by
    unfold breakPile; exact breakInput_handsOn h _ _ rfl
  have hposition : ∀ ok u, HandsOn l u.line → HandsOn l (breakPosition ok u).line := fun _ _ h => by
    unfold breakPosition; exact breakInput_handsOn h _ _ rfl
  exact hposition _ _ (hpile _ _ (hcavity _ _ (hpressure _ _ (hpower _))))

theorem sensed_handsOn (r : Readings) : HandsOn l (sensed r s).line := by
  rw [sensed, notePosition_line]
  exact breakChecks_handsOn (s := noteReading r (advanceReadingClock s)) h r

theorem trampReading_handsOn (pressure : Option Nat) : HandsOn l (trampReading pressure s).line := by
  have hended : HandsOn l (trampEnded s).line :=
    endActiveOf_handsOn (endActiveOf_handsOn (s := detected s) h _ _) _ _
  have hdetected : HandsOn l (detectTramp s).line := by
    have hrelieved := setActivity_handsOn hended (.relieved none)
    rw [detectTramp_eq]
    split
    exacts [report_handsOn hrelieved _ _, hrelieved]
  unfold trampReading
  extract_lets now kept added
  split
  · split
    exacts [hdetected, h]
  · split <;> exact h

theorem estimateTonnage_handsOn (output : Nat) : HandsOn l (estimateTonnage output s).line := by
  unfold estimateTonnage
  split <;> exact h

theorem readingEvent_handsOn (r : Readings) : HandsOn l (readingEvent r s).line := by
  rw [readingEvent_eq]
  exact settle_handsOn (wearChanged_handsOn (estimateTonnage_handsOn
    (trampReading_handsOn (activityReading_handsOn (sensed_handsOn h r) _ _) _) _))

theorem windowClose_handsOn : HandsOn l (windowClose s).line := by
  have htaken : HandsOn l (historyTakes (closingSample s) (reopened s)).line := by
    rw [historyTakes_frame]
    exact h
  rw [windowClose_eq]
  refine settle_handsOn ?_
  unfold clearTakes
  split
  exacts [finishStopping_handsOn htaken, htaken]

/-! ### Demands (R34 to R45) -/

theorem gapTargetArrives_handsOn (n : Nat) : HandsOn l (gapTargetArrives n s).line := by
  have hdropped : HandsOn l (flagDropped (endActiveOf .setGap (.stopped .superseded) s)).line := by
    unfold flagDropped
    split
    exacts [updateActivity_handsOn (endActiveOf_handsOn h _ _) _, endActiveOf_handsOn h _ _]
  rw [gapTargetArrives_eq]
  exact targetChanged_handsOn (s := targetTaken n _) hdropped

theorem spanArrives_handsOn (n : Nat) : HandsOn l (spanArrives n s).line := by
  unfold spanArrives
  split
  exacts [h, targetChanged_handsOn (s := { s with gap.span := n }) h]

theorem storeDemand_handsOn (p : DemandPayload) : HandsOn l (storeDemand p s).line := by
  have hgap : HandsOn l (gapStored p (sequenceStored p s)).line := by
    unfold gapStored
    split
    · split
      exacts [gapTargetArrives_handsOn (s := sequenceStored p s) h _, h]
    · exact h
  rw [storeDemand_eq]
  unfold spanStored
  split
  · split
    exacts [spanArrives_handsOn hgap _, hgap]
  · exact hgap

theorem beginRun_handsOn : HandsOn l (beginRun s).line := by
  unfold beginRun
  split
  exacts [enterRun_handsOn h _, changeRun_handsOn h _]

theorem abortInternal_handsOn : HandsOn l (abortInternal s).line := by
  unfold abortInternal
  split
  · split
    exacts [setActivity_handsOn h _, h]
  · exact h

theorem actCommand_handsOn (c : Option Command) : HandsOn l (actCommand c s).line := by
  unfold actCommand
  split
  · exact h
  · have hbegun := beginRun_handsOn (s := { s with run.lastCommand := some .run }) h
    unfold actRun
    split
    exacts [hbegun, hbegun, h]
  · have hstopped := enterRun_handsOn (s := { s with run.lastCommand := some .stop }) h .stopping
    unfold actStop
    split
    exacts [hstopped, hstopped, abortInternal_handsOn hstopped, h]

theorem actDemand_handsOn (p : DemandPayload) (c : Option Command) : HandsOn l (actDemand p c s).line := by
  have hacted := actCommand_handsOn (storeDemand_handsOn h p) c
  unfold actDemand
  dsimp only
  split
  exacts [settle_handsOn hacted, hacted]

theorem takeStatus_handsOn (source : Nat) (p : StatusPayload) : HandsOn l (takeStatus source p s).line := by
  unfold takeStatus
  split
  · exact h
  · split
    · exact report_handsOn (s := { s with peers.lastDuplicate := some s.seconds }) h _ _
    · split <;> exact h

/-! ### Requests (R143 to R149) -/

theorem enqueue_handsOn (e : Entry) : HandsOn l (enqueue e s).line := by
  rcases enqueue_cases e s with ⟨a, h'⟩ | ⟨-, a, h'⟩ <;> rw [h']
  exacts [h.push a, settle_handsOn (s := State.answer a (appended e s)) (h.push a)]

theorem cancelEntry_handsOn (header : Address) (tag : BitVec 3) (argument : Word) :
    HandsOn l (cancelEntry header tag argument s).line := by
  unfold cancelEntry
  split
  · exact h.push _
  · refine settle_handsOn (HandsOn.push ?_ _)
    split
    · rw [cancelActive_eq, (cancelEffect_waiting _ _).2.1]
      exact endActive_handsOn h _
    · exact h.push _

theorem holdFeed_handsOn (header : Address) (tag : BitVec 3) : HandsOn l (holdFeed header tag s).line := by
  unfold holdFeed
  split
  exacts [(enterRun_handsOn h _).push _, h.push _]

theorem releaseFeed_handsOn (header : Address) (tag : BitVec 3) : HandsOn l (releaseFeed header tag s).line := by
  unfold releaseFeed
  split
  exacts [(enterRun_handsOn h _).push _, h.push _]

theorem clearFault_handsOn (header : Address) (tag : BitVec 3) : HandsOn l (clearFault header tag s).line := by
  obtain ⟨-, -, -, -, hline⟩ := clearAccepted_fields s
  unfold clearFault
  split
  · exact h.push _
  · exact settle_handsOn (s := answerNow header tag (some .clearFault) .done (clearAccepted s)) ((hline ▸ h).push _)

/-! ### Timers of the Gap Controller (chapters 7 to 9) -/

theorem stickAt_handsOn : HandsOn l (stickAt s).line :=
  setActivity_handsOn (restW_handsOn (report_handsOn h _ _)) _

theorem moveStalls_handsOn (m : Move) (g : Nat) : HandsOn l (moveStalls m g s).line := by
  unfold moveStalls
  split
  · split
    · exact setActivity_handsOn (restW_handsOn (endActiveOf_handsOn h _ _)) _
    · exact reversalTest_handsOn (updateActivity_handsOn h _)
  · exact stickAt_handsOn (endActiveOf_handsOn h _ _)

theorem stall_handsOn : HandsOn l (stall s).line := by
  unfold stall
  split
  · split
    exacts [h, settle_handsOn (moveStalls_handsOn h _ _)]
  · split
    exacts [settle_handsOn (stickAt_handsOn (endActiveOf_handsOn h _ _)), h]
  · split
    exacts [h, settle_handsOn (stickAt_handsOn h)]
  · exact h

theorem seekLimitExpires_handsOn : HandsOn l (seekLimitExpires s).line := by
  unfold seekLimitExpires
  split
  · split
    exacts [settle_handsOn (calibrationFails_handsOn h _), h]
  · exact h

theorem pulseOnEnds_handsOn : HandsOn l (pulseOnEnds s).line := by
  unfold pulseOnEnds
  split
  · split
    · split
      exacts [updateActivity_handsOn h _, h]
    · exact h
  · exact h

theorem pulseOffEnds_handsOn : HandsOn l (pulseOffEnds s).line := by
  unfold pulseOffEnds
  split
  · split
    · dsimp only
      split
      · exact h
      · split
        exacts [settle_handsOn (contact_handsOn h _ _), updateActivity_handsOn h _]
    · exact h
  · exact h

theorem reliefEnds_handsOn : HandsOn l (reliefEnds s).line := by
  unfold reliefEnds
  split
  · split <;> exact setActivity_handsOn h _
  · exact setActivity_handsOn h _

theorem rampInterval_handsOn : HandsOn l (rampInterval s).line := by
  have hset : HandsOn l (setOutput (rampOutput s) { s with drive.timer := some rampPeriod }).line := h
  unfold rampInterval
  dsimp only
  split
  exacts [internalCalibrationTest_handsOn hset, hset]

/-! ### Campaigns (R128, R164) -/

theorem startPending_handsOn : HandsOn l (startPending s).line := by rwa [startPending_frame]

theorem campaignEnds_handsOn (e : CampaignEnd) (c : Campaign) : HandsOn l (campaignEnds e c s).line := by
  unfold campaignEnds
  extract_lets u v w
  have hv : HandsOn l v.line := by
    unfold v
    split
    exacts [report_handsOn (s := u) h _ _, h]
  have hw : HandsOn l w.line := by
    unfold w linerChangeTakes
    split
    · split
      exacts [endActiveOf_handsOn hv _ _, hv]
    · exact hv
  exact settle_handsOn (startPending_handsOn (s := { w with interface.campaign := none }) hw)

theorem wordReady_handsOn (c : Campaign) : HandsOn l (wordReady c s).line := by
  unfold wordReady
  split
  · exact campaignEnds_handsOn h _ _
  · split
    · refine campaignEnds_handsOn ?_ _ _
      rwa [cutShort_frame]
    · exact h

end

end Sys2Proof.Machine

/-! ## Every command keeps the Line Port in its bounds (O52) -/

namespace Sys2Proof.Machine

/-- A frame at the receiver, of which the station makes answers only (R143, R152). -/
theorem frameEnds_safe {s u : State} (hs : s.line.Safe) (h : HandsOn (frameEnds s).line u.line) : u.line.Safe :=
  h.safe hs.plain

theorem onRequest_safe {header : Address} {act : State → State} {s : State} (hs : s.line.Safe)
    (h : HandsOn (frameEnds s).line (act (frameEnds s)).line) : (onRequest header act s).line.Safe :=
  onRequest_of (P := fun u => u.line.Safe) hs hs.plain (frameEnds_safe hs h)

/-! ### The Line Port's own events (R152 to R156) -/

theorem reportStatus_safe {s : State} (hs : s.line.Safe) : (reportStatus s).line.Safe :=
  LinePort.takeNext_safe (l := { s.line with
    slot := some { payload := assembleStatus s, lateLoss := false }, reportTimer := some s.reportPeriodMs })
    hs.room hs.backoff hs.collisions

theorem beginAttempt_safe {l : LinePort} {f : InFlight} (h : l.Safe) (hf : l.inFlight = some f) :
    (beginAttempt f l).Safe where
  room := h.room
  carried := nofun
  backoff := h.backoff
  collisions _ := h.collisions (by simp [hf])

theorem frameSent_safe {l : LinePort} (f : InFlight) (h : l.Safe) : (frameSent f l).Safe :=
  LinePort.takeNext_safe h.room h.backoff fun hn => absurd rfl hn

/-- A draw gives one of at most 16 backoffs (R155). -/
theorem backoffOf_lt (n : Nat) (draw : BitVec 4) : backoffOf n draw < 2 ^ min n 4 := Nat.mod_lt _ (by positivity)

theorem backoffOf_le (n : Nat) (draw : BitVec 4) : backoffOf n draw ≤ 15 :=
  (Nat.mod_le _ _).trans (Nat.lt_succ_iff.1 draw.isLt)

theorem collide_safe {l : LinePort} (draw : BitVec 4) (f : InFlight) (h : l.Safe) : (collide draw f l).Safe := by
  unfold collide
  extract_lets n
  split
  · next hn => exact ⟨h.room, nofun, backoffOf_le n draw, fun _ => Nat.lt_succ_iff.1 hn⟩
  · exact LinePort.takeNext_safe h.room h.backoff fun hn => absurd rfl hn

/-! ### The start sequence (R161) -/

theorem startSequenceEnd_safe (straps : Nat) (source : StartMemory) {s : State} (hs : s.line.Safe) :
    (startSequenceEnd straps source s).line.Safe := by
  obtain ⟨hline, -⟩ := judged_fields straps (startMemory s.memory source) s
  have hjudged : (judged straps (startMemory s.memory source) s).line.Safe := hline ▸ hs
  rw [startSequenceEnd_eq, reportLowSupply]
  split
  exacts [(report_handsOn .refl _ _).safe (reportStatus_safe hjudged), reportStatus_safe hjudged]

/-! ### Every command -/

theorem exec_lineSafe {c : Instr} {s t : State} (h : exec c s = .next t) (hs : s.line.Safe) : t.line.Safe := by
  cases c with
  | reset =>
    cases h
    exact ⟨Nat.zero_le _, fun _ => ⟨rfl, rfl⟩, Nat.zero_le _, fun _ => Nat.zero_le _⟩
  | startSequenceEnd straps memory =>
    cases h
    split
    exacts [startSequenceEnd_safe _ _ hs, hs]
  | readingEvent r =>
    cases h
    split
    exacts [(readingEvent_handsOn .refl r).safe hs, hs]
  | beltScalePulse =>
    cases h
    split
    exacts [(settle_handsOn (wearChanged_handsOn (s := pulsed s) .refl)).safe hs, hs]
  | windowClose =>
    cases h
    split
    exacts [(windowClose_handsOn .refl).safe hs, hs]
  | ageingEvent | sharePeriodExpiry =>
    cases h
    split <;> exact hs
  | statusArrival header own p =>
    cases h
    refine onFrame_of (P := fun u => u.line.Safe) hs (frameEnds_safe hs ?_)
    split
    exacts [takeStatus_handsOn .refl _ _, .refl]
  | demand header p | run header p | stop header p =>
    cases h
    exact takeDemand_of (P := fun u => u.line.Safe) hs hs.plain (frameEnds_safe hs (actDemand_handsOn .refl _ _))
  | setGap | calibrate | linerChange =>
    cases h
    exact onRequest_safe hs (enqueue_handsOn .refl _)
  | cancel header tag argument =>
    cases h
    exact onRequest_safe hs (cancelEntry_handsOn .refl _ _ _)
  | holdFeed header tag =>
    cases h
    exact onRequest_safe hs (holdFeed_handsOn .refl _ _)
  | releaseFeed header tag =>
    cases h
    exact onRequest_safe hs (releaseFeed_handsOn .refl _ _)
  | clearFault header tag =>
    cases h
    exact onRequest_safe hs (clearFault_handsOn .refl _ _)
  | queryFault | queryWear | queryShare | queryQueue | badKind =>
    cases h
    exact onRequest_safe hs (HandsOn.push .refl _)
  | answerFrameReceived | frameDiscarded =>
    cases h
    exact onFrame_of (P := fun u => u.line.Safe) hs hs.plain
  | rampInterval =>
    cases h
    split
    exacts [(rampInterval_handsOn .refl).safe hs, hs]
  | motorRunningFall =>
    cases h
    dsimp only
    split
    exacts [(report_handsOn (s := { s with motorRunning := false }) .refl _ _).safe hs, hs]
  | motorRunningRise =>
    cases h
    exact (internalCalibrationTest_handsOn (s := { s with motorRunning := true }) .refl).safe hs
  | primingTimerExpiry =>
    cases h
    split
    exacts [(report_handsOn (s := { s with run.primingTimer := none }) .refl _ _).safe hs, hs]
  | clearTimerExpiry =>
    cases h
    split
    exacts [(finishStopping_handsOn .refl).safe hs, hs]
  | stallTimerExpiry =>
    cases h
    split
    exacts [(stall_handsOn .refl).safe hs, hs]
  | seekLimitExpiry =>
    cases h
    split
    exacts [(seekLimitExpires_handsOn .refl).safe hs, hs]
  | seekPulseOnEnd =>
    cases h
    split
    exacts [(pulseOnEnds_handsOn .refl).safe hs, hs]
  | seekPulseOffEnd =>
    cases h
    split
    exacts [(pulseOffEnds_handsOn .refl).safe hs, hs]
  | settleTimerExpiry =>
    cases h
    split
    · split
      exacts [(settle_handsOn (reliefEnds_handsOn .refl)).safe hs, hs]
    · exact hs
  | readyTimerExpiry =>
    cases h
    split
    exacts [(campaignEnds_handsOn (s := giveUpWord _ s) .refl _ _).safe hs, hs]
  | wordReady =>
    cases h
    dsimp only
    split
    exacts [(wordReady_handsOn (s := { s with memory := s.memory.finish }) .refl _).safe hs, hs]
  | supplyLowRise =>
    cases h
    dsimp only
    split
    · exact hs
    · have hcut : HandsOn s.line (State.line { s with
          supplyLow := true, interface.campaign := s.interface.campaign.map (fun c => { c with cutOff := true }) }) := .refl
      exact (report_handsOn hcut _ _).safe hs
  | supplyLowFall =>
    cases h
    exact (startPending_handsOn (s := { s with supplyLow := false }) .refl).safe hs
  | reportTimerExpiry =>
    cases h
    split
    exacts [hs, reportStatus_safe hs]
  | transmitAttempt =>
    cases h
    split
    · next f hf => exact beginAttempt_safe hs hf
    · exact hs
  | frameSent =>
    cases h
    split
    · split
      exacts [frameSent_safe _ hs, hs]
    · exact hs
  | collision draw =>
    cases h
    split
    · split
      exacts [collide_safe draw _ hs, hs]
    · exact hs
  | lineIdle =>
    cases h
    exact hs.plain

/-- Settles O52: an answer joins the tail or is lost (`LinePort.push_room`, `LinePort.push_full`); every command but the Line Port's
own hands on answers only (`HandsOn`), which keeps the bounds, and its own events keep them too (`exec_lineSafe`). -/
theorem answerQueueKeepsBoundAndOrder : Obligations.AnswerQueueKeepsBoundAndOrder := by
  unfold Obligations.AnswerQueueKeepsBoundAndOrder
  refine ⟨fun l a => ⟨LinePort.push_busy a, LinePort.push_idle a, fun hfull => ?_⟩, fun s t hs h => ?_⟩
  · rw [LinePort.push_full a hfull, LinePort.lose]
    congr 2
    funext ⟨frame, driving⟩
    cases frame <;> rfl
  · rw [lineSafe_iff] at hs ⊢
    unfold step at h
    split at h
    · cases h
      exact hs.plain
    · exact exec_lineSafe h hs

end Sys2Proof.Machine

/-! ## The transmitter's own events (O54) -/

namespace Sys2Proof.Machine

/-! ### A collision (R155, R158) -/

/-- Up to the seventh collision the frame stays in flight, with one collision more and a backoff drawn. -/
theorem collide_backsOff (draw : BitVec 4) (f : InFlight) {l : LinePort} (h : l.collisions < 7) :
    collide draw f l = { l with
      inFlight := some { f with driving := false }, collisions := l.collisions + 1
      backoff := backoffOf (l.collisions + 1) draw } := if_pos (Nat.succ_lt_succ h)

/-- The eighth collision loses the frame, and the transmitter takes its next. -/
theorem collide_loses (draw : BitVec 4) (f : InFlight) {l : LinePort} (h : 7 ≤ l.collisions) :
    collide draw f l = LinePort.takeNext (LinePort.lose { l with inFlight := none, collisions := l.collisions + 1 }) :=
  if_neg (Nat.not_lt.2 (Nat.succ_le_succ h))

/-- A frame that an idle transmitter takes starts with its counts at 0 (R153). -/
theorem LinePort.takeNext_counts {l : LinePort} (hidle : l.inFlight = none) (htaken : l.takeNext.inFlight ≠ none) :
    l.takeNext.collisions = 0 ∧ l.takeNext.backoff = 0 :=
  l.takeNext_cases.resolve_left fun hsame => htaken ((congrArg LinePort.inFlight hsame).trans hidle)

/-- What the eighth collision leaves: the congestion flag set, and in flight the oldest answer or else the STATUS of the slot, which
is marked late wherever it is. -/
theorem collide_lost (draw : BitVec 4) (f : InFlight) {l : LinePort} (h : 7 ≤ l.collisions) :
    (collide draw f l).congested = true ∧
      ((collide draw f l).inFlight ≠ none → (collide draw f l).collisions = 0 ∧ (collide draw f l).backoff = 0) ∧
      (∀ a rest, l.answers = a :: rest →
        (collide draw f l).inFlight = some { frame := .answer a, driving := false } ∧ (collide draw f l).answers = rest ∧
          (collide draw f l).slot = l.slot.map (fun h => { h with lateLoss := true })) ∧
      (∀ h, l.answers = [] → l.slot = some h →
        (collide draw f l).inFlight = some { frame := .status { h with lateLoss := true }, driving := false } ∧
          (collide draw f l).slot = none) ∧
      (l.answers = [] → l.slot = none → (collide draw f l).inFlight = none) := by
  obtain ⟨m, hm⟩ : ∃ m, m = LinePort.lose { l with inFlight := none, collisions := l.collisions + 1 } := ⟨_, rfl⟩
  have hidle : m.inFlight = none := hm ▸ rfl
  have hanswers : m.answers = l.answers := hm ▸ rfl
  have hslot : m.slot = l.slot.map (fun h => { h with lateLoss := true }) := hm ▸ rfl
  have hcongested : m.congested = true := hm ▸ rfl
  rw [collide_loses draw f h, ← hm, ← hanswers, ← hslot]
  refine ⟨(LinePort.takeNext_congested m).trans hcongested, LinePort.takeNext_counts hidle, fun a rest ha => ?_,
    fun held ha hs => ?_, fun ha hs => ?_⟩
  · rw [LinePort.takeNext_answer hidle ha]
    exact ⟨rfl, rfl, rfl⟩
  · rw [LinePort.takeNext_status hidle ha (hslot.trans (congrArg _ hs))]
    exact ⟨rfl, rfl⟩
  · rw [LinePort.takeNext_idle ha (hslot.trans (congrArg _ hs))]
    exact hidle

/-! ### The events at the state -/

section
variable {s : State}

/-- With no frame in flight there is nothing to drive, to end or to collide (log entry 11). -/
theorem transmitter_of_idle (draw : BitVec 4) (h : s.line.inFlight = none) :
    exec .transmitAttempt s = .next s ∧ exec .frameSent s = .next s ∧ exec (.collision draw) s = .next s := by
  simp only [exec, execTransmitAttempt, execFrameSent, execCollision, h, and_self]

variable {f : InFlight} (h : s.line.inFlight = some f)
include h

theorem exec_transmitAttempt_of_frame : exec .transmitAttempt s = .next { s with line := beginAttempt f s.line } := by
  simp only [exec, execTransmitAttempt, h]

/-- A frame that is not being driven is neither sent nor stopped by a collision (log entry 11). -/
theorem transmitter_of_waiting (draw : BitVec 4) (hd : f.driving = false) :
    exec .frameSent s = .next s ∧ exec (.collision draw) s = .next s := by
  simp [exec, execFrameSent, execCollision, h, hd]

theorem exec_frameSent_of_driving (hd : f.driving = true) :
    exec .frameSent s = .next { s with line := frameSent f s.line } := by
  simp only [exec, execFrameSent, h, hd, if_true]

theorem exec_collision_of_driving (draw : BitVec 4) (hd : f.driving = true) :
    exec (.collision draw) s = .next { s with line := collide draw f s.line } := by
  simp only [exec, execCollision, h, hd, if_true]

end

/-- Settles O54: a frame sent leaves the next to `takeNext`, and so does the eighth collision (`collide_lost`); any earlier one backs
off (`collide_backsOff`). -/
theorem transmitterEvents : Obligations.TransmitterEvents := by
  unfold Obligations.TransmitterEvents
  intro draw s
  refine ⟨rfl, transmitter_of_idle draw, fun f hf => ?_⟩
  intro fresh
  refine ⟨exec_transmitAttempt_of_frame hf, transmitter_of_waiting hf draw,
    fun hd => ⟨?sent, fun hfew => ?early, fun hmany => ?eighth⟩⟩
  case sent =>
    intro reported sent
    have hreported : f.frame.clearsCongestion = reported := by
      unfold reported
      cases f.frame <;> rfl
    have hexec : exec .frameSent s = .next { s with line := sent.takeNext } := by
      rw [exec_frameSent_of_driving hf hd, frameSent, hreported]
    rw [hexec]
    refine ⟨fun a rest ha => ?_, fun h ha hs => ?_, fun ha hs => ?_⟩
    · rw [LinePort.takeNext_answer (l := sent) rfl ha]
    · rw [LinePort.takeNext_status (l := sent) rfl ha hs]
    · rw [LinePort.takeNext_idle (l := sent) ha hs]
  case early =>
    refine ⟨backoffOf (s.line.collisions + 1) draw, backoffOf_lt _ draw, ?_⟩
    rw [exec_collision_of_driving hf draw hd, collide_backsOff draw f hfew]
  case eighth => exact ⟨_, exec_collision_of_driving hf draw hd, rfl, collide_lost draw f hmany⟩

end Sys2Proof.Machine

/-! ## The report timer's expiry (O53) -/

namespace Sys2Proof.Machine

/-! ### The flag byte of a STATUS (section 12.6) -/

/-- The bits of a byte that is summed of seven flags. -/
theorem flagByte_bits : ∀ b0 b1 b2 b3 b4 b5 b6 : Bool,
    let w := BitVec.ofNat 8 (b0.toNat + 2 * b1.toNat + 4 * b2.toNat + 8 * b3.toNat + 16 * b4.toNat + 32 * b5.toNat +
      64 * b6.toNat)
    w.getLsbD 0 = b0 ∧ w.getLsbD 1 = b1 ∧ w.getLsbD 2 = b2 ∧ w.getLsbD 3 = b3 ∧ w.getLsbD 4 = b4 ∧ w.getLsbD 5 = b5 ∧
      w.getLsbD 6 = b6 := by decide

/-- The flags, of which UNCONFIGURED clears all but congestion and sequence number (R156, R158). -/
theorem statusFlags_bits (s : State) :
    let live := decide (s.run.state ≠ .unconfigured)
    s.statusFlags.getLsbD 0 = (live && s.linerWorn) ∧ s.statusFlags.getLsbD 1 = (live && s.gap.wearUnknown) ∧
      s.statusFlags.getLsbD 2 = s.line.congested ∧ s.statusFlags.getLsbD 3 = (live && s.monitor.sample.isSome) ∧
      s.statusFlags.getLsbD 4 = (live && s.gapEstimate.isSome) ∧
      s.statusFlags.getLsbD 5 = (live && (s.monitor.sample.bind (·.pile)).isSome) ∧
      s.statusFlags.getLsbD 6 = s.run.lastSequence.isSome := flagByte_bits _ _ _ _ _ _ _

/-! ### Code tables in a byte (section 12.6, R166) -/

theorem RunState.toNat_code (r : RunState) : (BitVec.ofNat 8 r.code).toNat = r.code := by cases r <;> rfl

theorem GapState.toNat_code (g : GapState) : (BitVec.ofNat 8 g.code).toNat = g.code := by cases g <;> rfl

theorem FaultKind.toNat_code (k : FaultKind) : (BitVec.ofNat 8 k.code).toNat = k.code := by cases k <;> rfl

/-! ### The fields of a STATUS -/

/-- UNCONFIGURED reports the values of its column (R156). -/
theorem assembleStatus_of_unconfigured {s : State} (h : s.run.state = .unconfigured) :
    let p := assembleStatus s
    p.kind = 0 ∧ p.gapState = 1 ∧ p.fault = 1 ∧ p.reportPeriod = 5 ∧ p.capacity = 0 ∧ p.output = 0 := by
  simp [assembleStatus, State.reportPeriodMs, State.reported, h, GapState.code, FaultKind.code]

/-- A field that is present carries its value (R156). -/
theorem reportedIfPresent_some {s : State} (h : s.run.state ≠ .unconfigured) (k n : Nat) :
    s.reportedIfPresent k (some n) = BitVec.ofNat 16 n := by
  unfold State.reportedIfPresent
  split
  · next hs => exact absurd hs h
  · next hn _ =>
    cases hn
    rfl
  · next hn _ => cases hn

/-- Of the run states only STARTING and UNCONFIGURED are not active (R1). -/
theorem State.active_of_started {s : State} (h : s.run.state ≠ .starting) (h' : s.run.state ≠ .unconfigured) :
    s.active = true := by
  unfold State.active
  cases hs : s.run.state with
  | starting => exact absurd hs h
  | unconfigured => exact absurd hs h'
  | _ => rfl

/-! ### The slot and the transmitter (R153) -/

/-- A busy transmitter leaves the STATUS in the slot. -/
theorem reportStatus_busy {s : State} (h : s.line.inFlight ≠ none) :
    (reportStatus s).line = { s.line with
      slot := some { payload := assembleStatus s, lateLoss := false }, reportTimer := some s.reportPeriodMs } := by
  obtain ⟨f, hf⟩ := Option.ne_none_iff_exists'.1 h
  exact LinePort.takeNext_busy (l := { s.line with
    slot := some { payload := assembleStatus s, lateLoss := false }, reportTimer := some s.reportPeriodMs }) hf

/-- Settles O53: the fields are those of `assembleStatus`, with the flag byte of `statusFlags`, and the Line Port is that of
`reportStatus_busy` or `reportStatus_line`. -/
theorem reportExpiryAssemblesTheStatus : Obligations.ReportExpiryAssemblesTheStatus := by
  unfold Obligations.ReportExpiryAssemblesTheStatus
  intro s hstarted
  obtain ⟨hworn, hunknown, hcongested, hsampled, hestimated, hpile, hsequence⟩ := statusFlags_bits s
  refine ⟨reportStatus s, assembleStatus s, congrArg Host.Outcome.next (if_neg hstarted), rfl, reportStatus_reportTimer s,
    fun hbusy => ?busy, fun hidle hnone => ?idle, rfl, fun n hn => ?number, hsequence, hcongested, ?command,
    RunState.toNat_code _, fun hu => ?unconfigured, fun hu => ?configured⟩
  case busy =>
    rw [reportStatus_busy hbusy]
    exact ⟨rfl, rfl, rfl⟩
  case idle =>
    rw [reportStatus_line hidle hnone]
    exact ⟨rfl, rfl, rfl, rfl⟩
  case number => simp only [assembleStatus, hn]
  case command =>
    simp only [assembleStatus]
    cases s.run.lastCommand with
    | none => rfl
    | some c => cases c <;> rfl
  case unconfigured =>
    obtain ⟨hkind, hgap, hfault, hperiod, hcapacity, houtput⟩ := assembleStatus_of_unconfigured hu
    simp only [hu, ne_eq, not_true_eq_false, decide_false, Bool.false_and] at hworn hunknown hsampled hestimated hpile
    exact ⟨hkind, hgap, hfault, hperiod, hcapacity, houtput, hworn, hunknown, hsampled, hestimated, hpile⟩
  case configured =>
    simp only [hu, ne_eq, not_false_eq_true, decide_true, Bool.true_and] at hworn hunknown hsampled hestimated hpile
    rw [State.linerWorn, State.active_of_started hstarted hu, Bool.true_and] at hworn
    refine ⟨?_, ?_, ?_, ?_, ?_, ?_, hworn, hunknown, hsampled, hestimated, fun g hg => ?_, fun l hl => ?_⟩
    · simp only [assembleStatus, if_neg hu]
      cases s.settings.kind <;> rfl
    · simp only [assembleStatus, if_neg hu, GapState.toNat_code]
    · simp only [assembleStatus, if_neg hu]
      cases s.faults.first with
      | none => rfl
      | some f => exact FaultKind.toNat_code f.kind
    · simp only [assembleStatus, State.reportPeriodMs, if_neg hu]
    · simp only [assembleStatus, State.reported, if_neg hu]
    · simp only [assembleStatus, State.reported, if_neg hu]
    · simp only [assembleStatus, hg, reportedIfPresent_some hu]
    · rw [hl] at hpile
      refine ⟨?_, ?_, hpile, fun n hn => ?_⟩
      · simp only [assembleStatus, hl, Option.map_some, reportedIfPresent_some hu]
      · simp only [assembleStatus, hl, Option.map_some, reportedIfPresent_some hu]
      · simp only [assembleStatus, hl, Option.bind_some, hn, reportedIfPresent_some hu]

end Sys2Proof.Machine

/-! ## The frames that the station sends (O56) -/

namespace Sys2Proof.Machine

/-! ### The CRC over a whole frame (R151) -/

/-- A bit equal to the register's top bit is a shift without the polynomial. -/
theorem crcBit_msb (c : Word) : crcBit c c.msb = c <<< 1 := by simp [crcBit]

/-- The `i`-th bit of the register's own high byte, on the register after the bits above it. -/
theorem crcBit_own (c : Word) {i j : Nat} (hij : i + j = 7) : crcBit (c <<< i) ((hiByte c).getLsbD j) = c <<< (i + 1) := by
  have hmsb : (hiByte c).getLsbD j = (c <<< i).msb := by
    rw [BitVec.msb_eq_getLsbD_last, BitVec.getLsbD_shiftLeft, hiByte, BitVec.getLsbD_extractLsb']
    have hbit : 8 + j = 16 - 1 - i := by omega
    simp [hbit, show j < 8 by omega, show i ≤ 15 by omega]
  rw [hmsb, crcBit_msb, BitVec.shiftLeft_add]

/-- The register's own high byte is shifted out, and the polynomial never enters. -/
theorem crcByte_own (c : Word) : crcByte c (hiByte c) = c <<< 8 := by
  have h0 : crcBit c ((hiByte c).getLsbD 7) = c <<< 1 := by
    have htop := crcBit_own c (i := 0) (j := 7) rfl
    rwa [BitVec.shiftLeft_zero] at htop
  simp only [crcByte, List.foldl_cons, List.foldl_nil, h0, crcBit_own c (i := 1) (j := 6) rfl,
    crcBit_own c (i := 2) (j := 5) rfl, crcBit_own c (i := 3) (j := 4) rfl, crcBit_own c (i := 4) (j := 3) rfl,
    crcBit_own c (i := 5) (j := 2) rfl, crcBit_own c (i := 6) (j := 1) rfl, crcBit_own c (i := 7) (j := 0) rfl]

theorem hiByte_shift (c : Word) : hiByte (c <<< 8) = loByte c := by
  refine BitVec.eq_of_getLsbD_eq fun i hi => ?_
  rw [hiByte, loByte, BitVec.getLsbD_extractLsb', BitVec.getLsbD_extractLsb', BitVec.getLsbD_shiftLeft]
  have hbit : 8 + i - 8 = 0 + i := by omega
  simp [hbit, show 8 + i < 16 by omega]

/-- A run of bytes followed by its own CRC, high byte first, runs out to 0. -/
theorem crc16_append_own (body : List Byte) : crc16 (body ++ [hiByte (crc16 body), loByte (crc16 body)]) = 0 := by
  have hout : ∀ c : Word, crcByte (crcByte c (hiByte c)) (loByte c) = 0 := fun c => by
    rw [crcByte_own, ← hiByte_shift, crcByte_own, ← BitVec.shiftLeft_add]
    exact BitVec.shiftLeft_eq_zero (Nat.le_refl 16)
  have hrun : crc16 (body ++ [hiByte (crc16 body), loByte (crc16 body)]) =
      crcByte (crcByte (crc16 body) (hiByte (crc16 body))) (loByte (crc16 body)) := List.foldl_append
  rw [hrun, hout]

/-! ### Lengths of the payloads (section 12.6) -/

theorem natBytes_length (k n : Nat) : (natBytes k n).length = k := by
  induction k with
  | zero => rfl
  | succ k ih => simp [natBytes, ih]

theorem WearReport.bytes_length (r : WearReport) : r.bytes.length = 17 := by
  simp [WearReport.bytes, natBytes_length]

theorem faultBytes_length (f : FaultRecord) (v : Inputs Validity) : (faultBytes f v).length = 15 := by
  cases h : f.first <;> simp [faultBytes, h, natBytes_length]

theorem ShareRecord.bytes_length (r : ShareRecord) : r.bytes.length = 22 := natBytes_length _ _

theorem queueBytes_length (es : List Entry) : (QueryData.queue es).bytes.length = 5 * es.length + 1 := by
  have hentry : ∀ e : Entry, e.bytes.length = 5 := fun _ => rfl
  simp [QueryData.bytes, List.length_flatMap, hentry, Nat.mul_comm]

/-- The data of a QUERY has one of the lengths of section 12.6 when the queue holds at most 4 entries. -/
theorem QueryData.bytes_length (d : QueryData) (h : ∀ es, d = .queue es → es.length ≤ 4) :
    d.bytes.length ∈ [15, 17, 0, 22, 1, 6, 11, 16, 21] := by
  cases d with
  | fault f v => simp [QueryData.bytes, faultBytes_length]
  | wear r => simp [QueryData.bytes, r.bytes_length]
  | share r => cases r <;> simp [QueryData.bytes, ShareRecord.bytes_length]
  | queue es =>
    have hfew := h es rfl
    rw [queueBytes_length]
    interval_cases es.length <;> decide

/-- An answer is as the Request Queue forms it: no data beside a STOPPED outcome, at most 4 entries in a QUEUE record. -/
abbrev Answer.Formed (a : Answer) : Prop :=
  (∀ r, a.outcome = .stopped r → a.data = none) ∧ ∀ es, a.data = some (.queue es) → es.length ≤ 4

theorem Answer.bytes_length_of_stopped {a : Answer} {r : StopReason} (ho : a.outcome = .stopped r) (hd : a.data = none) :
    a.bytes.length = 6 := by
  simp [Answer.bytes, ho, hd]

theorem Answer.bytes_length_of_other {a : Answer} (ho : ∀ r, a.outcome ≠ .stopped r) :
    a.bytes.length = (a.data.elim [] QueryData.bytes).length + 2 := by
  unfold Answer.bytes
  split
  · next r hr => exact absurd hr (ho r)
  · cases a.data <;> simp

/-- 2 bytes, 6 for STOPPED, or 2 and the data of a QUERY. -/
theorem Answer.bytes_length {a : Answer} (h : a.Formed) : a.bytes.length ∈ [2, 6, 17, 19, 24, 3, 8, 13, 18, 23] := by
  obtain ⟨hstopped, hqueue⟩ := h
  by_cases ho : ∃ r, a.outcome = .stopped r
  · obtain ⟨r, hr⟩ := ho
    rw [Answer.bytes_length_of_stopped hr (hstopped r hr)]
    decide
  · rw [Answer.bytes_length_of_other (not_exists.1 ho)]
    cases hd : a.data with
    | none => decide
    | some d =>
      have hlength := d.bytes_length fun es hes => hqueue es (hes ▸ hd)
      simp only [Option.elim_some, List.mem_cons, List.not_mem_nil, or_false] at hlength ⊢
      omega

/-- Every payload has a length that its kind allows. -/
theorem OutFrame.payload_allowed {f : OutFrame} (h : ∀ a, f = .answer a → a.Formed) :
    f.payload.length ≤ 24 ∧ lengthAllowed f.kindCode f.payload.length = true := by
  cases f with
  | status held => exact ⟨Nat.le_of_ble_eq_true rfl, rfl⟩
  | answer a =>
    have hlength := Answer.bytes_length (h a rfl)
    have hmost : ∀ n ∈ [2, 6, 17, 19, 24, 3, 8, 13, 18, 23], n ≤ 24 := by decide
    exact ⟨hmost _ hlength, List.contains_iff_mem.2 hlength⟩

/-! ### The frame as it goes out (R151) -/

/-- The first byte of a frame. -/
def OutFrame.firstByte (f : OutFrame) : Byte := BitVec.ofNat 8 (f.kindCode * 32 + f.payload.length)

/-- A kind code of 3 bits and a length of 5 share a byte. -/
theorem OutFrame.firstByte_toNat {f : OutFrame} (h : f.payload.length ≤ 24) :
    f.firstByte.toNat = f.kindCode * 32 + f.payload.length := by
  have hkind : f.kindCode ≤ 4 := by cases f <;> simp [OutFrame.kindCode]
  rw [OutFrame.firstByte, BitVec.toNat_ofNat]
  exact Nat.mod_eq_of_lt (by omega)

theorem OutFrame.frameLength_firstByte {f : OutFrame} (h : f.payload.length ≤ 24) :
    frameLength f.firstByte = f.payload.length := by
  rw [frameLength, OutFrame.firstByte_toNat h]
  omega

theorem OutFrame.frameKind_firstByte {f : OutFrame} (h : f.payload.length ≤ 24) : frameKind f.firstByte = f.kindCode := by
  rw [frameKind, OutFrame.firstByte_toNat h]
  omega

theorem OutFrame.bytes_length (f : OutFrame) (station : Nat) : (f.bytes station).length = f.payload.length + 5 := by
  simp [OutFrame.bytes, OutFrame.header]

theorem OutFrame.levels_length (f : OutFrame) (station : Nat) :
    (f.levels station).length = 10 * (f.bytes station).length := by
  have hbyte : ∀ b, (byteLevels b).length = 10 := fun _ => rfl
  simp [OutFrame.levels, List.length_flatMap, hbyte, Nat.mul_comm]

theorem OutFrame.bytes_eq (f : OutFrame) (station : Nat) :
    f.bytes station = f.firstByte :: BitVec.ofNat 8 station :: f.destination :: (f.payload ++
      [hiByte (crc16 (f.header station ++ f.payload)), loByte (crc16 (f.header station ++ f.payload))]) := rfl

/-! ### The frame as a receiver reads it (R152) -/

theorem frameComplete_iff (b : Byte) (rest : List Byte) :
    frameComplete (b :: rest) = true ↔
      (b :: rest).length = frameLength b + 5 ∧ frameLength b ≤ 24 ∧ lengthAllowed (frameKind b) (frameLength b) = true ∧
        (b :: rest).drop (frameLength b + 3) =
          [hiByte (crc16 ((b :: rest).take (frameLength b + 3))), loByte (crc16 ((b :: rest).take (frameLength b + 3)))] := by
  simp only [frameComplete, Bool.and_eq_true, decide_eq_true_eq, and_assoc]

/-- A receiver finds the frame complete: length, kind and CRC are those of its header. -/
theorem OutFrame.frameComplete_bytes {f : OutFrame} (h : ∀ a, f = .answer a → a.Formed) (station : Nat) :
    frameComplete (f.bytes station) = true := by
  obtain ⟨hlong, hallowed⟩ := OutFrame.payload_allowed h
  have hbody : (f.header station ++ f.payload).length = f.payload.length + 3 := rfl
  have htake : (f.bytes station).take (f.payload.length + 3) = f.header station ++ f.payload := List.take_left' hbody
  have hdrop : (f.bytes station).drop (f.payload.length + 3) =
      [hiByte (crc16 (f.header station ++ f.payload)), loByte (crc16 (f.header station ++ f.payload))] := List.drop_left' hbody
  rw [OutFrame.bytes_eq, frameComplete_iff, ← OutFrame.bytes_eq, OutFrame.frameLength_firstByte hlong,
    OutFrame.frameKind_firstByte hlong, htake, hdrop]
  exact ⟨f.bytes_length station, hlong, hallowed, rfl⟩

/-- A receiver takes from it the addresses, the kind and the payload that were sent. -/
theorem OutFrame.commandOfFrame_bytes {f : OutFrame} (h : ∀ a, f = .answer a → a.Formed) (own : Bool) (station : Nat) :
    commandOfFrame own (f.bytes station) =
      payloadCommand own { source := BitVec.ofNat 8 station, destination := f.destination } f.kindCode f.payload := by
  obtain ⟨hlong, -⟩ := OutFrame.payload_allowed h
  refine (if_pos (OutFrame.frameComplete_bytes h station)).trans ?_
  rw [← OutFrame.firstByte, OutFrame.frameKind_firstByte hlong, OutFrame.frameLength_firstByte hlong]
  exact congrArg _ (List.take_left' rfl)

theorem joinBytes_hiByte_loByte (w : Word) : joinBytes (hiByte w) (loByte w) = w := by
  refine BitVec.eq_of_getLsbD_eq fun i hi => ?_
  rw [joinBytes, BitVec.getLsbD_append]
  split
  · next hlow => simp [loByte, hlow]
  · next hhigh =>
    have hindex : 8 + (i - 8) = i := by omega
    simp [hiByte, hindex, show i - 8 < 8 by omega]

/-- The 21 bytes of a STATUS are read back as the STATUS that they lay out. -/
theorem statusOfBytes_bytes (p : StatusPayload) : statusOfBytes p.bytes = some p := by
  simp only [StatusPayload.bytes, statusOfBytes, joinBytes_hiByte_loByte]

theorem payloadCommand_status (own : Bool) (header : Address) (p : StatusPayload) :
    payloadCommand own header 1 p.bytes = .statusArrival header own p := by
  simp only [payloadCommand, statusOfBytes_bytes, Option.elim_some]

/-- Settles O56: the header tells length and kind (`OutFrame.firstByte_toNat`), the CRC runs out (`crc16_append_own`), and a receiver
finds the frame complete and takes from it what was sent (`OutFrame.commandOfFrame_bytes`). -/
theorem sentFramesPassTheChecks : Obligations.SentFramesPassTheChecks := by
  unfold Obligations.SentFramesPassTheChecks
  intro f station own hformed
  obtain ⟨hlong, -⟩ := OutFrame.payload_allowed hformed
  have hread := OutFrame.commandOfFrame_bytes hformed own station
  refine ⟨hlong, f.bytes_length station, ⟨_, _, f.bytes_eq station, OutFrame.firstByte_toNat hlong⟩, crc16_append_own _,
    f.levels_length station, fun a ha => ?_, fun held hheld => ?_⟩
  · rw [hread, ha]
    rfl
  · rw [hread, hheld]
    exact payloadCommand_status own _ held.payload

end Sys2Proof.Machine

/-! ## What an event may do to the setting memory (O57, O58) -/

namespace Sys2Proof.Machine

/-! ### The word in progress, and a request for a record (R160, R164) -/

/-- The word of the record that a running campaign writes. -/
def State.writing (s : State) : Option Nat := s.interface.campaign.map (·.word)

theorem State.writing_eq_none {s : State} : s.writing = none ↔ s.interface.campaign = none := Option.map_eq_none_iff

/-- What an event does to the setting memory that only requests records: nothing, or it enables the memory and begins word 64 of a
campaign where none ran. -/
inductive Requests (s t : State) : Prop where
  | kept (memory : t.memory = s.memory) (writing : t.writing = s.writing)
  | began (v : Word) (idle : s.writing = none) (memory : t.memory = (s.memory.setEnabled true).write 64 v)
      (writing : t.writing = some 64)

/-- A write to other fields. -/
theorem Requests.plain {s t : State} (hm : t.memory = s.memory := by rfl) (hi : t.interface = s.interface := by rfl) :
    Requests s t :=
  .kept hm (by rw [State.writing, hi, State.writing])

@[refl] theorem Requests.refl (s : State) : Requests s s := .plain

/-- Once a campaign has begun, no other begins before it ends. -/
theorem Requests.trans {s t u : State} (h : Requests s t) (h' : Requests t u) : Requests s u := by
  cases h with
  | kept hm hw =>
    cases h' with
    | kept hm' hw' => exact .kept (hm'.trans hm) (hw'.trans hw)
    | began v hidle hm' hw' => exact .began v (hw ▸ hidle) (hm ▸ hm') hw'
  | began v hidle hm hw =>
    cases h' with
    | kept hm' hw' => exact .began v hidle (hm'.trans hm) (hw'.trans hw)
    | began _ hidle' => exact absurd (hw.symm.trans hidle') nofun

theorem Requests.of_still {s t : State} (h : t.still = s.still) : Requests s t :=
  .plain (State.memory_of_still h) (State.interface_of_still h)

theorem Requests.of_steady {s t : State} (h : t.steady = s.steady) : Requests s t :=
  .plain ((congrArg (fun u : State => u.memory) h :)) ((congrArg (fun u : State => u.interface) h :))

/-! ### What it keeps -/

/-- The memory keeps its form, and a campaign writes words 64 to 71 (R160, R164). -/
def MemoryForm (s : State) : Prop := s.memory.wf = true ∧ ∀ n ∈ s.writing, 64 ≤ n ∧ n ≤ 71

/-- The memory is write-enabled exactly while a campaign runs (R164). -/
def EnabledInCampaign (s : State) : Prop := s.memory.enabled = s.writing.isSome

theorem memorySafe_iff {s : State} : MemorySafe s ↔
    MemoryForm s ∧ (s.run.state ≠ .starting → EnabledInCampaign s) ∧
      (s.run.state = .starting → s.interface.campaign = none ∧ s.interface.pending = none) := by
  simp only [MemorySafe, MemoryForm, EnabledInCampaign, State.writing, Option.isSome_map, Option.mem_def, Option.map_eq_some_iff,
    forall_exists_index, and_imp, forall_apply_eq_imp_iff₂, and_assoc]

theorem Requests.form {s t : State} (h : Requests s t) (hs : MemoryForm s) : MemoryForm t := by
  cases h with
  | kept hm hw => rwa [MemoryForm, hm, hw]
  | began v _ hm hw =>
    rw [MemoryForm, hm, hw]
    exact ⟨Memory.write_wf v (by decide) (Memory.setEnabled_wf true hs.1), by simp⟩

theorem Requests.enabled {s t : State} (h : Requests s t) (hs : EnabledInCampaign s) : EnabledInCampaign t := by
  cases h with
  | kept hm hw => rwa [EnabledInCampaign, hm, hw]
  | began v _ hm hw =>
    rw [EnabledInCampaign, hm, hw, Memory.write_keeps_enabled]
    rfl

/-- Where no word is in progress every word reads as it did (R160). -/
theorem Requests.read {s t : State} (h : Requests s t) (hs : s.memory.programming = none) (a : Nat) :
    t.memory.read a = s.memory.read a := by
  cases h with
  | kept hm _ => rw [hm]
  | began v _ hm _ =>
    have hidle : (s.memory.setEnabled true).programming = none := hs
    rw [hm, Memory.write_read rfl, Memory.finish_idle hidle, Memory.setEnabled_read]

/-! ### Records that are requested and records that wait (R129, R164) -/

theorem startCampaign_requests (r : WearRecord) {s : State} (h : s.interface.campaign = none) :
    Requests s (startCampaign r s) :=
  .began _ (State.writing_eq_none.2 h) rfl rfl

theorem requestRecord_requests (s : State) : Requests s (requestRecord s) := by
  unfold requestRecord recordArrives
  split
  · next h => exact startCampaign_requests _ h.1
  · exact .kept rfl rfl

theorem startPending_requests (s : State) : Requests s (startPending s) := by
  unfold startPending
  split
  · split
    · next h =>
      exact Requests.trans (t := { s with interface.pending := none }) (.kept rfl rfl) (startCampaign_requests _ h.1)
    · exact .refl s
  · exact .refl s

theorem finishStopping_requests (s : State) : Requests s (finishStopping s) :=
  (Requests.of_still (changeRun_still .idle s)).trans (requestRecord_requests _)

/-- A new reference touches neither memory nor interface. -/
theorem setReference_requests (r : Reference) (s : State) : Requests s (setReference r s) :=
  Requests.trans (t := { s with gap.reference := r }) .plain (.of_still (setReference_still r s))

theorem contact_requests (k : CalKind) (p : Nat) (s : State) : Requests s (contact k p s) := by
  have htaken : Requests s (contactTaken p s) :=
    (Requests.trans (t := contactNoted p s) .plain (setReference_requests _ _)).trans (requestRecord_requests _)
  have hbacking : Requests (contactTaken p s) { contactTaken p s with
      gap.approach := (contactTaken p s).gap.approach ||
        decide ((contactTaken p s).gapEstimate.getD 0 ≠ (contactTaken p s).gap.setpoint) } := .plain
  rw [contact_eq]
  exact (htaken.trans hbacking).trans (.of_still (updateActivity_still _ _))

/-- A LINER_CHANGE takes its mark off the running campaign and requests the cleared record (R128). -/
theorem startLinerChange_requests (s : State) : Requests s (startLinerChange s) := by
  have hmark : Requests s { s with
      gap.linerTonnes := 0, gap.linerWear := 0, gap.calCount := 0, gap.wearAcc := 0
      gap.wearUnknown := false, gap.lastShift := none, monitor.linerKg := 0
      interface.campaign := s.interface.campaign.map (fun c => { c with forLiner := false }) } :=
    .kept rfl (by simp [State.writing, Function.comp_def])
  exact (hmark.trans (setReference_requests _ _)).trans (requestRecord_requests _)

/-! ### The start of heads and the end of an event (R144) -/

theorem startHead_requests (s : State) : Requests s (startHead s) := by
  unfold startHead
  split
  · exact .refl s
  · refine Requests.trans (t := { s with queue := activateHead s.queue }) .plain ?_
    dsimp only
    split
    exacts [.of_steady (startSetGap_steady _ _), .of_still (startRequestedCalibration_still _), startLinerChange_requests _]

theorem startHeads_requests (n : Nat) (s : State) : Requests s (startHeads n s) := by
  induction n generalizing s with
  | zero => exact .refl s
  | succ n ih =>
    unfold startHeads
    split
    exacts [(startHead_requests s).trans (ih _), .refl s]

theorem settle_requests (s : State) : Requests s (settle s) := by
  have htests : (settle s).still = (startHeads s.queue.length s).still := by simp [settle]
  exact (startHeads_requests _ s).trans (.of_still htests)

theorem Requests.settle {s t : State} (h : Requests s t) : Requests s (settle t) := h.trans (settle_requests t)

/-- The end of an event after operations that write only what `still` blanks. -/
theorem Requests.settle_still {s t : State} (h : t.still = s.still) : Requests s (Machine.settle t) :=
  (Requests.of_still h).settle

end Sys2Proof.Machine

/-! ## Every event but a campaign's own only requests records (O57) -/

namespace Sys2Proof.Machine

/-! ### Readings and window close -/

theorem activityReading_requests (pressure position : Option Nat) (s : State) :
    Requests s (activityReading pressure position s) := by
  by_cases h : ContactAt pressure position s
  · obtain ⟨k, p, hcontact⟩ := activityReading_contact h
    rw [hcontact]
    exact contact_requests k p s
  · exact .of_still (activityReading_still h)

theorem readingEvent_requests (r : Readings) (s : State) : Requests s (readingEvent r s) := by
  have hsensed : Requests s (sensed r s) := Requests.trans
    (t := { s with monitor := sensedMonitor r s, gap := (advanceReadingClock s).gap }) .plain (.of_still (sensed_still r s))
  have htramp : ∀ pressure u, Requests u (trampReading pressure u) := fun pressure u =>
    .plain (congrArg (fun v : State => v.memory) (trampReading_still pressure u) :)
      (congrArg (fun v : State => v.interface) (trampReading_still pressure u) :)
  have hweighed : ∀ output u, Requests u (estimateTonnage output u) := fun output u => by
    unfold estimateTonnage
    split <;> exact .plain
  rw [readingEvent_eq]
  exact ((((hsensed.trans (activityReading_requests _ _ _)).trans (htramp _ _)).trans (hweighed _ _)).trans
    (.of_still (wearChanged_still _))).settle

theorem windowClose_requests (s : State) : Requests s (windowClose s) := by
  have hopened : Requests s (reopened s) := .plain
  have htaken := hopened.trans (.of_still (historyTakes_still (closingSample s) _))
  rw [windowClose_eq]
  refine Requests.settle (htaken.trans ?_)
  unfold clearTakes
  split
  exacts [finishStopping_requests _, .refl _]

/-! ### Demands and requests -/

theorem frameEnds_requests (s : State) : Requests s (frameEnds s) := .plain

/-- What follows a change of G_t or of the span writes only what `still` blanks (R97, R100). -/
theorem targetChanged_requests {s t : State} (h : Requests s t) : Requests s (targetChanged t) :=
  h.trans (.of_still (targetChanged_still t))

theorem gapTargetArrives_requests (n : Nat) (s : State) : Requests s (gapTargetArrives n s) := by
  have hended : Requests s (endActiveOf .setGap (.stopped .superseded) s) := .of_still (endActiveOf_still _ _ s)
  have hdropped : ∀ u, Requests u (flagDropped u) := fun u => by
    unfold flagDropped
    split
    exacts [.of_still (updateActivity_still _ u), .refl u]
  rw [gapTargetArrives_eq]
  exact targetChanged_requests ((hended.trans (hdropped _)).trans .plain)

theorem storeDemand_requests (p : DemandPayload) (s : State) : Requests s (storeDemand p s) := by
  have hgap : Requests (sequenceStored p s) (gapStored p (sequenceStored p s)) := by
    unfold gapStored
    split
    · split
      exacts [gapTargetArrives_requests _ _, .refl _]
    · exact .refl _
  have hspan : ∀ u, Requests u (spanStored p u) := fun u => by
    unfold spanStored spanArrives
    split
    · split
      · split
        exacts [.refl u, targetChanged_requests .plain]
      · exact .refl u
    · exact .refl u
  rw [storeDemand_eq]
  exact Requests.trans (t := sequenceStored p s) .plain (hgap.trans (hspan _))

theorem actDemand_requests (p : DemandPayload) (c : Option Command) (s : State) : Requests s (actDemand p c s) := by
  have hnoted : ∀ u, Requests u (commandNoted c u) := fun u => by cases c <;> exact .plain
  have hacted : Requests s (actCommand c (storeDemand p s)) :=
    ((storeDemand_requests p s).trans (hnoted _)).trans (.of_still (actCommand_still c _))
  rcases actDemand_cases p c s with h | h <;> rw [h]
  exacts [hacted.settle, hacted]

theorem takeStatus_requests (source : Nat) (p : StatusPayload) (s : State) : Requests s (takeStatus source p s) := by
  unfold takeStatus
  split
  · exact .refl s
  · split
    · exact Requests.trans (t := { s with peers.lastDuplicate := some s.seconds }) .plain (.of_still (report_still _ _ _))
    · split <;> exact .plain

theorem onRequest_requests {header : Address} {act : State → State} {s : State}
    (h : Requests (frameEnds s) (act (frameEnds s))) : Requests s (onRequest header act s) :=
  onRequest_of (.refl s) (frameEnds_requests s) ((frameEnds_requests s).trans h)

theorem enqueue_requests (e : Entry) (s : State) : Requests s (enqueue e s) := by
  rcases enqueue_cases e s with ⟨a, h⟩ | ⟨-, a, h⟩ <;> rw [h]
  exacts [.plain, Requests.settle .plain]

theorem cancelEntry_requests (header : Address) (tag : BitVec 3) (argument : Word) (s : State) :
    Requests s (cancelEntry header tag argument s) := by
  rcases cancelEntry_cases header tag argument s with ⟨o, h⟩ | ⟨u, -, hu, -, h⟩ <;> rw [h]
  exacts [.plain, .settle_still ((answerNow_still _ _ _ _ u).trans hu)]

theorem clearFault_requests (header : Address) (tag : BitVec 3) (s : State) : Requests s (clearFault header tag s) := by
  rcases clearFault_cases header tag s with ⟨o, h⟩ | ⟨u, -, hu, h⟩ <;> rw [h]
  · exact .plain
  · exact Requests.trans (t := faultsCleared s) .plain (.settle_still ((answerNow_still _ _ _ _ u).trans hu))

/-! ### Timers of the Gap Controller -/

theorem stall_requests (s : State) : Requests s (stall s) := by
  rcases stall_cases s with h | ⟨u, h, -, hu, -⟩ <;> rw [h]
  exact .settle_still hu

theorem seekLimitExpires_requests (s : State) : Requests s (seekLimitExpires s) := by
  rcases seekLimitExpires_cases s with h | ⟨u, h, -, hu⟩ <;> rw [h]
  exact .settle_still hu

theorem pulseOffEnds_requests (s : State) : Requests s (pulseOffEnds s) := by
  rcases pulseOffEnds_cases s with ⟨-, h, -⟩ | ⟨k, p, h⟩
  · exact .of_still h
  · rw [h]
    exact (contact_requests k p s).settle

/-! ### The end of a campaign (R164) -/

/-- Handing on a campaign's end writes only what `still` blanks (R128). -/
theorem linerChangeTakes_still (e : CampaignEnd) (own : Bool) (s : State) : (linerChangeTakes e own s).still = s.still := by
  unfold linerChangeTakes
  split
  · split
    exacts [endActiveOf_still _ _ s, rfl]
  · rfl

/-- From the disabled memory and the idle interface that a campaign leaves, its end only requests records. -/
theorem campaignEnds_requests (e : CampaignEnd) (c : Campaign) (s : State) :
    Requests { s with memory := s.memory.setEnabled false, interface.campaign := none } (campaignEnds e c s) := by
  have htakes := linerChangeTakes_still e c.forLiner (campaignNoted e s)
  have hmemory : (linerChangeTakes e c.forLiner (campaignNoted e s)).memory = s.memory.setEnabled false :=
    State.memory_of_still htakes
  have hpending : (linerChangeTakes e c.forLiner (campaignNoted e s)).interface = s.interface :=
    (State.interface_of_still htakes).trans rfl
  rw [campaignEnds_eq]
  refine Requests.settle (Requests.trans ?_ (startPending_requests _))
  exact .plain hmemory (congrArg (fun i : SettingInterface => { i with campaign := none }) hpending)

/-! ### Every command -/

/-- Every command but RESET, the end of a start sequence and a campaign's own two events only requests records. -/
theorem exec_requests {c : Instr} {s t : State} (h : exec c s = .next t) (hr : c ≠ .reset)
    (hstart : ∀ straps memory, c ≠ .startSequenceEnd straps memory) (hready : c ≠ .wordReady)
    (htimer : c ≠ .readyTimerExpiry) : Requests s t := by
  have hends := frameEnds_requests s
  cases c with
  | reset => exact absurd rfl hr
  | startSequenceEnd straps memory => exact absurd rfl (hstart straps memory)
  | wordReady => exact absurd rfl hready
  | readyTimerExpiry => exact absurd rfl htimer
  | readingEvent r =>
    cases h
    split
    exacts [readingEvent_requests r s, .refl s]
  | beltScalePulse =>
    cases h
    split
    · exact Requests.trans (t := pulsed s) .plain (.settle_still (wearChanged_still _))
    · exact .refl s
  | windowClose =>
    cases h
    split
    exacts [windowClose_requests s, .refl s]
  | statusArrival header own p =>
    cases h
    refine onFrame_of (.refl s) ?_
    split
    exacts [hends.trans (takeStatus_requests _ _ _), hends]
  | demand header p | run header p | stop header p =>
    cases h
    exact takeDemand_of (.refl s) hends (hends.trans (actDemand_requests _ _ _))
  | setGap | calibrate | linerChange =>
    cases h
    exact onRequest_requests (enqueue_requests _ _)
  | cancel header tag argument =>
    cases h
    exact onRequest_requests (cancelEntry_requests _ _ _ _)
  | holdFeed header tag =>
    cases h
    exact onRequest_requests (.of_still (holdFeed_still _ _ _))
  | releaseFeed header tag =>
    cases h
    exact onRequest_requests (.of_still (releaseFeed_still _ _ _))
  | clearFault header tag =>
    cases h
    exact onRequest_requests (clearFault_requests _ _ _)
  | queryFault | queryWear | queryShare | queryQueue | badKind =>
    cases h
    exact onRequest_requests .plain
  | answerFrameReceived | frameDiscarded =>
    cases h
    exact onFrame_of (.refl s) hends
  | rampInterval =>
    cases h
    split
    · rw [rampInterval_eq]
      exact .plain
    · exact .refl s
  | motorRunningFall =>
    cases h
    refine Requests.trans (t := { s with motorRunning := false }) .plain ?_
    dsimp only
    split
    exacts [.of_still (report_still _ _ _), .refl _]
  | motorRunningRise =>
    cases h
    exact Requests.trans (t := { s with motorRunning := true }) .plain (.of_still (internalCalibrationTest_still _))
  | primingTimerExpiry =>
    cases h
    split
    · exact Requests.trans (t := { s with run.primingTimer := none }) .plain (.of_still (report_still _ _ _))
    · exact .refl s
  | clearTimerExpiry =>
    cases h
    split
    exacts [finishStopping_requests s, .refl s]
  | stallTimerExpiry =>
    cases h
    split
    exacts [stall_requests s, .refl s]
  | seekLimitExpiry =>
    cases h
    split
    exacts [seekLimitExpires_requests s, .refl s]
  | seekPulseOnEnd =>
    cases h
    split
    exacts [.of_still (pulseOnEnds_effect s).2.1, .refl s]
  | seekPulseOffEnd =>
    cases h
    split
    exacts [pulseOffEnds_requests s, .refl s]
  | settleTimerExpiry =>
    cases h
    split
    · split
      exacts [.settle_still (reliefEnds_effect s).2.1, .refl s]
    · exact .refl s
  | supplyLowRise =>
    cases h
    have hcut : Requests s { s with
        supplyLow := true, interface.campaign := s.interface.campaign.map (fun c => { c with cutOff := true }) } :=
      .kept rfl (by simp [State.writing, Function.comp_def])
    dsimp only
    split
    exacts [.plain, hcut.trans (.of_still (report_still _ _ _))]
  | supplyLowFall =>
    cases h
    exact Requests.trans (t := { s with supplyLow := false }) .plain (startPending_requests _)
  | ageingEvent | sharePeriodExpiry | transmitAttempt | reportTimerExpiry =>
    cases h
    split <;> exact .plain
  | frameSent | collision =>
    cases h
    split
    · split <;> exact .plain
    · exact .refl s
  | lineIdle =>
    cases h
    exact .plain

end Sys2Proof.Machine

/-! ## The setting memory stays consistent (O57) -/

namespace Sys2Proof.Machine

/-! ### A campaign's own events (R164) -/

theorem MemoryForm.word_mem {s : State} {c : Campaign} (h : MemoryForm s) (hc : s.interface.campaign = some c) :
    64 ≤ c.word ∧ c.word ≤ 71 :=
  h.2 _ (by simp [State.writing, hc])

/-- However a campaign ends, its end leaves the memory in its form, and write-enabled only where the next one has begun. -/
theorem campaignEnds_consistent (e : CampaignEnd) (c : Campaign) {s : State} (h : s.memory.wf = true) :
    MemoryForm (campaignEnds e c s) ∧ EnabledInCampaign (campaignEnds e c s) := by
  have hends := campaignEnds_requests e c s
  exact ⟨hends.form ⟨Memory.setEnabled_wf false h, nofun⟩, hends.enabled rfl⟩

/-- The next word of a campaign. -/
theorem campaignWord_consistent (c : Campaign) {n : Nat} {s : State} (h : s.memory.wf = true) (h64 : 64 ≤ n) (h71 : n ≤ 71) :
    MemoryForm (campaignWord c n s) ∧ (s.memory.enabled = true → EnabledInCampaign (campaignWord c n s)) := by
  refine ⟨⟨Memory.write_wf _ (by omega) h, ?_⟩, fun henabled => ?_⟩
  · simp only [State.writing, campaignWord_interface, Option.map_some, Option.mem_some_iff, forall_eq']
    exact ⟨h64, h71⟩
  · rw [EnabledInCampaign, campaignWord_memory, Memory.write_keeps_enabled, henabled]
    rfl

theorem wordReady_consistent {c : Campaign} {s : State} (hs : MemoryForm s) (hc : s.interface.campaign = some c) :
    MemoryForm (wordReady c s) ∧ (EnabledInCampaign s → EnabledInCampaign (wordReady c s)) := by
  obtain ⟨h64, h71⟩ := hs.word_mem hc
  unfold wordReady
  split
  · obtain ⟨hform, henabled⟩ := campaignEnds_consistent .completed c hs.1
    exact ⟨hform, fun _ => henabled⟩
  · split
    · obtain ⟨hform, henabled⟩ := campaignEnds_consistent .cutShort c (cutShort_wf (c := c) hs.1 (by omega))
      exact ⟨hform, fun _ => henabled⟩
    · obtain ⟨hform, henabled⟩ := campaignWord_consistent c hs.1 (n := c.word + 1) (by omega) (by omega)
      refine ⟨hform, fun h => henabled ?_⟩
      rw [h, State.writing, hc]
      rfl

theorem exec_wordReady_consistent {s t : State} (h : exec .wordReady s = .next t) (hs : MemoryForm s) :
    MemoryForm t ∧ (EnabledInCampaign s → EnabledInCampaign t) := by
  have hfinish : MemoryForm { s with memory := s.memory.finish } := ⟨Memory.finish_wf hs.1, hs.2⟩
  have henabled : EnabledInCampaign s → EnabledInCampaign { s with memory := s.memory.finish } :=
    fun he => (Memory.finish_enabled _).trans he
  cases h
  dsimp only
  split
  · next c hc =>
    obtain ⟨hform, hkeeps⟩ := wordReady_consistent hfinish hc
    exact ⟨hform, hkeeps ∘ henabled⟩
  · exact ⟨hfinish, henabled⟩

theorem exec_readyTimerExpiry_consistent {s t : State} (h : exec .readyTimerExpiry s = .next t) (hs : MemoryForm s) :
    MemoryForm t ∧ (EnabledInCampaign s → EnabledInCampaign t) := by
  cases h
  split
  · next c hc =>
    obtain ⟨h64, h71⟩ := hs.word_mem hc
    obtain ⟨hform, henabled⟩ :=
      campaignEnds_consistent .timedOut c (s := giveUpWord c s) (Memory.spoil_wf _ (by omega) hs.1)
    exact ⟨hform, fun _ => henabled⟩
  · exact ⟨hs, id⟩

/-- Every command but RESET and the end of a start sequence keeps form and write-enable. -/
theorem exec_consistent {c : Instr} {s t : State} (h : exec c s = .next t) (hr : c ≠ .reset)
    (hstart : ∀ straps memory, c ≠ .startSequenceEnd straps memory) (hs : MemoryForm s) :
    MemoryForm t ∧ (EnabledInCampaign s → EnabledInCampaign t) := by
  by_cases hready : c = .wordReady
  · subst hready
    exact exec_wordReady_consistent h hs
  by_cases htimer : c = .readyTimerExpiry
  · subst htimer
    exact exec_readyTimerExpiry_consistent h hs
  have hrequests := exec_requests h hr hstart hready htimer
  exact ⟨hrequests.form hs, hrequests.enabled⟩

/-! ### No record is requested in STARTING (R38, R161) -/

/-- In STARTING the events of the blocks do nothing, no request is taken up and no demand accepted: an idle interface stays idle. -/
theorem exec_interface_of_starting {c : Instr} {s t : State} (h : exec c s = .next t) (hr : c ≠ .reset)
    (hstart : ∀ straps memory, c ≠ .startSequenceEnd straps memory) (hs : s.run.state = .starting)
    (hnone : s.interface.campaign = none) (hpending : s.interface.pending = none) : t.interface = s.interface := by
  have hinactive : s.active = false := by rw [State.active, hs]; rfl
  have hoff : ¬ s.active = true := by simp [hinactive]
  cases c with
  | reset => exact absurd rfl hr
  | startSequenceEnd straps memory => exact absurd rfl (hstart straps memory)
  | readingEvent | windowClose | ageingEvent | sharePeriodExpiry | rampInterval =>
    cases h
    rw [if_neg hoff]
  | beltScalePulse | stallTimerExpiry | seekLimitExpiry | seekPulseOnEnd | seekPulseOffEnd =>
    cases h
    rw [if_neg fun hon => hoff hon.1]
  | statusArrival header own p =>
    cases h
    refine onFrame_of (P := fun t => t.interface = s.interface) rfl ?_
    rw [if_neg fun ⟨_, _, _, hon⟩ => hoff hon]
    rfl
  | demand header p | run header p | stop header p =>
    cases h
    have hreject : (frameEnds s).acceptsDemand header p = false := by simp [State.acceptsDemand, hs]
    refine onFrame_of (P := fun t => t.interface = s.interface) rfl ?_
    rw [if_neg (by simp [hreject])]
    rfl
  | setGap | calibrate | linerChange | cancel | holdFeed | releaseFeed | clearFault | queryFault | queryWear | queryShare
  | queryQueue | badKind =>
    cases h
    rw [onRequest_discarded _ (.inr hinactive)]
    rfl
  | answerFrameReceived | frameDiscarded =>
    cases h
    exact onFrame_of (P := fun t => t.interface = s.interface) rfl rfl
  | motorRunningFall =>
    cases h
    dsimp only
    rw [hs]
    rfl
  | motorRunningRise =>
    cases h
    exact (State.interface_of_still (internalCalibrationTest_still { s with motorRunning := true })).trans rfl
  | primingTimerExpiry | clearTimerExpiry =>
    cases h
    rw [if_neg fun hon => State.state_ne_of_inactive hinactive rfl hon.1]
  | settleTimerExpiry =>
    cases h
    split
    · rw [if_neg hoff]
    · rfl
  | readyTimerExpiry | wordReady =>
    cases h
    simp only [hnone]
  | supplyLowRise =>
    cases h
    dsimp only
    rw [if_pos hs]
  | supplyLowFall =>
    cases h
    rw [startPending_of_none (s := { s with supplyLow := false }) hpending]
  | transmitAttempt | reportTimerExpiry =>
    cases h
    split <;> rfl
  | frameSent | collision =>
    cases h
    split
    · split <;> rfl
    · rfl
  | lineIdle =>
    cases h
    rfl

/-! ### Reset and the end of the start sequence (R161, R167) -/

theorem memoryThroughReset_wf {s : State} (hs : MemoryForm s) : (memoryThroughReset s).memory.wf = true := by
  have hfinish : s.memory.finish.wf = true := Memory.finish_wf hs.1
  unfold memoryThroughReset
  dsimp only
  split
  · next c hc =>
    obtain ⟨h64, h71⟩ := hs.word_mem hc
    split
    exacts [cutShort_wf (c := c) (s := { s with memory := s.memory.finish }) hfinish (by omega), hfinish]
  · exact hfinish

theorem exec_reset_memorySafe {s t : State} (h : exec .reset s = .next t) (hs : MemoryForm s) : MemorySafe t := by
  cases h
  exact ⟨memoryThroughReset_wf hs, nofun, fun hstate => absurd rfl hstate, fun _ => ⟨rfl, rfl⟩⟩

/-- No record is requested by the verdict on the configuration. -/
theorem judged_interface (straps : Nat) (m : Memory) (s : State) : (judged straps m s).interface = s.interface := by
  unfold judged
  split
  · unfold startConfigured startTarget
    rw [referenceFromRecord_frame]
    rfl
  · rw [startUnconfigured_eq]
    rfl

/-- The verdict takes the station out of STARTING (R38). -/
theorem judged_started (straps : Nat) (m : Memory) (s : State) : (judged straps m s).run.state ≠ .starting := by
  obtain ⟨-, -, hrun, -⟩ := judged_fields straps m s
  rw [hrun]
  dsimp only
  split <;> nofun

theorem reportLowSupply_started {s : State} (h : s.run.state ≠ .starting) :
    (reportLowSupply s).run.state ≠ .starting := by
  unfold reportLowSupply
  split
  · rw [report_state]
    split
    exacts [nofun, h]
  · exact h

/-- The start sequence leaves the memory that answered its READs, write-disabled, and an idle interface. -/
theorem startSequenceEnd_memorySafe (straps : Nat) (source : StartMemory) {s : State} (hs : MemoryForm s)
    (hnone : s.interface.campaign = none) : MemorySafe (startSequenceEnd straps source s) := by
  have hstill : (startSequenceEnd straps source s).still =
      (reportStatus (judged straps (startMemory s.memory source) s)).still := reportLowSupply_still _
  have hmemory : (startSequenceEnd straps source s).memory = startMemory s.memory source := by
    obtain ⟨-, -, -, -, hread, -⟩ := judged_fields straps (startMemory s.memory source) s
    exact (State.memory_of_still hstill).trans hread
  have hinterface : (startSequenceEnd straps source s).interface = s.interface :=
    (State.interface_of_still hstill).trans (judged_interface _ _ _)
  have hstate : (startSequenceEnd straps source s).run.state ≠ .starting := reportLowSupply_started (judged_started _ _ _)
  have hdisabled : (startMemory s.memory source).enabled = false := by cases source <;> rfl
  have hwriting : (startSequenceEnd straps source s).writing = none := State.writing_eq_none.2 (by rw [hinterface, hnone])
  refine memorySafe_iff.2 ⟨⟨hmemory ▸ startMemory_wf source hs.1, by simp [hwriting]⟩, fun _ => ?_,
    fun h => absurd h hstate⟩
  rw [EnabledInCampaign, hmemory, hdisabled, hwriting]
  rfl

/-! ### The invariant (O57) -/

/-- Only RESET takes a station to STARTING (R38, R167). -/
theorem exec_started {c : Instr} {s t : State} (h : exec c s = .next t) (hr : c ≠ .reset) (hs : s.run.state ≠ .starting) :
    t.run.state ≠ .starting := by
  by_cases hactive : s.active = true
  · intro hstarting
    have ht := exec_active h hr hactive
    rw [State.active, hstarting] at ht
    cases ht
  · by_cases hstart : ∃ straps source, c = .startSequenceEnd straps source
    · obtain ⟨straps, source, rfl⟩ := hstart
      rwa [execStartSequenceEnd_of_started hs h]
    · rwa [exec_state_of_inactive h (by simpa using hactive) hr fun straps source hc => hstart ⟨_, _, hc⟩]

theorem exec_memorySafe {c : Instr} {s t : State} (h : exec c s = .next t) (hs : MemorySafe s) : MemorySafe t := by
  obtain ⟨hform, henabled, hidle⟩ := memorySafe_iff.1 hs
  by_cases hr : c = .reset
  · subst hr
    exact exec_reset_memorySafe h hform
  by_cases hstart : ∃ straps source, c = .startSequenceEnd straps source
  · obtain ⟨straps, source, rfl⟩ := hstart
    by_cases hstarting : s.run.state = .starting
    · cases h
      rw [if_pos hstarting]
      exact startSequenceEnd_memorySafe _ _ hform (hidle hstarting).1
    · rwa [execStartSequenceEnd_of_started hstarting h]
  have hother : ∀ straps source, c ≠ .startSequenceEnd straps source := fun straps source hc => hstart ⟨_, _, hc⟩
  obtain ⟨htform, htenabled⟩ := exec_consistent h hr hother hform
  refine memorySafe_iff.2 ⟨htform, fun hne => htenabled (henabled fun hstarting => hne ?_), fun ht => ?_⟩
  · exact (exec_state_of_inactive h (by rw [State.active, hstarting]; rfl) hr hother).trans hstarting
  · have hstarting : s.run.state = .starting := by
      by_contra hs'
      exact exec_started h hr hs' ht
    obtain ⟨hnone, hpending⟩ := hidle hstarting
    rw [exec_interface_of_starting h hr hother hstarting hnone hpending]
    exact ⟨hnone, hpending⟩

/-- A millisecond takes time from the ready timer only (R164). -/
theorem tick_memorySafe {s : State} (h : MemorySafe s) : MemorySafe (tick s) := by
  obtain ⟨hform, henabled, hidle⟩ := memorySafe_iff.1 h
  have hwriting : (tick s).writing = s.writing := by simp [State.writing, tick, Function.comp_def]
  refine memorySafe_iff.2 ⟨?_, fun hne => ?_, fun hstarting => ?_⟩
  · rwa [MemoryForm, hwriting]
  · rw [EnabledInCampaign, hwriting]
    exact henabled hne
  · obtain ⟨hnone, hpending⟩ := hidle hstarting
    exact ⟨by simp [tick, hnone], hpending⟩

/-- Settles O57: a campaign's own two events keep the memory consistent (`exec_wordReady_consistent`,
`exec_readyTimerExpiry_consistent`), every other event of a started station only requests records (`exec_requests`), and in STARTING
none is requested (`exec_interface_of_starting`). -/
theorem settingMemoryStaysConsistent : Obligations.SettingMemoryStaysConsistent := by
  unfold Obligations.SettingMemoryStaysConsistent
  intro s t hs h
  unfold step at h
  split at h
  · cases h
    exact tick_memorySafe hs
  · next c rest _ => exact exec_memorySafe (s := { s with pending := rest }) h hs

end Sys2Proof.Machine

/-! ## A campaign writes its words in order (O58) -/

namespace Sys2Proof.Machine

section
variable {s : State} {c : Campaign} (hc : s.interface.campaign = some c)
include hc

/-- Before its last word a campaign that is not cut off goes on to the next (R164). -/
theorem exec_wordReady_of_next (hw : c.word ≠ 71) (hcut : c.cutOff = false) :
    exec .wordReady s = .next (campaignWord c (c.word + 1) { s with memory := s.memory.finish }) := by
  have hready : wordReady c { s with memory := s.memory.finish } =
      campaignWord c (c.word + 1) { s with memory := s.memory.finish } := (if_neg hw).trans (if_neg (by simp [hcut]))
  rw [← hready]
  simp only [exec, execWordReady, hc]

end

/-- The end of a campaign leaves every word as it reads once the word in progress is finished (R160). -/
theorem campaignEnds_read (e : CampaignEnd) (c : Campaign) {s : State} (h : s.memory.programming = none) (a : Nat) :
    (campaignEnds e c s).memory.read a = s.memory.read a :=
  (campaignEnds_requests e c s).read h a

/-- With nothing pending and no request queued, the end of a campaign disables the memory and leaves the interface idle, in every run
state. -/
theorem campaignEnds_of_unqueued (e : CampaignEnd) (c : Campaign) {s : State} (hn : s.interface.pending = none)
    (hq : s.queue = []) :
    (campaignEnds e c s).interface = { campaign := none, pending := none } ∧
      (campaignEnds e c s).memory = s.memory.setEnabled false := by
  have hend : campaignEnds e c s =
      settle { campaignNoted e s with interface := { campaign := none, pending := none } } := by
    rw [campaignEnds_eq, linerChangeTakes_of_nil e c.forLiner (s := campaignNoted e s) hq, startPending_of_none (by exact hn)]
    simp only [campaignNoted, hn]
  have hrests := settle_rests (s := { campaignNoted e s with interface := { campaign := none, pending := none } }) hq
  rw [hend]
  exact ⟨State.interface_of_still hrests.still, State.memory_of_still hrests.still⟩

/-- Settles O58: the word in progress is finished at WORD_READY (`Memory.finish_read_same`), the next one changes no word that reads
back (`Memory.write_read`), and neither does the end of the campaign (`campaignEnds_read`). -/
theorem campaignWritesItsWordsInOrder : Obligations.CampaignWritesItsWordsInOrder := by
  unfold Obligations.CampaignWritesItsWordsInOrder
  intro s c hc hcut hwf henabled h64 h71 hprogramming hwritten
  have hother : ∀ a, a ≠ c.word → s.memory.finish.read a = s.memory.read a :=
    fun a ha => Memory.finish_read_other hprogramming ha
  have hrecord : ∀ a, 64 ≤ a → a ≤ c.word → s.memory.finish.read a = c.record.word s.stationNumber a := by
    intro a ha hle
    rcases hle.eq_or_lt with rfl | hlt
    · exact Memory.finish_read_same hwf hprogramming
    · rw [hother a hlt.ne, hwritten a ha hlt]
  by_cases hlast : c.word = 71
  case neg =>
    have hmemory : s.memory.finish.enabled = true := (Memory.finish_enabled _).trans henabled
    have hread : ∀ a v, (s.memory.finish.write (c.word + 1) v).read a = s.memory.finish.read a := fun a v => by
      rw [Memory.write_read hmemory, Memory.finish_idle (Memory.finish_programming _)]
    refine ⟨_, exec_wordReady_of_next hc hlast hcut, fun a ha hle => (hread a _).trans (hrecord a ha hle),
      fun a ha => (hread a _).trans (hother a ha), fun _ => ⟨rfl, ?_, ?_⟩, fun h => absurd h hlast⟩
    · exact (Memory.write_keeps_enabled _ _ _).trans hmemory
    · rw [campaignWord_memory, Memory.write_enabled _ _ hmemory]
  case pos =>
    have hread := campaignEnds_read .completed c (s := { s with memory := s.memory.finish }) (Memory.finish_programming _)
    refine ⟨_, exec_wordReady_of_last hc hlast, fun a ha hle => (hread a).trans (hrecord a ha hle),
      fun a ha => (hread a).trans (hother a ha), fun h => by omega, fun _ hn hq => ?_⟩
    obtain ⟨hinterface, hmemory⟩ := campaignEnds_of_unqueued .completed c (s := { s with memory := s.memory.finish }) hn hq
    rw [hmemory]
    exact ⟨hinterface, rfl, Memory.finish_programming _⟩

end Sys2Proof.Machine

/-! ## Layouts read back, and the machine right after reset (O55, O8) -/

namespace Sys2Proof.Machine

/-! ### Payloads (section 12.6) -/

/-- The 11 bytes of a DEMAND are read back as the DEMAND that they lay out. -/
theorem demandOfBytes_bytes (p : DemandPayload) : demandOfBytes p.bytes = some p := by
  simp only [DemandPayload.bytes, demandOfBytes, joinBytes_hiByte_loByte]

/-! ### Wear records (section 12.5, R163, R164) -/

/-- The sum of words, as a number. -/
theorem toNat_sum_words (ws : List Word) : ws.sum.toNat = (ws.map BitVec.toNat).sum % 65536 := by
  induction ws with
  | nil => rfl
  | cons w ws ih => simp [BitVec.toNat_add, ih]

/-- The check word brings the sum of the eight words to 0 (R164). -/
theorem WearRecord.wordSum_word (r : WearRecord) (station : Nat) : wordSum (fun a => r.word station a) 64 8 = 0 := by
  have hwords : (List.range 8).map (fun i => (r.word station (64 + i)).toNat) =
      ((r.words station) ++ [r.checkWord station]).map BitVec.toNat := rfl
  have hsum : ((r.words station) ++ [r.checkWord station]).sum = 0 := by
    rw [List.sum_append, List.sum_singleton, WearRecord.checkWord, add_neg_cancel]
  rw [wordSum, hwords, ← toNat_sum_words, hsum]
  rfl

/-- A number that fits a word. -/
theorem toNat_ofNat_word {n : Nat} (h : n ≤ 65535) : (BitVec.ofNat 16 n).toNat = n := by
  rw [BitVec.toNat_ofNat]
  omega

theorem absentWord_some_toNat {c : Nat} (h : c ≤ 4095) : (absentWord (some c)).toNat = c := toNat_ofNat_word (by omega)

theorem absentWord_some_ne {c : Nat} (h : c ≤ 4095) : absentWord (some c) ≠ 0xFFFF := fun he => by
  have hc := absentWord_some_toNat h
  rw [he] at hc
  have hall : (0xFFFF : Word).toNat = 65535 := rfl
  omega

/-- The next start finds the record valid (R163). -/
theorem WearRecord.wearRecordValid_word {r : WearRecord} {station : Nat} (hstation : station ≤ 30)
    (hcontact : ∀ c ∈ r.contact, c ≤ 4095) : wearRecordValid station (fun a => r.word station a) = true := by
  have hnumber : (r.word station 70).toNat = station := toNat_ofNat_word (by omega)
  have hposition : (r.word station 64).toNat ≤ 4095 ∨ r.word station 64 = 0xFFFF := by
    have hword : r.word station 64 = absentWord r.contact := rfl
    rw [hword]
    cases hc : r.contact with
    | none => exact .inr rfl
    | some c =>
      have hle := hcontact c hc
      exact .inl ((absentWord_some_toNat hle).trans_le hle)
  simp only [wearRecordValid, Bool.and_eq_true, Bool.or_eq_true, decide_eq_true_eq]
  exact ⟨⟨⟨r.wordSum_word station, rfl⟩, hnumber⟩, hposition⟩

/-- And reads its fields back. -/
theorem WearRecord.decode_word {r : WearRecord} (station : Nat) (hcontact : ∀ c ∈ r.contact, c ≤ 4095)
    (htonnes : r.linerTonnes ≤ 65535) (hwear : r.linerWear ≤ 65535) (hacc : r.wearAcc ≤ 65535) (hcount : r.calCount ≤ 65535) :
    decodeWearRecord (fun a => r.word station a) = r := by
  obtain ⟨contact, tonnes, wear, acc, count⟩ := r
  have hread : (if absentWord contact = 0xFFFF then none else some (absentWord contact).toNat) = contact := by
    cases contact with
    | none => rfl
    | some c =>
      have hle := hcontact c rfl
      rw [if_neg (absentWord_some_ne hle), absentWord_some_toNat hle]
  simp only [decodeWearRecord, WearRecord.mk.injEq]
  exact ⟨hread, toNat_ofNat_word htonnes, toNat_ofNat_word hwear, toNat_ofNat_word hacc, toNat_ofNat_word hcount⟩

/-! ### The row of received bytes (R152, section 12.6) -/

/-- A DEMAND stands under the row of its command (log entry 17). -/
theorem demandCommand_wellFormed (header : Address) (p : DemandPayload) : (demandCommand header p).wellFormed = true := by
  unfold demandCommand
  split <;> simp [Instr.wellFormed, *]

/-- A REQUEST stands under BAD_KIND only where no other row takes it (R143). -/
theorem requestCommand_wellFormed (header : Address) (flags code : Byte) (argument : Word) :
    (requestCommand header flags code argument).wellFormed = true := by
  unfold requestCommand
  extract_lets tag noRetry
  split
  case h_8 hquery =>
    split
    case h_5 _ h1 h2 h3 h4 =>
      have hundefined : argument.toNat = 0 ∨ 4 < argument.toNat := by
        simp only [imp_false] at h1 h2 h3 h4
        omega
      simpa [Instr.wellFormed, requestUndefined, hquery, within] using hundefined
    all_goals rfl
  case h_9 hnone => simp [Instr.wellFormed, requestUndefined, hnone]
  all_goals rfl

theorem payloadCommand_wellFormed (own : Bool) (header : Address) (kind : Nat) (payload : List Byte) :
    (payloadCommand own header kind payload).wellFormed = true := by
  unfold payloadCommand
  split
  · cases statusOfBytes payload <;> rfl
  · cases demandOfBytes payload with
    | none => rfl
    | some p => exact demandCommand_wellFormed header p
  · split
    exacts [requestCommand_wellFormed _ _ _ _, rfl]
  · rfl
  · rfl

theorem commandOfFrame_wellFormed (own : Bool) (bytes : List Byte) : (commandOfFrame own bytes).wellFormed = true := by
  unfold commandOfFrame
  split
  · split
    exacts [payloadCommand_wellFormed _ _ _ _, rfl]
  · rfl

/-- Settles O55: the payloads by `statusOfBytes_bytes` and `demandOfBytes_bytes`, the wear record by `WearRecord.wearRecordValid_word`
and `WearRecord.decode_word`, and received bytes by `commandOfFrame_wellFormed`. -/
theorem layoutsReadBack : Obligations.LayoutsReadBack := by
  unfold Obligations.LayoutsReadBack
  exact ⟨fun p => ⟨rfl, statusOfBytes_bytes p⟩, fun p => ⟨rfl, demandOfBytes_bytes p⟩,
    fun r station _ hstation hcontact htonnes hwear hacc hcount =>
      ⟨WearRecord.wearRecordValid_word hstation hcontact, WearRecord.decode_word station hcontact htonnes hwear hacc hcount⟩,
    commandOfFrame_wellFormed⟩

/-! ### The machine right after reset (R167) -/

/-- Settles O8: after reset the station is not active, in STARTING and HOLDING, its lists are empty and feeder, capacity and trim
factor at rest. -/
theorem safeAtReset : Obligations.SafeAtReset := by
  unfold Obligations.SafeAtReset
  refine ⟨?feeder, fun _ => rfl, ?setpoint, ?run, ?queue, ?line, ?memory, ?peers, ?trim, ?faults, ?history⟩
  case feeder => exact ⟨nofun, fun _ => ⟨rfl, rfl⟩, .inl rfl, .inl rfl, fun _ => rfl⟩
  case setpoint => exact ⟨Nat.zero_le _, nofun, nofun, nofun⟩
  case run => exact ⟨nofun, nofun, ⟨nofun, nofun⟩, nofun, fun h => nomatch h.1⟩
  case queue => exact ⟨Nat.zero_le _, nofun, .nil, fun _ => rfl, rfl⟩
  case line => exact ⟨Nat.zero_le _, fun _ => ⟨rfl, rfl⟩, Nat.zero_le _, fun _ => Nat.zero_le _⟩
  case memory => exact ⟨reset_memory_wf, nofun, fun h => absurd rfl h, fun _ => ⟨rfl, rfl⟩⟩
  case peers => exact ⟨.nil, nofun, fun _ => rfl⟩
  case trim => exact ⟨nofun, fun _ => rfl, nofun, nofun⟩
  case faults => exact ⟨.nil, fun _ => ⟨rfl, rfl⟩⟩
  case history => exact ⟨Nat.zero_le _, fun _ => rfl, fun _ => rfl, fun _ => rfl, fun _ => rfl⟩

end Sys2Proof.Machine
